-- ==== Sys2Proof/Word.lean ====
section
/-! DEFINITION. Sys2Proof/Word.lean: the character of a link, the 16-bit word of the frame check, and the plainest
arithmetic of counters (R3). -/

namespace Sys2Proof

/-- A character of a master link: 8 data bits (R158). -/
abbrev Byte := BitVec 8

/-- A 16-bit word: the frame check (R158). -/
abbrev Word16 := BitVec 16

/-- One count of a saturating counter whose largest value is `top` (R3). -/
def satInc (top n : Nat) : Nat := if n < top then n + 1 else top

/-- One count of a wrapping counter whose largest value is `top` (R3). -/
def wrapInc (top n : Nat) : Nat := if n < top then n + 1 else 0

/-- A value brought into `lo` to `hi` (the clamps of R7 and R24). -/
def clampInt (lo hi x : Int) : Int := if x < lo then lo else if hi < x then hi else x

/-- The entry at the 1-based place `i` of a table, 0 outside it. -/
def atPlace (l : List Int) (i : Nat) : Int := if i = 0 then 0 else l.getD (i - 1) 0

end Sys2Proof
end

