-- ==== Sys2Proof/Config.lean ====
section
/-! DEFINITION. Sys2Proof/Config.lean: what the part's wiring fixes and no configuration item can change: its volumes,
chambers, channels, links, gauges, bus devices and input functions, with the numbers the spec gives them (R1, R4, R119,
R152), and the containers that hold one thing for each of them. The spec leaves no VALUE of the part to an
implementation, so there is no free constant here. -/

namespace Sys2Proof

/-- The four chambers, volumes 1 to 4 (R1). -/
inductive Chamber where
  | c1 | c2 | c3 | c4
  deriving DecidableEq, Repr

/-- The two loadlocks: LLA is volume 6, LLB is volume 7 (R1). -/
inductive Loadlock where
  | a | b
  deriving DecidableEq, Repr

/-- The seven vacuum volumes (R1). -/
inductive Volume where
  | ch (c : Chamber)
  | tc
  | ll (l : Loadlock)
  deriving DecidableEq, Repr

/-- The volumes that have a turbo pump behind a gate valve (R1). -/
inductive Turbo where
  | ch (c : Chamber)
  | tc
  deriving DecidableEq, Repr

/-- The five master links: CC1 to CC4 on MLP1 to MLP4, TXC on MLP5 (R1, chapter 10). -/
inductive Link where
  | cc (c : Chamber)
  | txc
  deriving DecidableEq, Repr

/-- The six gas channels of a chamber (R1). -/
inductive Chan where
  | k1 | k2 | k3 | k4 | k5 | k6
  deriving DecidableEq, Repr

/-- The nine pressure channels: a gauge for each volume, the manifold gauge (8) and the header gauge (9) (R4). -/
inductive Gauge where
  | vol (v : Volume)
  | manifold
  | header
  deriving DecidableEq, Repr

/-- The three auxiliary inputs, 14 to 16 (R4). -/
inductive Aux where
  | aux1 | aux2 | aux3
  deriving DecidableEq, Repr

/-- The 28 devices of the device bus (R119). -/
inductive Device where
  | mfc (c : Chamber) (k : Chan)
  | throttle (c : Chamber)
  deriving DecidableEq, Repr

/-- The six slit valves: one for each chamber and each loadlock (R147). -/
inductive Slit where
  | ch (c : Chamber)
  | ll (l : Loadlock)
  deriving DecidableEq, Repr

/-- The 18 input functions (R152). -/
inductive InputFn where
  | facilityGasOk
  | exhaustOk
  | emergencyOff
  | plasma (c : Chamber)
  | lid (c : Chamber)
  | turbo (t : Turbo)
  | door (l : Loadlock)
  deriving DecidableEq, Repr

/-- A setpoint value of a SET: a flow for an MFC, a pressure code or OPEN for a throttle controller (R119). -/
inductive BusValue where
  | flow (fu : Nat)
  | code (p : Int)
  | opened
  deriving DecidableEq, Repr

/-- A reading of a READ answer: an actual flow (MFC), or the setpoint held and whether the controller reports itself in
control (throttle controller) (R119). -/
inductive Reading where
  | flow (fu : Nat)
  | throttle (held : BusValue) (inControl : Bool)
  deriving DecidableEq, Repr

/-! ## Numbers -/

def Chamber.num : Chamber → Nat
  | .c1 => 1 | .c2 => 2 | .c3 => 3 | .c4 => 4

def Chamber.ofNum : Nat → Option Chamber
  | 1 => some .c1 | 2 => some .c2 | 3 => some .c3 | 4 => some .c4 | _ => none

def Chamber.all : List Chamber := [.c1, .c2, .c3, .c4]

/-- The volume numbers of R1. -/
def Volume.num : Volume → Nat
  | .ch c => c.num | .tc => 5 | .ll .a => 6 | .ll .b => 7

def Volume.ofNum : Nat → Option Volume
  | 1 => some (.ch .c1) | 2 => some (.ch .c2) | 3 => some (.ch .c3) | 4 => some (.ch .c4)
  | 5 => some .tc | 6 => some (.ll .a) | 7 => some (.ll .b) | _ => none

/-- The volumes in ascending number. -/
def Volume.all : List Volume := [.ch .c1, .ch .c2, .ch .c3, .ch .c4, .tc, .ll .a, .ll .b]

/-- The turbo fitting of a volume (R1): none for a loadlock. -/
def Volume.turbo? : Volume → Option Turbo
  | .ch c => some (.ch c) | .tc => some .tc | .ll _ => none

/-- The chamber that a volume is, if it is one. -/
def Volume.chamber? : Volume → Option Chamber
  | .ch c => some c | _ => none

/-- The master of a volume (R1): fixed, not configurable. -/
def Volume.master : Volume → Link
  | .ch c => .cc c | _ => .txc

def Turbo.volume : Turbo → Volume
  | .ch c => .ch c | .tc => .tc

def Turbo.num : Turbo → Nat
  | .ch c => c.num | .tc => 5

def Turbo.ofNum : Nat → Option Turbo
  | 1 => some (.ch .c1) | 2 => some (.ch .c2) | 3 => some (.ch .c3) | 4 => some (.ch .c4)
  | 5 => some .tc | _ => none

def Turbo.all : List Turbo := [.ch .c1, .ch .c2, .ch .c3, .ch .c4, .tc]

def Link.num : Link → Nat
  | .cc c => c.num | .txc => 5

def Link.ofNum : Nat → Option Link
  | 1 => some (.cc .c1) | 2 => some (.cc .c2) | 3 => some (.cc .c3) | 4 => some (.cc .c4)
  | 5 => some .txc | _ => none

def Link.all : List Link := [.cc .c1, .cc .c2, .cc .c3, .cc .c4, .txc]

def Chan.num : Chan → Nat
  | .k1 => 1 | .k2 => 2 | .k3 => 3 | .k4 => 4 | .k5 => 5 | .k6 => 6

def Chan.ofNum : Nat → Option Chan
  | 1 => some .k1 | 2 => some .k2 | 3 => some .k3 | 4 => some .k4 | 5 => some .k5 | 6 => some .k6
  | _ => none

def Chan.all : List Chan := [.k1, .k2, .k3, .k4, .k5, .k6]

def Gauge.ofNum (n : Nat) : Option Gauge :=
  if n = 8 then some .manifold else if n = 9 then some .header else (Volume.ofNum n).map .vol

def Gauge.all : List Gauge :=
  [.vol (.ch .c1), .vol (.ch .c2), .vol (.ch .c3), .vol (.ch .c4), .vol .tc, .vol (.ll .a), .vol (.ll .b), .manifold, .header]

/-- Every gas channel with its chamber, in the order of its number 6(c - 1) + k (R96). -/
def channels : List (Chamber × Chan) := Chamber.all.flatMap fun c => Chan.all.map fun k => (c, k)

/-- The channel of a channel number 1 to 24 (R96). -/
def channelOfNum (n : Nat) : Option (Chamber × Chan) :=
  match Chamber.ofNum ((n + 5) / 6), Chan.ofNum ((n + 5) % 6 + 1) with
  | some c, some k => some (c, k)
  | _, _ => none

/-- The device bus address of a device (R119). -/
def Device.addr : Device → Nat
  | .mfc c k => 6 * (c.num - 1) + k.num
  | .throttle c => 24 + c.num

/-- The device at an address (R119). -/
def Device.ofAddr (n : Nat) : Option Device :=
  if n ≤ 24 then (channelOfNum n).map fun p => .mfc p.1 p.2 else (Chamber.ofNum (n - 24)).map .throttle

/-- The devices in the order of their addresses. -/
def Device.all : List Device :=
  (channels.map fun p => Device.mfc p.1 p.2) ++ Chamber.all.map Device.throttle

/-- The chamber a device's address belongs to (R119). -/
def Device.chamber : Device → Chamber
  | .mfc c _ => c | .throttle c => c

/-- The slit of a volume number 1 to 4, 6 or 7 (R148). -/
def Slit.ofVolume : Volume → Option Slit
  | .ch c => some (.ch c) | .tc => none | .ll l => some (.ll l)

def Slit.volume : Slit → Volume
  | .ch c => .ch c | .ll l => .ll l

/-- The six slits, chamber slits first. -/
def Slit.all : List Slit := [.ch .c1, .ch .c2, .ch .c3, .ch .c4, .ll .a, .ll .b]

/-- The input functions in the order of their numbers 1 to 18 (R152). -/
def InputFn.all : List InputFn :=
  [.facilityGasOk, .exhaustOk, .emergencyOff,
   .plasma .c1, .plasma .c2, .plasma .c3, .plasma .c4,
   .lid .c1, .lid .c2, .lid .c3, .lid .c4,
   .turbo (.ch .c1), .turbo (.ch .c2), .turbo (.ch .c3), .turbo (.ch .c4), .turbo .tc,
   .door .a, .door .b]

/-- The function number of R152. -/
def InputFn.num : InputFn → Nat
  | .facilityGasOk => 1 | .exhaustOk => 2 | .emergencyOff => 3
  | .plasma c => 3 + c.num | .lid c => 7 + c.num | .turbo t => 11 + t.num
  | .door .a => 17 | .door .b => 18

/-! ## One thing for each -/

/-- One `α` for each chamber. -/
structure Per4 (α : Type) where
  c1 : α
  c2 : α
  c3 : α
  c4 : α
  deriving DecidableEq, Repr

def Per4.fill {α : Type} (x : α) : Per4 α := ⟨x, x, x, x⟩

def Per4.get {α : Type} (p : Per4 α) : Chamber → α
  | .c1 => p.c1 | .c2 => p.c2 | .c3 => p.c3 | .c4 => p.c4

def Per4.set {α : Type} (p : Per4 α) (c : Chamber) (x : α) : Per4 α :=
  match c with
  | .c1 => { p with c1 := x } | .c2 => { p with c2 := x } | .c3 => { p with c3 := x } | .c4 => { p with c4 := x }

/-- One `α` for each loadlock. -/
structure Per2 (α : Type) where
  a : α
  b : α
  deriving DecidableEq, Repr

def Per2.fill {α : Type} (x : α) : Per2 α := ⟨x, x⟩

def Per2.get {α : Type} (p : Per2 α) : Loadlock → α
  | .a => p.a | .b => p.b

def Per2.set {α : Type} (p : Per2 α) (l : Loadlock) (x : α) : Per2 α :=
  match l with
  | .a => { p with a := x } | .b => { p with b := x }

/-- One `α` for each chamber and one more: for the five links, and for the five turbo volumes. -/
structure Per5 (α : Type) where
  ch : Per4 α
  t : α
  deriving DecidableEq, Repr

def Per5.fill {α : Type} (x : α) : Per5 α := ⟨.fill x, x⟩

/-- The link's own. -/
def Per5.get {α : Type} (p : Per5 α) : Link → α
  | .cc c => p.ch.get c | .txc => p.t

def Per5.set {α : Type} (p : Per5 α) (l : Link) (x : α) : Per5 α :=
  match l with
  | .cc c => { p with ch := p.ch.set c x } | .txc => { p with t := x }

/-- The turbo volume's own. -/
def Per5.getT {α : Type} (p : Per5 α) : Turbo → α
  | .ch c => p.ch.get c | .tc => p.t

def Per5.setT {α : Type} (p : Per5 α) (t : Turbo) (x : α) : Per5 α :=
  match t with
  | .ch c => { p with ch := p.ch.set c x } | .tc => { p with t := x }

/-- One `α` for each volume. -/
structure Per7 (α : Type) where
  ch : Per4 α
  tc : α
  ll : Per2 α
  deriving DecidableEq, Repr

def Per7.fill {α : Type} (x : α) : Per7 α := ⟨.fill x, x, .fill x⟩

def Per7.get {α : Type} (p : Per7 α) : Volume → α
  | .ch c => p.ch.get c | .tc => p.tc | .ll l => p.ll.get l

def Per7.set {α : Type} (p : Per7 α) (v : Volume) (x : α) : Per7 α :=
  match v with
  | .ch c => { p with ch := p.ch.set c x } | .tc => { p with tc := x } | .ll l => { p with ll := p.ll.set l x }

/-- One `α` for each gas channel of one chamber. -/
structure Per6 (α : Type) where
  k1 : α
  k2 : α
  k3 : α
  k4 : α
  k5 : α
  k6 : α
  deriving DecidableEq, Repr

def Per6.fill {α : Type} (x : α) : Per6 α := ⟨x, x, x, x, x, x⟩

def Per6.get {α : Type} (p : Per6 α) : Chan → α
  | .k1 => p.k1 | .k2 => p.k2 | .k3 => p.k3 | .k4 => p.k4 | .k5 => p.k5 | .k6 => p.k6

def Per6.set {α : Type} (p : Per6 α) (k : Chan) (x : α) : Per6 α :=
  match k with
  | .k1 => { p with k1 := x } | .k2 => { p with k2 := x } | .k3 => { p with k3 := x }
  | .k4 => { p with k4 := x } | .k5 => { p with k5 := x } | .k6 => { p with k6 := x }

/-- One `α` for each of the 24 gas channels. -/
abbrev Per24 (α : Type) := Per4 (Per6 α)

def Per4.getK {α : Type} (p : Per24 α) (c : Chamber) (k : Chan) : α := (p.get c).get k

def Per4.setK {α : Type} (p : Per24 α) (c : Chamber) (k : Chan) (x : α) : Per24 α := p.set c ((p.get c).set k x)

/-- One `α` for each pressure channel. -/
structure Per9 (α : Type) where
  vol : Per7 α
  manifold : α
  header : α
  deriving DecidableEq, Repr

def Per9.fill {α : Type} (x : α) : Per9 α := ⟨.fill x, x, x⟩

def Per9.get {α : Type} (p : Per9 α) : Gauge → α
  | .vol v => p.vol.get v | .manifold => p.manifold | .header => p.header

def Per9.set {α : Type} (p : Per9 α) (g : Gauge) (x : α) : Per9 α :=
  match g with
  | .vol v => { p with vol := p.vol.set v x } | .manifold => { p with manifold := x } | .header => { p with header := x }

/-- One `α` for each bus device. -/
structure Per28 (α : Type) where
  mfc : Per24 α
  throttle : Per4 α
  deriving DecidableEq, Repr

def Per28.fill {α : Type} (x : α) : Per28 α := ⟨.fill (.fill x), .fill x⟩

def Per28.get {α : Type} (p : Per28 α) : Device → α
  | .mfc c k => p.mfc.getK c k | .throttle c => p.throttle.get c

def Per28.set {α : Type} (p : Per28 α) (d : Device) (x : α) : Per28 α :=
  match d with
  | .mfc c k => { p with mfc := p.mfc.setK c k x } | .throttle c => { p with throttle := p.throttle.set c x }

/-- One `α` for each auxiliary input. -/
structure Per3 (α : Type) where
  aux1 : α
  aux2 : α
  aux3 : α
  deriving DecidableEq, Repr

def Per3.fill {α : Type} (x : α) : Per3 α := ⟨x, x, x⟩

def Per3.get {α : Type} (p : Per3 α) : Aux → α
  | .aux1 => p.aux1 | .aux2 => p.aux2 | .aux3 => p.aux3

def Per3.set {α : Type} (p : Per3 α) (a : Aux) (x : α) : Per3 α :=
  match a with
  | .aux1 => { p with aux1 := x } | .aux2 => { p with aux2 := x } | .aux3 => { p with aux3 := x }

/-- One `α` for each slit. -/
structure PerSlit (α : Type) where
  ch : Per4 α
  ll : Per2 α
  deriving DecidableEq, Repr

def PerSlit.fill {α : Type} (x : α) : PerSlit α := ⟨.fill x, .fill x⟩

def PerSlit.get {α : Type} (p : PerSlit α) : Slit → α
  | .ch c => p.ch.get c | .ll l => p.ll.get l

def PerSlit.set {α : Type} (p : PerSlit α) (w : Slit) (x : α) : PerSlit α :=
  match w with
  | .ch c => { p with ch := p.ch.set c x } | .ll l => { p with ll := p.ll.set l x }

/-- One `α` for each input function. -/
structure Per18 (α : Type) where
  facilityGasOk : α
  exhaustOk : α
  emergencyOff : α
  plasma : Per4 α
  lid : Per4 α
  turbo : Per5 α
  door : Per2 α
  deriving DecidableEq, Repr

def Per18.fill {α : Type} (x : α) : Per18 α := ⟨x, x, x, .fill x, .fill x, .fill x, .fill x⟩

def Per18.get {α : Type} (p : Per18 α) : InputFn → α
  | .facilityGasOk => p.facilityGasOk | .exhaustOk => p.exhaustOk | .emergencyOff => p.emergencyOff
  | .plasma c => p.plasma.get c | .lid c => p.lid.get c | .turbo t => p.turbo.getT t | .door l => p.door.get l

def Per18.set {α : Type} (p : Per18 α) (f : InputFn) (x : α) : Per18 α :=
  match f with
  | .facilityGasOk => { p with facilityGasOk := x }
  | .exhaustOk => { p with exhaustOk := x }
  | .emergencyOff => { p with emergencyOff := x }
  | .plasma c => { p with plasma := p.plasma.set c x }
  | .lid c => { p with lid := p.lid.set c x }
  | .turbo t => { p with turbo := p.turbo.setT t x }
  | .door l => { p with door := p.door.set l x }

end Sys2Proof
end

