-- ==== Sys2Proof/Syntax.lean ====
section
/-! DEFINITION. Sys2Proof/Syntax.lean: the commands of the block, one constructor for each row of
spec/opcode_table.json, with the row's operands. The table gives no row any bits or fields, so the operands are those the
row's rule names. A request row carries the link it comes on and the request tag that its reply echoes (R160); a number
that the request's own checks judge (a volume, a chamber, an address, an item) is a plain number. -/

namespace Sys2Proof

/-- An entry of the flows list as it is sent: channel, target in fu, ramp ticks (Table 10-5). -/
structure RawFlow where
  chan : Nat
  target : Nat
  ticks : Nat
  deriving DecidableEq, Repr

/-- The endpoint part as it is sent (Table 10-5). `mode`: bit 0 direction (0 RISE, 1 FALL), bit 1 required. -/
structure RawEndpoint where
  threshold : Nat
  mode : Byte
  hysteresis : Nat
  confirm : Nat
  blanking : Nat
  minTime : Nat
  overEtch : Nat
  deriving DecidableEq, Repr

/-- A step record as it is sent (Table 10-5). `flags`: bit 0 last, bit 1 on-fail (0 HOLD, 1 ABORT), bit 2 endpoint part
present. -/
structure RawRecord where
  kind : Nat
  tag : Nat
  flags : Byte
  duration : Nat
  limit : Nat
  target : Int
  floor : Int
  window : Nat
  power : Nat
  retries : Nat
  cycles : Nat
  flows : List RawFlow
  endpoint : Option RawEndpoint
  deriving DecidableEq, Repr

/-- The commands of the block. -/
inductive Instr where
  -- power and time
  | powerOn
  | stepTick
  | secondTick
  -- samples
  | pressureSample (g : Gauge) (count : Nat)
  | emissionSample (c : Chamber) (count : Nat)
  | auxSample (a : Aux) (count : Nat)
  | tripBlankingEnd
  -- events inside the step engine and its plant
  | roughGrant
  | roughValveOpen (v : Volume)
  | stallCheck (v : Volume)
  | stepLimitExpiry (v : Volume)
  | admissionLimitExpiry (v : Volume)
  | dwellComplete (v : Volume)
  | overhangEnd (v : Volume)
  | settleComplete (c : Chamber)
  | transitionEnd (c : Chamber)
  | strikeConfirmed (c : Chamber)
  | strikeTimeout (c : Chamber)
  | retryPauseEnd (c : Chamber)
  | dropoutLimitExceeded (c : Chamber)
  | gatedTimeEnd (c : Chamber)
  | windDownEnd (v : Volume)
  | gasAdmission
  -- the device bus
  | transactionStart
  | setGoodAnswer
  | readGoodAnswer (r : Reading)
  | busBadAnswer
  | responseTimeout
  | strayAnswer
  -- field lines
  | inputLineRead (levels : BitVec 24)
  -- master links
  | frameReceived (l : Link) (body : List Byte) (check : Word16)
  | frameDiscard (l : Link)
  | frameGapTimeout (l : Link)
  | replySent (l : Link)
  | linkExpiry (l : Link)
  -- requests
  | load (l : Link) (tag : Byte) (volume : Nat) (record : RawRecord)
  | run (l : Link) (tag : Byte) (volume : Nat)
  | hold (l : Link) (tag : Byte) (volume : Nat)
  | resume (l : Link) (tag : Byte) (volume : Nat)
  | clear (l : Link) (tag : Byte) (volume : Nat)
  | abort (l : Link) (tag : Byte) (volume : Nat)
  | gasEnable (l : Link) (tag : Byte) (chamber : Nat) (on : Bool)
  | transferAllow (l : Link) (tag : Byte) (chamber : Nat) (on : Bool)
  | openSlit (l : Link) (tag : Byte) (volume : Nat)
  | closeSlit (l : Link) (tag : Byte) (volume : Nat)
  | openDoor (l : Link) (tag : Byte) (volume : Nat)
  | closeDoor (l : Link) (tag : Byte) (volume : Nat)
  | readVolume (l : Link) (tag : Byte) (volume page : Nat)
  | readQueue (l : Link) (tag : Byte) (volume position page : Nat)
  | readSource (l : Link) (tag : Byte) (page : Nat)
  | readChannel (l : Link) (tag : Byte) (chamber channel page : Nat)
  | readDevice (l : Link) (tag : Byte) (address page : Nat)
  | readCounters (l : Link) (tag : Byte) (volume page : Nat)
  | readNotice (l : Link) (tag : Byte)
  | readConfig (l : Link) (tag : Byte) (item index page : Nat)
  | clearConditions (l : Link) (tag : Byte) (volume : Nat) (mask : Word16)
  | resetCounters (l : Link) (tag : Byte) (volume : Nat)
  | clearDevice (l : Link) (tag : Byte) (address : Nat)
  | setNoticeMask (l : Link) (tag : Byte) (mask : Byte)
  | writeConfig (l : Link) (tag : Byte) (item index : Nat) (value : Int)
  | closeConfiguration (l : Link) (tag : Byte)
  | reopenConfiguration (l : Link) (tag : Byte)
  | restart (l : Link) (tag : Byte)
  | alive (l : Link) (tag : Byte)
  | startCharacter (l : Link)
  deriving DecidableEq, Repr

end Sys2Proof
end

