-- ==== Sys2Proof/WellFormed.lean ====
section
/-! DEFINITION. Sys2Proof/WellFormed.lean: which commands are well formed: every operand lies in the range that its field
or its field signal can carry (Table 10-4, Table 10-5, R7, R10, R119). What a request's own checks refuse (a volume 9, a
kind 0) is well formed: it is answered REFUSED. -/

namespace Sys2Proof

/-- A one-character number (Table 10-4). -/
def isChar (n : Nat) : Bool := n < 256

/-- A two-character number. -/
def isWord (n : Nat) : Bool := n < 65536

/-- A two-character signed number. -/
def isSignedWord (x : Int) : Bool := -32768 ≤ x && x ≤ 32767

/-- A four-character signed number. -/
def isSignedLong (x : Int) : Bool := -2147483648 ≤ x && x ≤ 2147483647

/-- A converter count (R7, R10). -/
def isCount (n : Nat) : Bool := n ≤ 4095

def RawFlow.wf (f : RawFlow) : Bool := isChar f.chan && isWord f.target && isWord f.ticks

def RawEndpoint.wf (e : RawEndpoint) : Bool :=
  isWord e.threshold && isChar e.hysteresis && isChar e.confirm && isWord e.blanking && isWord e.minTime
    && isChar e.overEtch

/-- A record that Table 10-5 can carry: each field in its width, and bit 2 of the flags telling whether the endpoint part
stands. -/
def RawRecord.wf (r : RawRecord) : Bool :=
  isChar r.kind && isChar r.tag && isWord r.duration && isWord r.limit && isSignedWord r.target
    && isSignedWord r.floor && isChar r.window && isWord r.power && isChar r.retries && isChar r.cycles
    && isChar r.flows.length && r.flows.all RawFlow.wf
    && (r.flags.getLsbD 2 == r.endpoint.isSome)
    && (match r.endpoint with | none => true | some e => e.wf)

/-- A value a SET or a READ of a throttle controller carries (R119). -/
def BusValue.wf : BusValue → Bool
  | .flow fu => isWord fu
  | .code p => -400 ≤ p && p ≤ 600
  | .opened => true

/-- A reading that an answer can carry (R119): an actual flow of 0 to 65,535 fu, or a throttle's code or OPEN. -/
def Reading.wf : Reading → Bool
  | .flow fu => isWord fu
  | .throttle (.flow _) _ => false
  | .throttle held _ => held.wf

/-- The well-formed commands. -/
def Instr.wf : Instr → Bool
  | .powerOn => true
  | .stepTick => true
  | .secondTick => true
  | .pressureSample _ n => isCount n
  | .emissionSample _ n => isCount n
  | .auxSample _ n => isCount n
  | .tripBlankingEnd => true
  | .roughGrant => true
  | .roughValveOpen _ => true
  | .stallCheck _ => true
  | .stepLimitExpiry _ => true
  | .admissionLimitExpiry _ => true
  | .dwellComplete _ => true
  | .overhangEnd _ => true
  | .settleComplete _ => true
  | .transitionEnd _ => true
  | .strikeConfirmed _ => true
  | .strikeTimeout _ => true
  | .retryPauseEnd _ => true
  | .dropoutLimitExceeded _ => true
  | .gatedTimeEnd _ => true
  | .windDownEnd _ => true
  | .gasAdmission => true
  | .transactionStart => true
  | .setGoodAnswer => true
  | .readGoodAnswer r => r.wf
  | .busBadAnswer => true
  | .responseTimeout => true
  | .strayAnswer => true
  | .inputLineRead _ => true
  | .frameReceived _ body _ => 2 ≤ body.length && body.length ≤ 60
  | .frameDiscard _ => true
  | .frameGapTimeout _ => true
  | .replySent _ => true
  | .linkExpiry _ => true
  | .load _ _ v r => isChar v && r.wf
  | .run _ _ v => isChar v
  | .hold _ _ v => isChar v
  | .resume _ _ v => isChar v
  | .clear _ _ v => isChar v
  | .abort _ _ v => isChar v
  | .gasEnable _ _ c _ => isChar c
  | .transferAllow _ _ c _ => isChar c
  | .openSlit _ _ v => isChar v
  | .closeSlit _ _ v => isChar v
  | .openDoor _ _ v => isChar v
  | .closeDoor _ _ v => isChar v
  | .readVolume _ _ v p => isChar v && isChar p
  | .readQueue _ _ v n p => isChar v && isChar n && isChar p
  | .readSource _ _ p => isChar p
  | .readChannel _ _ c k p => isChar c && isChar k && isChar p
  | .readDevice _ _ a p => isChar a && isChar p
  | .readCounters _ _ v p => isChar v && isChar p
  | .readNotice _ _ => true
  | .readConfig _ _ i x p => isWord i && isChar x && isChar p
  | .clearConditions _ _ v _ => isChar v
  | .resetCounters _ _ v => isChar v
  | .clearDevice _ _ a => isChar a
  | .setNoticeMask _ _ _ => true
  | .writeConfig _ _ i x v => isWord i && isChar x && isSignedLong v
  | .closeConfiguration _ _ => true
  | .reopenConfiguration _ _ => true
  | .restart _ _ => true
  | .alive _ _ => true
  | .startCharacter _ => true

end Sys2Proof
end

