-- ==== Sys2Proof/Decode.lean ====
section
/-! DEFINITION. Sys2Proof/Decode.lean: the command that a word spells by the bits of spec/opcode_table.json. The table
gives no row of this block any bits (its "fields" are all empty and no row has "fixed"), so no word spells a command. The
bytes of a request frame (chapter 10) are read by the port, in Sys2Proof/Machine/Operands.lean. -/

namespace Sys2Proof

/-- The command a word of the table's bits spells: none, because the table gives no row any bits. -/
def decodeTableWord (_nbits _w : Nat) : Option Instr := none

end Sys2Proof
end

