-- ==== Sys2Proof/Machine/State.lean ====
section
/-! DEFINITION. Sys2Proof/Machine/State.lean: the state of the block as plain data, block by block as chapter 0 lists
them, the outcomes a command can stop with, and the state after power-on (R169). -/

namespace Sys2Proof.Machine

open Sys2Proof

/-! ## The step record (R18 to R21) -/

inductive Kind where
  | pump | vent | purge | dwell | gas | strike | etch
  deriving DecidableEq, Repr

inductive OnFail where
  | hold | abort
  deriving DecidableEq, Repr

inductive Direction where
  | rise | fall
  deriving DecidableEq, Repr

/-- An entry of a stored flows list (R20). -/
structure FlowEntry where
  chan : Chan
  target : Nat
  ticks : Nat
  deriving DecidableEq, Repr

/-- The endpoint part of a stored ETCH record (R21). -/
structure Endpoint where
  threshold : Nat
  direction : Direction
  hysteresis : Nat
  confirm : Nat
  blanking : Nat
  minTime : Nat
  overEtch : Nat
  required : Bool
  deriving DecidableEq, Repr

/-- A stored step record (R18). -/
structure StepRecord where
  kind : Kind
  tag : Nat
  last : Bool
  onFail : OnFail
  duration : Nat
  limit : Nat
  target : Int
  floor : Int
  window : Nat
  flows : List FlowEntry
  power : Nat
  retries : Nat
  cycles : Nat
  endpoint : Option Endpoint
  deriving DecidableEq, Repr

/-! ## The sequencers (R37, R76, R136) -/

inductive VolState where
  | idle | running | ending | safing | hold
  deriving DecidableEq, Repr

/-- The step phases of Table 10-2. -/
inductive Phase where
  | none | waitRough | valveWait | rough | turboWait | highPump | venting | overhang | waitGas | fill | pumpback
  | dwell | transition | settle | ignite | confirm | retryPause | etch
  deriving DecidableEq, Repr

/-- The hold causes of R53. -/
inductive HoldCause where
  | requested | stepFailed | underflow | linkLost | headerTrip | permitLost | emergencyOff | deviceFailed | pressureTrip
  | turboLost
  deriving DecidableEq, Repr

/-- The failure kinds of R53. -/
inductive FailKind where
  | admitTimeout | limitExceeded | pumpStall | turboWait | lidOpen | strikeFail | plasmaLost | endpointMissed
  | flowDeviation | deviceFailed
  deriving DecidableEq, Repr

inductive StepOutcome where
  | completed | failed | stopped
  deriving DecidableEq, Repr

inductive Note where
  | cut | noEndpoint
  deriving DecidableEq, Repr

/-- The fourteen condition flags of R60, in the order of its table. -/
inductive Flag where
  | stepOverflow | underflow | admitTimeout | pumpRetry | strikeRetry | flowDeviation | deviceFailed | linkLost
  | headerTrip | pressureTrip | permitLost | endpointMissed | manifoldTrip | gaugeRange
  deriving DecidableEq, Repr

structure HoldRecord where
  cause : HoldCause
  failure : Option FailKind
  tag : Nat
  phase : Phase
  deriving DecidableEq, Repr

/-- The last step end of R37. -/
structure StepEnd where
  tag : Nat
  kind : Kind
  outcome : StepOutcome
  failure : Option FailKind
  note : Option Note
  deriving DecidableEq, Repr

/-- The five counters of R61, each 16 bits wide and saturating. -/
structure Counters where
  overflow : Nat
  underflow : Nat
  pumpRetry : Nat
  strikeRetry : Nat
  failure : Nat
  deriving DecidableEq, Repr

inductive WindowState where
  | none | inside | outside
  deriving DecidableEq, Repr

/-- One volume: its queue (SQS), its sequencer (STE), its rough valve command (RMA, R69) and its vent valve command (R79).
`flags` holds condition flag number n of Table 10-2 in bit n. -/
structure Vol where
  queue : List StepRecord
  state : VolState
  phase : Phase
  current : Option StepRecord
  limitCount : Nat
  effLimit : Nat
  admissionCount : Nat
  dwellCount : Nat
  retriesLeft : Nat
  stallBaseline : Int
  stallCount : Nat
  cyclesLeft : Nat
  overhangCount : Nat
  settleCount : Nat
  window : WindowState
  hold : Option HoldRecord
  lastEnd : Option StepEnd
  flags : BitVec 14
  counters : Counters
  roughOpen : Bool
  ventOpen : Bool
  deriving DecidableEq, Repr

/-! ## PEC (chapter 1) and the endpoint detectors (R142) -/

/-- The latest sample of a pressure channel: raw count, clamped code, range flags (R5, R7, R8). -/
structure GaugeSample where
  count : Nat
  code : Int
  underFlag : Bool
  overFlag : Bool
  deriving DecidableEq, Repr

/-- A pressure channel: its latest sample, the range flags that the next sample is compared with for GAUGE_RANGE (R9), and
its trip comparator, ASSERTED or not (R12). -/
structure GaugeChannel where
  sample : Option GaugeSample
  prevUnder : Bool
  prevOver : Bool
  asserted : Bool
  deriving DecidableEq, Repr

/-- The endpoint detector of a chamber (R142). `endpointAt` is the confirmed gated time E. -/
structure Detector where
  armed : Bool
  blanking : Nat
  confirm : Nat
  endpointAt : Option Nat
  deriving DecidableEq, Repr

/-- The converter block. `blanking` is the count of step ticks since CLOSE CONFIGURATION or RESTART while the comparators
are blanked (R13), and none when they are not. -/
structure Pec where
  gauges : Per9 GaugeChannel
  emission : Per4 (Option Nat)
  aux : Per3 (Option Nat)
  detectors : Per4 Detector
  blanking : Option Nat
  deriving DecidableEq, Repr

/-! ## RMA (chapter 4) -/

/-- The load of a grant: heavy takes 4 units, light takes 1 (R64). -/
inductive Load where
  | heavy | light
  deriving DecidableEq, Repr

/-- An entry of the grant list (R64). `valveOpen` is the valve field: false WAITING, true OPEN. -/
structure Grant where
  holder : Volume
  load : Load
  valveOpen : Bool
  deriving DecidableEq, Repr

structure Rma where
  grants : List Grant
  queue : List Volume
  deriving DecidableEq, Repr

/-! ## GAT and HLM (chapter 6) -/

/-- A channel row of GAT (R96), less its source, which is a configuration item. -/
structure ChannelRow where
  commitment : Nat
  target : Nat
  inFlight : Bool
  deriving DecidableEq, Repr

/-- A channel's part of a formed flow request (R103). -/
structure Aim where
  target : Nat
  ticks : Nat
  deriving DecidableEq, Repr

/-- An entry of the gas admission queue (R105). Its age is the admission count of the chamber's sequencer. -/
structure GasEntry where
  chamber : Chamber
  aims : Per6 Aim
  deriving DecidableEq, Repr

structure Gat where
  rows : Per24 ChannelRow
  queue : List GasEntry
  enable : Per4 Bool
  deriving DecidableEq, Repr

/-- The header state, HELD or OPEN (R111), and the header trip (R112). -/
structure Hlm where
  held : Bool
  trip : Bool
  deriving DecidableEq, Repr

/-! ## FRU and DBC (chapter 7) -/

/-- A write class: class 1 is urgent (R121). -/
inductive WriteClass where
  | urgent | normal
  deriving DecidableEq, Repr

/-- A ramp generator (R114). `up` is the direction. -/
structure Generator where
  posted : Nat
  target : Nat
  up : Bool
  ticks : Nat
  quotient : Nat
  remainder : Nat
  accumulator : Nat
  left : Nat
  cls : WriteClass
  deriving DecidableEq, Repr

/-- An entry of the pending-write table (R121). -/
structure PendingWrite where
  value : BusValue
  cls : WriteClass
  age : Nat
  deriving DecidableEq, Repr

/-- What DBC holds for a device (R121, R124 to R126). -/
structure DeviceRow where
  failed : Bool
  consecutive : Nat
  noAnswers : Nat
  pending : Option PendingWrite
  written : Option BusValue
  reading : Option Reading
  deriving DecidableEq, Repr

/-- The flow deviation counts of a channel (R130). -/
structure FlowCheck where
  settle : Nat
  deviation : Nat
  deriving DecidableEq, Repr

/-- A transaction is a SET, with what it took from the pending-write table, or a READ (R119, R120). -/
inductive BusOp where
  | set (w : PendingWrite)
  | read
  deriving DecidableEq, Repr

/-- The transaction in flight (R120). `discarded`: a RESTART came while it was in flight, so its outcome is discarded
(R131). -/
structure Transaction where
  device : Device
  op : BusOp
  count : Nat
  discarded : Bool
  deriving DecidableEq, Repr

/-- The device bus controller. `nextAge` numbers the creation of pending-write entries (R121). -/
structure Dbc where
  devices : Per28 DeviceRow
  checks : Per24 FlowCheck
  inFlight : Option Transaction
  writes : Nat
  scanPos : Nat
  nextAge : Nat
  deriving DecidableEq, Repr

/-! ## REU (R133, R134) -/

structure Reu where
  rfOn : Bool
  powerCode : Nat
  strikeTimer : Nat
  confirmCount : Nat
  retriesLeft : Nat
  pauseCount : Nat
  gated : Nat
  dropout : Nat
  endGated : Nat
  deriving DecidableEq, Repr

/-! ## TIU and FLU (chapter 9) -/

structure Tiu where
  allow : Per4 Bool
  slits : PerSlit Bool
  doors : Per2 Bool
  deriving DecidableEq, Repr

/-- The line levels last read (none before the first read: every line then reads deasserted) and the input functions
(R152). -/
structure Flu where
  levels : Option (BitVec 24)
  fns : Per18 Bool
  deriving DecidableEq, Repr

/-! ## CFG (chapter 11) -/

/-- The configuration items, in the order of Table 11-1. -/
structure Items where
  lo : Per9 Int
  hi : Per9 Int
  tripEnable : Per9 Int
  tripThreshold : Per9 Int
  tripDirection : Per9 Int
  tripHysteresis : Per9 Int
  capacity : Per7 Int
  startDepth : Per7 Int
  stepLimit : Per7 Int
  admissionLimit : Per7 Int
  heavyLimit : Int
  crossover : Per5 Int
  stallWindow : Per7 Int
  minFall : Per7 Int
  pumpBackRetries : Per7 Int
  sourceMap : Per24 Int
  sourceCapacity : List Int
  overtakeLimit : Int
  holdThreshold : Int
  releaseThreshold : Int
  fullScale : Per24 Int
  responseTimeout : Int
  scanLength : Int
  scanEntry : List Int
  tolerancePercent : Per4 Int
  toleranceFloor : Per4 Int
  settleTime : Per4 Int
  debounce : Per4 Int
  maxPower : Per4 Int
  strikeTimeout : Per4 Int
  dropoutLimit : Per4 Int
  matchWindow : Int
  ventMargin : Int
  inputPolarity : List Int
  inputMap : List Int
  outputPolarity : List Int
  linkTimeout : Per5 Int
  deriving DecidableEq, Repr

/-- The configuration state, SERVING or CONFIGURING (R169), and the items. -/
structure Cfg where
  serving : Bool
  items : Items
  deriving DecidableEq, Repr

/-! ## MLP (chapter 10) -/

inductive NoticeKind where
  | stepDone | volumeIdle | volumeHold | condition | slitChanged | deviceFailed | headerChanged
  deriving DecidableEq, Repr

/-- A notice (Table 10-6). -/
structure Notice where
  kind : NoticeKind
  volume : Nat
  tag : Nat
  code : Nat
  detail : Nat
  value : Nat
  deriving DecidableEq, Repr

/-- A notice slot that holds a notice: the notice and its read mark (R163). -/
structure SlotNotice where
  notice : Notice
  unread : Bool
  deriving DecidableEq, Repr

inductive ReplyCode where
  | ok | clamped | busy | refused
  deriving DecidableEq, Repr

/-- The reasons of a REFUSED reply (R160, Table 10-2). -/
inductive Reason where
  | state | owner | full | short | empty | kind | format | range | notFitted | permit | interlock | config
  deriving DecidableEq, Repr

/-- A reply (R160, Table 10-6): the request kind and tag it echoes, the reply code, the reason of a REFUSED, the data. -/
structure Reply where
  kind : Byte
  tag : Byte
  code : ReplyCode
  reason : Option Reason
  data : List Byte
  deriving DecidableEq, Repr

/-- The one BUSY reply a port holds: waiting, or being sent (R159). -/
structure Busy where
  kind : Byte
  tag : Byte
  sending : Bool
  deriving DecidableEq, Repr

/-- A master link port (R158 to R165). `inService` is the request in service, held as the reply it was given when it was
taken; `silence` is the silence timer in sample ticks, none while stopped; `lastReply` is the reply last given to the
transmitter. -/
structure Port where
  assembling : Bool
  inService : Option Reply
  busy : Option Busy
  lastReply : Option Reply
  lost : Bool
  silence : Option Nat
  frameErrors : Nat
  linkDowns : Nat
  slot : Option SlotNotice
  mask : BitVec 7
  sequence : Nat
  attention : Bool
  deriving DecidableEq, Repr

/-- A notice on its way from STE to the slots of its addressees (R62, R164). -/
structure Posting where
  addressees : List Link
  notice : Notice
  deriving DecidableEq, Repr

/-- The time base's own position in the cascade of R2: sample ticks since the last step tick, step ticks since the last
second tick. -/
structure TimeBase where
  samples : Nat
  steps : Nat
  deriving DecidableEq, Repr

/-- The state of the block. `gates` are the gate valve commands of the turbo volumes (R78). `outbox` is the model's own: the
notices that the event under way has led to, which are posted in the order of R62 when it ends; it is empty between
events. `pending` is the queue of waiting commands, first in, first out. -/
structure State where
  vols : Per7 Vol
  gates : Per5 Bool
  pec : Pec
  rma : Rma
  gat : Gat
  hlm : Hlm
  fru : Per24 Generator
  dbc : Dbc
  reu : Per4 Reu
  tiu : Tiu
  flu : Flu
  cfg : Cfg
  ports : Per5 Port
  base : TimeBase
  outbox : List Posting
  pending : List Instr
  deriving DecidableEq, Repr

/-- The faults of the block: none. Every command has an effect that the spec gives; a request that may not act is answered
REFUSED (R160), and an event whose condition does not stand changes nothing. -/
inductive Fault where
  deriving DecidableEq, Repr

/-- The refusals of the model. -/
inductive Refusal where
  /-- Raised by exec's arm for a command that has no meaning yet (safe: the model stops where the part goes on). -/
  | notModelled (mnemonic : String)
  deriving DecidableEq, Repr

/-! ## Power-on values -/

/-- The defaults of Table 11-1. -/
def Items.default : Items where
  lo := .fill (-300)
  hi := .fill 700
  tripEnable := .fill 0
  tripThreshold := .fill 600
  tripDirection := .fill 0
  tripHysteresis := .fill 10
  capacity := ⟨.fill 16, 8, .fill 12⟩
  startDepth := .fill 2
  stepLimit := .fill 600
  admissionLimit := .fill 120
  heavyLimit := 400
  crossover := .fill 200
  stallWindow := .fill 10
  minFall := .fill 5
  pumpBackRetries := .fill 1
  sourceMap := .fill ⟨1, 2, 3, 4, 5, 6⟩
  sourceCapacity := List.replicate 10 20000
  overtakeLimit := 30
  holdThreshold := 80000
  releaseThreshold := 60000
  fullScale := .fill (.fill 10000)
  responseTimeout := 3
  scanLength := 28
  scanEntry := ((List.range 28).map fun n => Int.ofNat (n + 1)) ++ List.replicate 4 1
  tolerancePercent := .fill 5
  toleranceFloor := .fill 50
  settleTime := .fill 300
  debounce := .fill 3
  maxPower := .fill 3000
  strikeTimeout := .fill 300
  dropoutLimit := .fill 10
  matchWindow := 50
  ventMargin := 8
  inputPolarity := List.replicate 24 0
  inputMap := ((List.range 18).map fun n => Int.ofNat (n + 1)) ++ List.replicate 6 0
  outputPolarity := List.replicate 45 0
  linkTimeout := .fill 500

def Counters.reset : Counters := ⟨0, 0, 0, 0, 0⟩

/-- A volume after power-on and after RESTART (R34, R37, R69, R76, R79, R136). The effective step limit is set at a step
start (R45); no rule gives it a value before (DESIGN CHOICE: 0, notes/assumptions/11.md). -/
def Vol.reset : Vol where
  queue := []
  state := .idle
  phase := .none
  current := none
  limitCount := 0
  effLimit := 0
  admissionCount := 0
  dwellCount := 0
  retriesLeft := 0
  stallBaseline := 0
  stallCount := 0
  cyclesLeft := 0
  overhangCount := 0
  settleCount := 0
  window := .none
  hold := none
  lastEnd := none
  flags := 0
  counters := .reset
  roughOpen := false
  ventOpen := false

def GaugeChannel.reset : GaugeChannel := ⟨none, false, false, false⟩

def Detector.reset : Detector := ⟨false, 0, 0, none⟩

/-- The converter block after power-on (R6, R13, R142). -/
def Pec.reset : Pec := ⟨.fill .reset, .fill none, .fill none, .fill .reset, none⟩

def Rma.reset : Rma := ⟨[], []⟩

def ChannelRow.reset : ChannelRow := ⟨0, 0, false⟩

/-- GAT after power-on and RESTART (R96, R105, R109). -/
def Gat.reset : Gat := ⟨.fill (.fill .reset), [], .fill false⟩

def Hlm.reset : Hlm := ⟨false, false⟩

/-- A generator after power-on and RESTART (R114). Direction, ramp ticks and class have no reset value in the spec (DESIGN
CHOICE: UP, 0, class 2, notes/assumptions/11.md). -/
def Generator.reset : Generator := ⟨0, 0, true, 0, 0, 0, 0, 0, .normal⟩

def DeviceRow.reset : DeviceRow := ⟨false, 0, 0, none, none, none⟩

def FlowCheck.reset : FlowCheck := ⟨0, 0⟩

/-- DBC after power-on (R121 to R126, R130). -/
def Dbc.reset : Dbc := ⟨.fill .reset, .fill (.fill .reset), none, 0, 1, 0⟩

def Reu.reset : Reu := ⟨false, 0, 0, 0, 0, 0, 0, 0, 0⟩

def Tiu.reset : Tiu := ⟨.fill false, .fill false, .fill false⟩

/-- FLU at power-on: nothing read, so every line and function reads deasserted (R152). -/
def Flu.reset : Flu := ⟨none, .fill false⟩

/-- A port after power-on (R158, R161, R163, Table 10-7). -/
def Port.reset : Port where
  assembling := false
  inService := none
  busy := none
  lastReply := none
  lost := false
  silence := none
  frameErrors := 0
  linkDowns := 0
  slot := none
  mask := BitVec.allOnes 7
  sequence := 0
  attention := false

/-- The block right after power-on (R169): every block at its power-on value, every item at its default, CONFIGURING. -/
def State.reset : State where
  vols := .fill .reset
  gates := .fill false
  pec := .reset
  rma := .reset
  gat := .reset
  hlm := .reset
  fru := .fill (.fill .reset)
  dbc := .reset
  reu := .fill .reset
  tiu := .reset
  flu := .reset
  cfg := ⟨false, .default⟩
  ports := .fill .reset
  base := ⟨0, 0⟩
  outbox := []
  pending := []

end Sys2Proof.Machine
end

