-- ==== Sys2Proof/Machine/Ops.lean ====
section
/-! DEFINITION. Sys2Proof/Machine/Ops.lean: reading and changing one piece of the state; the configuration items as the
numbers the rules use; the codes of Table 10-2; notices (R62, R163, R164). -/

namespace Sys2Proof.Machine

open Sys2Proof

/-! ## One piece of the state -/

def State.vol (s : State) (v : Volume) : Vol := s.vols.get v

def State.setVol (s : State) (v : Volume) (x : Vol) : State := { s with vols := s.vols.set v x }

def State.modVol (s : State) (v : Volume) (f : Vol → Vol) : State := s.setVol v (f (s.vol v))

def State.reuOf (s : State) (c : Chamber) : Reu := s.reu.get c

def State.setReu (s : State) (c : Chamber) (x : Reu) : State := { s with reu := s.reu.set c x }

def State.modReu (s : State) (c : Chamber) (f : Reu → Reu) : State := s.setReu c (f (s.reuOf c))

def State.detector (s : State) (c : Chamber) : Detector := s.pec.detectors.get c

def State.setDetector (s : State) (c : Chamber) (x : Detector) : State :=
  { s with pec := { s.pec with detectors := s.pec.detectors.set c x } }

def State.modDetector (s : State) (c : Chamber) (f : Detector → Detector) : State := s.setDetector c (f (s.detector c))

def State.gauge (s : State) (g : Gauge) : GaugeChannel := s.pec.gauges.get g

def State.setGauge (s : State) (g : Gauge) (x : GaugeChannel) : State :=
  { s with pec := { s.pec with gauges := s.pec.gauges.set g x } }

def State.row (s : State) (c : Chamber) (k : Chan) : ChannelRow := s.gat.rows.getK c k

def State.setRow (s : State) (c : Chamber) (k : Chan) (x : ChannelRow) : State :=
  { s with gat := { s.gat with rows := s.gat.rows.setK c k x } }

def State.gen (s : State) (c : Chamber) (k : Chan) : Generator := s.fru.getK c k

def State.setGen (s : State) (c : Chamber) (k : Chan) (x : Generator) : State := { s with fru := s.fru.setK c k x }

def State.device (s : State) (d : Device) : DeviceRow := s.dbc.devices.get d

def State.setDevice (s : State) (d : Device) (x : DeviceRow) : State :=
  { s with dbc := { s.dbc with devices := s.dbc.devices.set d x } }

def State.check (s : State) (c : Chamber) (k : Chan) : FlowCheck := s.dbc.checks.getK c k

def State.setCheck (s : State) (c : Chamber) (k : Chan) (x : FlowCheck) : State :=
  { s with dbc := { s.dbc with checks := s.dbc.checks.setK c k x } }

def State.port (s : State) (l : Link) : Port := s.ports.get l

def State.setPort (s : State) (l : Link) (x : Port) : State := { s with ports := s.ports.set l x }

def State.modPort (s : State) (l : Link) (f : Port → Port) : State := s.setPort l (f (s.port l))

def State.fn (s : State) (f : InputFn) : Bool := s.flu.fns.get f

/-- The code of a pressure channel's latest sample; none while it has no sample (R6). -/
def State.code? (s : State) (g : Gauge) : Option Int := (s.gauge g).sample.map (·.code)

/-- "At or below `x`" of the gauge's code: not met while it has no sample (R6). -/
def State.atOrBelow (s : State) (g : Gauge) (x : Int) : Bool :=
  match s.code? g with
  | some p => p ≤ x
  | none => false

/-- "At or above `x`" of the gauge's code: not met while it has no sample (R6). -/
def State.atOrAbove (s : State) (g : Gauge) (x : Int) : Bool :=
  match s.code? g with
  | some p => x ≤ p
  | none => false

/-! ## Configuration items as numbers -/

def State.items (s : State) : Items := s.cfg.items

/-- A volume's queue capacity (R25). -/
def State.capacity (s : State) (v : Volume) : Nat := (s.items.capacity.get v).toNat

/-- A volume is fitted when its capacity is above 0 (R28). -/
def State.fitted (s : State) (v : Volume) : Bool := 0 < s.capacity v

def State.startDepth (s : State) (v : Volume) : Nat := (s.items.startDepth.get v).toNat

/-- A channel's source, 1 to 10, or 0 when it is unmapped (R96). -/
def State.source (s : State) (c : Chamber) (k : Chan) : Nat := (s.items.sourceMap.getK c k).toNat

def State.fullScale (s : State) (c : Chamber) (k : Chan) : Nat := (s.items.fullScale.getK c k).toNat

/-- The devices of the scan list, in position order: entries 1 to the scan list length (Table 11-1, R123). -/
def State.scanList (s : State) : List Device :=
  (s.items.scanEntry.take s.items.scanLength.toNat).filterMap fun a => Device.ofAddr a.toNat

/-! ## Gate valve commands (R78): the loadlocks have no gate -/

def State.gateOpen (s : State) (v : Volume) : Bool :=
  match v.turbo? with
  | some t => s.gates.getT t
  | none => false

def State.setGate (s : State) (v : Volume) (x : Bool) : State :=
  match v.turbo? with
  | some t => { s with gates := s.gates.setT t x }
  | none => s

/-! ## Commitments and what follows from them (R97, R100, R101, R111) -/

/-- The sum of a number over the six channels. -/
def sumChan (f : Chan → Nat) : Nat := (Chan.all.map f).sum

/-- The sum of a number over the 24 channels. -/
def sumChannels (f : Chamber → Chan → Nat) : Nat := (Chamber.all.map fun c => sumChan (f c)).sum

/-- A source's committed total: the commitments of every channel mapped to it (R100). -/
def State.sourceTotal (s : State) (n : Nat) : Nat :=
  sumChannels fun c k => if s.source c k = n then (s.row c k).commitment else 0

/-- The header total: the sum of all 24 commitments (R111). -/
def State.headerTotal (s : State) : Nat := sumChannels fun c k => (s.row c k).commitment

/-- Whether a chamber has any commitment above 0 (R100). -/
def State.hasCommitment (s : State) (c : Chamber) : Bool := Chan.all.any fun k => 0 < (s.row c k).commitment

/-- Whether every channel of a volume has commitment 0 (R56): TC and the loadlocks have no channels. -/
def State.drained (s : State) (v : Volume) : Bool :=
  match v with
  | .ch c => !s.hasCommitment c
  | _ => true

/-- A source valve is commanded open exactly while its committed total is above 0 and EMERGENCY_OFF is not asserted
(R101). -/
def State.sourceOpen (s : State) (n : Nat) : Bool := 0 < s.sourceTotal n && !s.fn .emergencyOff

/-- The gas permit of a chamber (R109). -/
def State.permit (s : State) (c : Chamber) : Bool :=
  s.fn .facilityGasOk && s.fn .exhaustOk && s.gat.enable.get c && !s.fn .emergencyOff

/-- The FINAL command of a chamber: open while it is RUNNING and has a commitment above 0 (R156). -/
def State.finalOpen (s : State) (c : Chamber) : Bool := (s.vol (.ch c)).state == .running && s.hasCommitment c

/-! ## The codes of Table 10-2 -/

def Kind.code : Kind → Nat
  | .pump => 1 | .vent => 2 | .purge => 3 | .dwell => 4 | .gas => 5 | .strike => 6 | .etch => 7

def Kind.ofCode : Nat → Option Kind
  | 1 => some .pump | 2 => some .vent | 3 => some .purge | 4 => some .dwell | 5 => some .gas | 6 => some .strike
  | 7 => some .etch | _ => none

/-- The gas kinds (R18). -/
def Kind.isGas : Kind → Bool
  | .gas | .strike | .etch => true
  | _ => false

/-- The kinds that use the step limit (R45). -/
def Kind.hasLimit : Kind → Bool
  | .pump | .vent | .purge | .gas => true
  | _ => false

def VolState.code : VolState → Nat
  | .idle => 0 | .running => 1 | .ending => 2 | .safing => 3 | .hold => 4

def HoldCause.code : HoldCause → Nat
  | .requested => 1 | .stepFailed => 2 | .underflow => 3 | .linkLost => 4 | .headerTrip => 5 | .permitLost => 6
  | .emergencyOff => 7 | .deviceFailed => 8 | .pressureTrip => 9 | .turboLost => 10

def FailKind.code : FailKind → Nat
  | .admitTimeout => 1 | .limitExceeded => 2 | .pumpStall => 3 | .turboWait => 4 | .lidOpen => 5 | .strikeFail => 6
  | .plasmaLost => 7 | .endpointMissed => 8 | .flowDeviation => 9 | .deviceFailed => 10

def StepOutcome.code : StepOutcome → Nat
  | .completed => 1 | .failed => 2 | .stopped => 3

def Note.code : Note → Nat
  | .cut => 1 | .noEndpoint => 2

def NoticeKind.code : NoticeKind → Nat
  | .stepDone => 1 | .volumeIdle => 2 | .volumeHold => 3 | .condition => 4 | .slitChanged => 5 | .deviceFailed => 6
  | .headerChanged => 7

def Flag.num : Flag → Nat
  | .stepOverflow => 0 | .underflow => 1 | .admitTimeout => 2 | .pumpRetry => 3 | .strikeRetry => 4
  | .flowDeviation => 5 | .deviceFailed => 6 | .linkLost => 7 | .headerTrip => 8 | .pressureTrip => 9
  | .permitLost => 10 | .endpointMissed => 11 | .manifoldTrip => 12 | .gaugeRange => 13

def Phase.code : Phase → Nat
  | .none => 0 | .waitRough => 1 | .valveWait => 2 | .rough => 3 | .turboWait => 4 | .highPump => 5 | .venting => 6
  | .overhang => 7 | .waitGas => 8 | .fill => 9 | .pumpback => 10 | .dwell => 11 | .transition => 12 | .settle => 13
  | .ignite => 14 | .confirm => 15 | .retryPause => 16 | .etch => 17

def WindowState.code : WindowState → Nat
  | .none => 0 | .inside => 1 | .outside => 2

def ReplyCode.code : ReplyCode → Nat
  | .ok => 0 | .clamped => 1 | .busy => 2 | .refused => 3

def Reason.code : Reason → Nat
  | .state => 1 | .owner => 2 | .full => 3 | .short => 4 | .empty => 5 | .kind => 6 | .format => 7 | .range => 8
  | .notFitted => 9 | .permit => 10 | .interlock => 11 | .config => 12

/-- Table 10-2's code of a failure kind, or 0 for none (Table 10-6). -/
def failCode (f : Option FailKind) : Nat := (f.map FailKind.code).getD 0

/-- The tag of the current step, or 0 (R62). -/
def Vol.currentTag (x : Vol) : Nat := (x.current.map (·.tag)).getD 0

/-! ## Notices -/

/-- Hands a notice to STE for posting at the end of the event under way (R62). -/
def post (addressees : List Link) (n : Notice) (s : State) : State :=
  { s with outbox := s.outbox ++ [⟨addressees, n⟩] }

/-- A notice taken by a port (R163): enabled in the mask, it overwrites the slot, advances the sequence count modulo 8 and
asserts the attention line; disabled, it is dropped. -/
def writeNotice (n : Notice) (p : Port) : Port :=
  if p.mask.getLsbD (n.kind.code - 1) then
    { p with slot := some ⟨n, true⟩, sequence := (p.sequence + 1) % 8, attention := true }
  else p

def postTo (n : Notice) (s : State) (l : Link) : State := s.modPort l (writeNotice n)

/-- A posting written to the slot of each addressee (R164). -/
def deliver (s : State) (p : Posting) : State := p.addressees.foldl (postTo p.notice) s

/-- The place of a notice among those of one event (R62, R127): DEVICE_FAILED first; then volume by volume, STEP_DONE, then
CONDITION in the order of the flags, then VOLUME_HOLD or VOLUME_IDLE; HEADER_CHANGED and SLIT_CHANGED last. -/
def Notice.rank (n : Notice) : Nat :=
  match n.kind with
  | .deviceFailed => 0
  | .stepDone => n.volume * 20 + 1
  | .condition => n.volume * 20 + 2 + n.code
  | .volumeHold => n.volume * 20 + 17
  | .volumeIdle => n.volume * 20 + 17
  | .headerChanged => 1000
  | .slitChanged => 1000

/-- Puts a posting before the first one of a higher rank. -/
def insertPosting (p : Posting) : List Posting → List Posting
  | [] => [p]
  | q :: rest => if p.notice.rank < q.notice.rank then p :: q :: rest else q :: insertPosting p rest

/-- The postings of an event in the order of R62, those of one rank in the order they arose. -/
def inOrder (l : List Posting) : List Posting := l.foldl (fun acc p => insertPosting p acc) []

/-- Posts the notices that the event led to, in the order of R62. -/
def flush (s : State) : State := (inOrder s.outbox).foldl deliver { s with outbox := [] }

end Sys2Proof.Machine
end

