-- ==== Sys2Proof/Machine/Flags.lean ====
section
/-! DEFINITION. Sys2Proof/Machine/Flags.lean: every flag computation: the condition flags of a volume (R53, R60), the range
flags of a gauge (R8), and the counters that count beside them (R61). -/

namespace Sys2Proof.Machine

open Sys2Proof

/-- A flag's bit in a mask of condition flags (Table 10-2). -/
def Flag.bit (f : Flag) : BitVec 14 := 1#14 <<< f.num

/-- Whether a condition flag is set on a volume. -/
def Vol.hasFlag (x : Vol) (f : Flag) : Bool := x.flags.getLsbD f.num

/-- The CONDITION notice of a flag (Table 10-6): the current step's tag or 0. -/
def conditionNotice (v : Volume) (x : Vol) (f : Flag) : Notice := ⟨.condition, v.num, x.currentTag, f.num, 0, 0⟩

/-- Sets a condition flag (R60): a flag that goes from clear to set posts CONDITION to the volume's master. On an unfitted
volume it is dropped (R28). -/
def setFlag (v : Volume) (f : Flag) (s : State) : State :=
  if s.fitted v then
    let s' := s.modVol v fun x => { x with flags := x.flags ||| f.bit }
    if (s.vol v).hasFlag f then s' else post [v.master] (conditionNotice v (s.vol v) f) s'
  else s

/-- The condition flag of a hold cause (R53), where it has one. -/
def HoldCause.flag : HoldCause → Option Flag
  | .underflow => some .underflow
  | .linkLost => some .linkLost
  | .headerTrip => some .headerTrip
  | .permitLost => some .permitLost
  | .deviceFailed => some .deviceFailed
  | .pressureTrip => some .pressureTrip
  | .requested | .stepFailed | .emergencyOff | .turboLost => none

/-- The condition flag of a failure kind (R53), where it has one. -/
def FailKind.flag : FailKind → Option Flag
  | .admitTimeout => some .admitTimeout
  | .endpointMissed => some .endpointMissed
  | .flowDeviation => some .flowDeviation
  | .deviceFailed => some .deviceFailed
  | .limitExceeded | .turboWait | .pumpStall | .lidOpen | .strikeFail | .plasmaLost => none

def setFlag? (v : Volume) (f : Option Flag) (s : State) : State :=
  match f with
  | some f => setFlag v f s
  | none => s

/-- One count of a 16-bit saturating counter (R3, R61). -/
def count16 (n : Nat) : Nat := satInc 65535 n

def Counters.countOverflow (k : Counters) : Counters := { k with overflow := count16 k.overflow }
def Counters.countUnderflow (k : Counters) : Counters := { k with underflow := count16 k.underflow }
def Counters.countPumpRetry (k : Counters) : Counters := { k with pumpRetry := count16 k.pumpRetry }
def Counters.countStrikeRetry (k : Counters) : Counters := { k with strikeRetry := count16 k.strikeRetry }
def Counters.countFailure (k : Counters) : Counters := { k with failure := count16 k.failure }

/-- Counts on one of a volume's counters; dropped on an unfitted volume (R28). -/
def countOn (v : Volume) (f : Counters → Counters) (s : State) : State :=
  if s.fitted v then s.modVol v fun x => { x with counters := f x.counters } else s

/-- UNDER: the sample's count is 0 to 15 (R8). -/
def underOf (count : Nat) : Bool := count ≤ 15

/-- OVER: the sample's count is 4080 to 4095 (R8). -/
def overOf (count : Nat) : Bool := 4080 ≤ count

end Sys2Proof.Machine
end

