-- ==== Sys2Proof/Machine/Bus.lean ====
section
/-! DEFINITION. Sys2Proof/Machine/Bus.lean: the pending-write table and the arbiter of the device bus (R121 to R123), and
the ramp generators that post into it (R114 to R118). -/

namespace Sys2Proof.Machine

open Sys2Proof

/-! ## Arbitration -/

/-- Class 1 before class 2. -/
def WriteClass.rank : WriteClass → Nat
  | .urgent => 1 | .normal => 2

/-- The more urgent of two classes (R121). -/
def WriteClass.min : WriteClass → WriteClass → WriteClass
  | .normal, .normal => .normal
  | _, _ => .urgent

/-- Whether the first write takes its turn before the second: class 1 first, the oldest within a class (R122). -/
def PendingWrite.before (a b : PendingWrite) : Bool :=
  if a.cls = b.cls then a.age < b.age else a.cls.rank < b.cls.rank

/-- The better of the write found so far and a device's own pending write. -/
def betterWrite (s : State) (best : Option (Device × PendingWrite)) (d : Device) : Option (Device × PendingWrite) :=
  match (s.device d).pending, best with
  | none, _ => best
  | some w, none => some (d, w)
  | some w, some (e, x) => if w.before x then some (d, w) else some (e, x)

/-- The most urgent pending write, if one is pending (R122). -/
def mostUrgent (s : State) : Option (Device × PendingWrite) := Device.all.foldl (betterWrite s) none

/-- The scan list from the scan position onward, wrapping, each entry with its position (R123). -/
def scanOrder (s : State) : List (Nat × Device) :=
  let l := s.scanList
  let numbered := (List.range l.length).zipWith (fun n d => (n + 1, d)) l
  numbered.drop (s.dbc.scanPos - 1) ++ numbered.take (s.dbc.scanPos - 1)

/-- The scan entry that a poll takes: the first from the scan position whose device is OK; a poll is possible only in
SERVING (R122, R123). -/
def nextPoll (s : State) : Option (Nat × Device) :=
  if s.cfg.serving then (scanOrder s).find? fun e => !(s.device e.2).failed else none

/-- A write start (R122): the entry leaves its place and its value, class and age pass to the transaction in flight. -/
def startWrite (d : Device) (w : PendingWrite) (s : State) : State :=
  let s := s.setDevice d { s.device d with pending := none }
  { s with dbc := { s.dbc with inFlight := some ⟨d, .set w, 0, false⟩, writes := if s.dbc.writes < 8 then s.dbc.writes + 1 else 8 } }

/-- A poll start (R122, R123): the consecutive-write count becomes 0 and the scan position the entry after the one taken,
wrapping. -/
def startPoll (n : Nat) (d : Device) (s : State) : State :=
  { s with dbc := { s.dbc with inFlight := some ⟨d, .read, 0, false⟩, writes := 0,
                               scanPos := if n < s.scanList.length then n + 1 else 1 } }

/-- The arbiter's choice on a free bus (R122): after eight writes in a row a poll takes its turn; else the most urgent
write; else a poll; else nothing. -/
def arbitrate (s : State) : State :=
  if s.dbc.inFlight.isSome then s
  else
    match mostUrgent s, nextPoll s with
    | some (d, w), some (n, e) => if s.dbc.writes = 8 then startPoll n e s else startWrite d w s
    | some (d, w), none => startWrite d w s
    | none, some (n, e) => startPoll n e s
    | none, none => s

/-! ## Posts -/

/-- A post taken by the pending-write table (R121): dropped for a FAILED device; a new, youngest entry in an empty place;
else the value is replaced, the age kept and the class the more urgent of the two. -/
def placeWrite (d : Device) (value : BusValue) (cls : WriteClass) (s : State) : State :=
  let r := s.device d
  if r.failed then s
  else
    match r.pending with
    | none =>
      let s := s.setDevice d { r with pending := some ⟨value, cls, s.dbc.nextAge⟩ }
      { s with dbc := { s.dbc with nextAge := s.dbc.nextAge + 1 } }
    | some w => s.setDevice d { r with pending := some ⟨value, w.cls.min cls, w.age⟩ }

/-- A post, and the arbiter's choice at a post that finds the bus free (R121, R122). -/
def postWrite (d : Device) (value : BusValue) (cls : WriteClass) (s : State) : State :=
  arbitrate (placeWrite d value cls s)

/-! ## Ramp generators -/

/-- A posting of a generator (R118): its posted setpoint, with its transition's class. -/
def postGenerator (c : Chamber) (k : Chan) (s : State) : State :=
  postWrite (.mfc c k) (.flow (s.gen c k).posted) (s.gen c k).cls s

/-- The generator at the start of a jump to `target` (R115): nothing of a ramp in hand is kept (R117). R115 gives q, r and A
for a ramp alone; at a jump the model sets them to 0 (DESIGN CHOICE, notes/assumptions/27.md). -/
def Generator.jump (g : Generator) (target : Nat) (cls : WriteClass) : Generator :=
  { posted := target, target := target, up := g.posted ≤ target, ticks := 0, quotient := 0, remainder := 0,
    accumulator := 0, left := 0, cls := cls }

/-- The generator at the start of a ramp of `n` ticks to `target` (R115): quotient and remainder of the difference, the
accumulator at 0, nothing posted yet. -/
def Generator.ramp (g : Generator) (target n : Nat) (cls : WriteClass) : Generator :=
  let d := if g.posted ≤ target then target - g.posted else g.posted - target
  { posted := g.posted, target := target, up := g.posted ≤ target, ticks := n, quotient := d / n,
    remainder := d - d / n * n, accumulator := 0, left := n, cls := cls }

/-- The start of a transition on a generator (R115): a jump posts its target at once. -/
def startGenerator (c : Chamber) (k : Chan) (target n : Nat) (cls : WriteClass) (s : State) : State :=
  if n = 0 then postGenerator c k (s.setGen c k ((s.gen c k).jump target cls))
  else s.setGen c k ((s.gen c k).ramp target n cls)

/-- The increment of a generator's next ramp step (R116). -/
def Generator.increment (g : Generator) : Nat :=
  if g.ticks ≤ g.accumulator + g.remainder then g.quotient + 1 else g.quotient

/-- One ramp step (R116). -/
def Generator.step (g : Generator) : Generator :=
  let a := g.accumulator + g.remainder
  { g with
    accumulator := if g.ticks ≤ a then a - g.ticks else a
    posted := if g.up then g.posted + g.increment else g.posted - g.increment
    left := g.left - 1 }

/-- A generator at a step tick (R116): a ramping generator takes one ramp step, and posts when the increment is above 0 or
the ramp ends. -/
def rampTick (s : State) (ck : Chamber × Chan) : State :=
  let g := s.gen ck.1 ck.2
  if g.left = 0 then s
  else
    let s := s.setGen ck.1 ck.2 g.step
    if 0 < g.increment || g.step.left = 0 then postGenerator ck.1 ck.2 s else s

/-- A generator stopped by its device's failure (R117). -/
def Generator.stop (g : Generator) : Generator :=
  { g with posted := 0, target := 0, quotient := 0, remainder := 0, accumulator := 0, left := 0 }

end Sys2Proof.Machine
end

