-- ==== Sys2Proof/Machine/Gas.lean ====
section
/-! DEFINITION. Sys2Proof/Machine/Gas.lean: GAT and HLM: transitions and commitments (R97, R102), the header state (R111),
the admission test (R104), the admission queue (R105 to R108) and the gas permit (R109). -/

namespace Sys2Proof.Machine

open Sys2Proof

/-! ## The header state -/

/-- The HEADER_CHANGED notice (Table 10-6), addressed to the masters of the fitted chambers (R111, R164). -/
def postHeaderChanged (s : State) : State :=
  post ((Chamber.all.filter fun c => s.fitted (.ch c)).map Link.cc)
    ⟨.headerChanged, 0, 0, if s.hlm.held then 1 else 0, 0, s.headerTotal⟩ s

/-- The test of the header state at a change of the header total (R111). -/
def headerTest (s : State) : State :=
  let total : Int := s.headerTotal
  if s.hlm.held then
    if total ≤ s.items.releaseThreshold then postHeaderChanged { s with hlm := { s.hlm with held := false } } else s
  else if s.items.holdThreshold ≤ total then postHeaderChanged { s with hlm := { s.hlm with held := true } }
  else s

/-! ## Transitions -/

/-- The row of a channel at the start of a transition toward `target` (R97). -/
def ChannelRow.start (r : ChannelRow) (target : Nat) : ChannelRow := ⟨max r.commitment target, target, true⟩

/-- The start of a transition (R97, R115, R130): the commitment becomes the larger of itself and the target, the deviation
count 0, and the generator starts. -/
def startTransition (c : Chamber) (k : Chan) (target n : Nat) (cls : WriteClass) (s : State) : State :=
  let s := s.setRow c k ((s.row c k).start target)
  let s := s.setCheck c k { s.check c k with deviation := 0 }
  startGenerator c k target n cls s

/-- A channel given target 0 as a jump without admission (R102): left alone when its present target is already 0 with no
transition in flight. -/
def zeroChannel (c : Chamber) (cls : WriteClass) (s : State) (k : Chan) : State :=
  if (s.row c k).target = 0 && !(s.row c k).inFlight then s else startTransition c k 0 0 cls s

/-- All six channels of a chamber given target 0 as a jump (R102), in the order 1 to 6 (DESIGN CHOICE,
notes/assumptions/8.md). -/
def zeroChamber (c : Chamber) (cls : WriteClass) (s : State) : State := Chan.all.foldl (zeroChannel c cls) s

/-! ## Flow requests -/

/-- The entry of a flows list for a channel, if the channel is listed (R20). -/
def listed? (flows : List FlowEntry) (k : Chan) : Option FlowEntry := flows.find? fun f => f.chan == k

/-- A channel's part of the formed request (R103): a listed target above the full scale is taken as the full scale; an
unlisted channel is to go to 0 as a jump. -/
def aimOf (s : State) (c : Chamber) (flows : List FlowEntry) (k : Chan) : Aim :=
  match listed? flows k with
  | some f => ⟨min f.target (s.fullScale c k), f.ticks⟩
  | none => ⟨0, 0⟩

/-- The formed request of R103. -/
def formRequest (s : State) (c : Chamber) (flows : List FlowEntry) : Per6 Aim :=
  ⟨aimOf s c flows .k1, aimOf s c flows .k2, aimOf s c flows .k3, aimOf s c flows .k4, aimOf s c flows .k5,
   aimOf s c flows .k6⟩

/-- Whether a listed channel is unmapped or its device is FAILED (R103). -/
def requestFails (s : State) (c : Chamber) (flows : List FlowEntry) : Bool :=
  flows.any fun f => s.source c f.chan = 0 || (s.device (.mfc c f.chan)).failed

/-- Whether a chamber has an entry in the gas admission queue. -/
def State.inGasQueue (s : State) (c : Chamber) : Bool := s.gat.queue.any fun e => e.chamber == c

/-- A chamber joins the gas admission queue at its tail, and its sequencer's admission count starts from 0 (R103, R105,
R51). -/
def joinGas (c : Chamber) (flows : List FlowEntry) (s : State) : State :=
  let e : GasEntry := ⟨c, formRequest s c flows⟩
  let s := { s with gat := { s.gat with queue := s.gat.queue ++ [e] } }
  s.modVol (.ch c) fun x => { x with admissionCount := 0 }

/-- A chamber's entry withdrawn, the entries behind it moving up (R108). -/
def withdrawGas (c : Chamber) (s : State) : State :=
  { s with gat := { s.gat with queue := s.gat.queue.filter fun e => e.chamber != c } }

/-! ## Admission -/

/-- The increase of a channel in a request (R104). -/
def increase (s : State) (e : GasEntry) (k : Chan) : Nat :=
  max (s.row e.chamber k).commitment (e.aims.get k).target - (s.row e.chamber k).commitment

/-- A request's total increase (R104). -/
def totalIncrease (s : State) (e : GasEntry) : Nat := sumChan (increase s e)

/-- A request's increase on one source (R104). -/
def sourceIncrease (s : State) (e : GasEntry) (n : Nat) : Nat :=
  sumChan fun k => if s.source e.chamber k = n then increase s e k else 0

/-- The numbers of the ten sources. -/
def sourceNumbers : List Nat := [1, 2, 3, 4, 5, 6, 7, 8, 9, 10]

/-- The capacity of a source (R100). -/
def State.sourceCapacity (s : State) (n : Nat) : Nat := (atPlace s.items.sourceCapacity n).toNat

/-- The admission test (R104): (a) every source has room, (b) the header is OPEN or the total increase is 0, (c) the
chamber's gas permit holds, (d) the header trip is not set. -/
def admissible (s : State) (e : GasEntry) : Bool :=
  (sourceNumbers.all fun n => s.sourceTotal n + sourceIncrease s e n ≤ s.sourceCapacity n)
    && (!s.hlm.held || totalIncrease s e == 0)
    && s.permit e.chamber
    && !s.hlm.trip

/-- The age of an entry: the admission count of its chamber's sequencer (R105). -/
def GasEntry.age (s : State) (e : GasEntry) : Nat := (s.vol (.ch e.chamber)).admissionCount

/-- The entry that a re-evaluation admits first (R106): the oldest that passes the test, unless the oldest of all fails
with its age above the overtake limit. -/
def nextAdmission (s : State) : Option GasEntry :=
  match s.gat.queue with
  | [] => none
  | e :: rest =>
    if admissible s e then some e
    else if s.items.overtakeLimit < (e.age s : Int) then none
    else rest.find? (admissible s)

/-- A channel at an admission (R107): left alone when its new target is its present target with no transition in flight. -/
def admitChannel (c : Chamber) (aims : Per6 Aim) (s : State) (k : Chan) : State :=
  let a := aims.get k
  if (s.row c k).target = a.target && !(s.row c k).inFlight then s
  else startTransition c k a.target a.ticks .normal s

/-- The phase a step is in after its request is admitted (R107, R92, R135): WAIT_GAS leads to FILL in a PURGE and to
TRANSITION in a gas kind; a carried ETCH stays in its ETCH phase (R141). -/
def Vol.afterAdmission (x : Vol) : Vol :=
  if x.phase = .waitGas then
    { x with phase := if (x.current.map (·.kind)) = some .purge then .fill else .transition }
  else x

/-- The admission of an entry (R107). Its channels start their transitions in the order 1 to 6 (DESIGN CHOICE,
notes/assumptions/8.md). -/
def admitEntry (e : GasEntry) (s : State) : State :=
  let s := withdrawGas e.chamber s
  let s := Chan.all.foldl (admitChannel e.chamber e.aims) s
  let s := headerTest s
  s.modVol (.ch e.chamber) Vol.afterAdmission

/-! ## Final writes and releases -/

/-- Whether a completion for a channel is its transition's final write (R98). -/
def isFinalWrite (s : State) (c : Chamber) (k : Chan) : Bool :=
  (s.row c k).inFlight && (s.gen c k).left == 0 && (s.gen c k).posted == (s.row c k).target
    && (s.device (.mfc c k)).pending.isNone

/-- GAT's part of a write completion (R98, R124, R130): at a final write the commitment becomes the present target, in
flight becomes no and the settle count 0. -/
def finalWrite (c : Chamber) (k : Chan) (s : State) : State :=
  if isFinalWrite s c k then
    let r := s.row c k
    let s := s.setRow c k ⟨r.target, r.target, false⟩
    headerTest (s.setCheck c k { s.check c k with settle := 0 })
  else s

/-- GAT's part of a device failure (R99, R117, R130): the commitment, present target and generator are released. -/
def releaseChannel (c : Chamber) (k : Chan) (s : State) : State :=
  let s := s.setRow c k ⟨0, 0, false⟩
  let s := s.setGen c k (s.gen c k).stop
  headerTest (s.setCheck c k { s.check c k with deviation := 0 })

end Sys2Proof.Machine
end

