-- ==== Sys2Proof/Machine/Rough.lean ====
section
/-! DEFINITION. Sys2Proof/Machine/Rough.lean: the rough manifold arbiter (chapter 4): loads, the rough queue, grants, the
opening of a rough valve and its release. -/

namespace Sys2Proof.Machine

open Sys2Proof

/-- The load units of a grant: heavy 4, light 1 (R64). -/
def Load.units : Load → Nat
  | .heavy => 4 | .light => 1

/-- The used load: the sum of the load fields of the grant list (R64). -/
def Rma.used (r : Rma) : Nat := (r.grants.map fun g => g.load.units).sum

/-- The grant a volume holds, if it holds one (R64). -/
def State.grant? (s : State) (v : Volume) : Option Grant := s.rma.grants.find? fun g => g.holder == v

/-- Whether a volume has an entry in the rough queue. -/
def State.inRoughQueue (s : State) (v : Volume) : Bool := s.rma.queue.any fun w => w == v

/-- Whether a volume holds a rough grant or has a rough queue entry (R9, R16). -/
def State.onManifold (s : State) (v : Volume) : Bool := (s.grant? v).isSome || s.inRoughQueue v

/-- The load that a grant to a volume takes now (R65): light below the heavy limit; heavy at or above it or without a
sample. -/
def prospectiveLoad (s : State) (v : Volume) : Load :=
  match s.code? (.vol v) with
  | some p => if p < s.items.heavyLimit then .light else .heavy
  | none => .heavy

/-- A volume joins the rough queue at its tail (R67): its step waits in WAIT_ROUGH and its admission count starts from 0. -/
def joinRough (v : Volume) (s : State) : State :=
  let s := { s with rma := { s.rma with queue := s.rma.queue ++ [v] } }
  s.modVol v fun x => { x with phase := .waitRough, admissionCount := 0 }

/-- The examination of the head of the rough queue (R68): when its prospective load fits beside the used load it is granted,
its entry leaves the queue, and its step enters VALVE_WAIT. None when the queue is empty or its head does not fit. -/
def grantHead? (s : State) : Option State :=
  match s.rma.queue with
  | [] => none
  | v :: rest =>
    if s.rma.used + (prospectiveLoad s v).units ≤ 4 then
      let r : Rma := ⟨s.rma.grants ++ [⟨v, prospectiveLoad s v, false⟩], rest⟩
      let s' := { s with rma := r }
      some (s'.modVol v fun x => { x with phase := .valveWait })
    else none

/-- The valve test of R70 for a holder whose valve field is WAITING: both gauges have a sample, the manifold code is at or
below the holder's, and the holder's gate is commanded closed (a loadlock has none). -/
def valveTest (s : State) (v : Volume) : Bool :=
  match s.code? .manifold, s.code? (.vol v) with
  | some m, some p => m ≤ p && !s.gateOpen v
  | _, _ => false

/-- The grant list with one volume's grant changed. -/
def mapGrant (v : Volume) (f : Grant → Grant) (s : State) : State :=
  { s with rma := { s.rma with grants := s.rma.grants.map fun g => if g.holder = v then f g else g } }

/-- The roughing stage a step enters when its rough valve opens (R70): PUMPBACK in a PURGE, else ROUGH. -/
def Vol.roughingPhase (x : Vol) : Phase := if (x.current.map (·.kind)) = some .purge then .pumpback else .rough

/-- The opening of a rough valve (R70, R86): the command is set open, the grant's valve field becomes OPEN, the step enters
its roughing stage with its code as stall baseline and the stall count 0. None when the volume holds no grant in WAITING or
the test fails. -/
def openValve? (v : Volume) (s : State) : Option State :=
  match s.grant? v, s.code? (.vol v) with
  | some g, some p =>
    if !g.valveOpen && valveTest s v then
      let s := mapGrant v (fun g => { g with valveOpen := true }) s
      some (s.modVol v fun x =>
        { x with roughOpen := true, phase := x.roughingPhase, stallBaseline := p, stallCount := 0 })
    else none
  | _, _ => none

/-- A heavy grant drops to light at a sample of its holder's gauge below the heavy limit (R66). -/
def dropLoad (v : Volume) (s : State) : State :=
  match s.code? (.vol v) with
  | some p => if p < s.items.heavyLimit then mapGrant v (fun g => { g with load := .light }) s else s
  | none => s

/-- A release or a withdrawal (R71, R74): the volume's grant leaves the grant list and its entry the rough queue, whichever
it holds, and its rough valve command is set closed. -/
def releaseRough (v : Volume) (s : State) : State :=
  let r : Rma := ⟨s.rma.grants.filter (fun g => g.holder != v), s.rma.queue.filter (fun w => w != v)⟩
  let s := { s with rma := r }
  s.modVol v fun x => { x with roughOpen := false }

end Sys2Proof.Machine
end

