-- ==== Sys2Proof/Machine/Engine.lean ====
section
/-! DEFINITION. Sys2Proof/Machine/Engine.lean: the step engine: the end of a step, wind-down, failures and faults (R52 to
R56), and the start of a step of every kind (R45 to R47, R81, R89, R91, R135, R141). -/

namespace Sys2Proof.Machine

open Sys2Proof

/-! ## Ends of steps -/

/-- The STEP_DONE notice of a step end (Table 10-6). -/
def stepDoneNotice (v : Volume) (e : StepEnd) : Notice :=
  ⟨.stepDone, v.num, e.tag, e.outcome.code, failCode e.failure + (e.note.map Note.code).getD 0, 0⟩

/-- Records the last step end of the current step and posts STEP_DONE (R49, R52, R54, R62). -/
def recordEnd (v : Volume) (o : StepOutcome) (f : Option FailKind) (n : Option Note) (s : State) : State :=
  match (s.vol v).current with
  | some r =>
    let e : StepEnd := ⟨r.tag, r.kind, o, f, n⟩
    post [v.master] (stepDoneNotice v e) (s.modVol v fun x => { x with lastEnd := some e })
  | none => s

/-! ## Wind-down -/

/-- RF enable off, power code 0 (R133). -/
def rfOff (c : Chamber) (s : State) : State := s.modReu c fun u => { u with rfOn := false, powerCode := 0 }

/-- The detector is disarmed; its counts and E stay as they stand (R142). -/
def disarm (c : Chamber) (s : State) : State := s.modDetector c fun d => { d with armed := false }

/-- The power code of an rf power of `w` watts: floor(w × 4095 / 3000) (R133). -/
def powerCodeOf (w : Nat) : Nat := w * 4095 / 3000

def setVent (v : Volume) (x : Bool) (s : State) : State := s.modVol v fun y => { y with ventOpen := x }

/-- What the owners of a chamber's plant do at the start of its wind-down (R55): REU, GAT, DBC. -/
def windDownChamber (c : Chamber) (s : State) : State :=
  let s := disarm c (rfOff c s)
  let s := zeroChamber c .urgent (withdrawGas c s)
  postWrite (.throttle c) .opened .urgent s

/-- Whether a hold cause also closes the gate (R55, R56). -/
def HoldCause.closesGate : HoldCause → Bool
  | .turboLost | .emergencyOff => true
  | _ => false

/-- The owners' wind-down actions (R55) for every volume. -/
def windDownPlant (v : Volume) (closeGate : Bool) (s : State) : State :=
  let s := match v with
    | .ch c => windDownChamber c s
    | _ => s
  let s := setVent v false (releaseRough v s)
  if closeGate then s.setGate v false else s

/-- Wind-down begins (R54): the volume leaves RUNNING for ENDING or, with a hold record, for SAFING; its phase becomes NONE
and its counts stop where they stand; every owner acts (R55). -/
def windDown (v : Volume) (hold : Option HoldRecord) (s : State) : State :=
  let s := s.modVol v fun x =>
    { x with state := if hold.isSome then .safing else .ending, phase := .none, hold := hold }
  windDownPlant v ((hold.map fun h => h.cause.closesGate).getD false) s

/-- The hold record made at the stop of the current step (R37, R54). -/
def Vol.holdRecord (x : Vol) (cause : HoldCause) (f : Option FailKind) : HoldRecord :=
  ⟨cause, f, x.currentTag, x.phase⟩

/-- SAFING from RUNNING with a cause (R54). -/
def enterSafing (v : Volume) (cause : HoldCause) (f : Option FailKind) (s : State) : State :=
  windDown v (some ((s.vol v).holdRecord cause f)) s

/-- ENDING from RUNNING (R54). -/
def enterEnding (v : Volume) (s : State) : State := windDown v none s

/-- The discard of a volume's queue (R34). -/
def discard (v : Volume) (s : State) : State := s.modVol v fun x => { x with queue := [] }

/-! ## Failures and faults -/

/-- A step failure (R52), taken in RUNNING alone. -/
def failStep (v : Volume) (f : FailKind) (s : State) : State :=
  match (s.vol v).state, (s.vol v).current with
  | .running, some r =>
    let s := recordEnd v .failed (some f) none s
    let s := countOn v Counters.countFailure (setFlag? v f.flag s)
    match r.onFail with
    | .hold => enterSafing v .stepFailed (some f) s
    | .abort => enterEnding v (discard v s)
  | _, _ => s

/-- A fault taken by a sequencer (R53), by the first-cause rule; dropped on an unfitted volume (R28). -/
def takeFault (v : Volume) (cause : HoldCause) (s : State) : State :=
  if s.fitted v then
    let s := setFlag? v cause.flag s
    match (s.vol v).state with
    | .running => enterSafing v cause none (recordEnd v .stopped none none s)
    | .ending =>
      let s := s.modVol v fun x =>
        { x with state := .safing, phase := .none, hold := some ⟨cause, none, x.currentTag, .none⟩ }
      if cause.closesGate then s.setGate v false else s
    | .safing | .hold | .idle => s
  else s

/-- An underflow (R32): counted, flagged, and the volume enters SAFING with cause UNDERFLOW. -/
def underflow (v : Volume) (s : State) : State :=
  let s := countOn v Counters.countUnderflow (setFlag v .underflow s)
  enterSafing v .underflow none s

/-! ## Starts of steps -/

/-- The sequencer at a step start (R45): the record becomes current, every count is set to 0, and the effective step limit
is set for the kinds that use one. -/
def Vol.begin (x : Vol) (r : StepRecord) (rest : List StepRecord) (defaultLimit : Nat) : Vol :=
  { x with
    queue := rest
    current := some r
    state := .running
    phase := .none
    hold := none
    limitCount := 0
    effLimit := if r.kind.hasLimit then (if 0 < r.limit then r.limit else defaultLimit) else x.effLimit
    admissionCount := 0
    dwellCount := 0
    retriesLeft := if r.kind = .pump then r.retries else 0
    stallBaseline := 0
    stallCount := 0
    cyclesLeft := if r.kind = .purge then r.cycles else 0
    overhangCount := 0
    settleCount := 0
    window := .none }

/-- The REU at a step start (R47, R133, R134): timers and counts 0, strike retries from a STRIKE's record; RF carried into
an ETCH at its own power, else off. -/
def Reu.begin (u : Reu) (r : StepRecord) (carry : Bool) : Reu where
  rfOn := if carry then u.rfOn else false
  powerCode := if carry then powerCodeOf r.power else 0
  strikeTimer := 0
  confirmCount := 0
  retriesLeft := if r.kind = .strike then r.retries else 0
  pauseCount := 0
  gated := 0
  dropout := 0
  endGated := 0

/-- The value posted to the throttle at a step start, where one is (R129): OPEN for PUMP, VENT, PURGE and a gas kind without
window; the target for a gas kind with one; none for DWELL. -/
def throttleAim (r : StepRecord) : Option BusValue :=
  match r.kind with
  | .pump | .vent | .purge => some .opened
  | .dwell => none
  | .gas | .strike | .etch => some (if r.window = 0 then .opened else .code r.target)

/-- The window state of a gas-kind step on a gauge code (R136). -/
def windowOf (r : StepRecord) (code : Option Int) : WindowState :=
  if r.window = 0 then .none
  else
    match code with
    | some p => if r.target - r.window ≤ p ∧ p ≤ r.target + r.window then .inside else .outside
    | none => .outside

/-- A flow request handed to GAT (R103): the step fails with DEVICE_FAILED when a listed channel is unmapped or its device
FAILED; else the chamber joins the gas admission queue. -/
def requestGas (c : Chamber) (flows : List FlowEntry) (s : State) : State :=
  if requestFails s c flows then failStep (.ch c) .deviceFailed s else joinGas c flows s

/-- Entry to the ETCH phase (R140): RF on at the record's power, gated and dropout timers 0, the end gated time at the
duration, and the detector armed when the record has an endpoint part (R142). -/
def enterEtch (c : Chamber) (r : StepRecord) (s : State) : State :=
  let s := s.modVol (.ch c) fun x => { x with phase := .etch }
  let s := s.modReu c fun u =>
    { u with rfOn := true, powerCode := powerCodeOf r.power, gated := 0, dropout := 0, endGated := r.duration }
  if r.endpoint.isSome then s.setDetector c ⟨true, 0, 0, none⟩ else s

/-- Entry to HIGH_PUMP (R81, R84, R85): the gate is commanded open. -/
def enterHighPump (v : Volume) (s : State) : State :=
  (s.modVol v fun x => { x with phase := .highPump }).setGate v true

/-- The end condition of roughing of a PUMP (R80): at or below crossover for a turbo volume whose target is below it; else
at or below the target. -/
def roughTarget (s : State) (v : Volume) (r : StepRecord) : Int :=
  match v.turbo? with
  | some t => if r.target < s.items.crossover.getT t then s.items.crossover.getT t else r.target
  | none => r.target

/-- Whether a PUMP hands its volume from roughing to a turbo (R80): a turbo volume, target below crossover. -/
def handsToTurbo (s : State) (v : Volume) (r : StepRecord) : Bool :=
  match v.turbo? with
  | some t => r.target < s.items.crossover.getT t
  | none => false

/-- Whether a turbo volume's TURBO function is asserted (R81, R84). -/
def turboAtSpeed (s : State) (v : Volume) : Bool :=
  match v.turbo? with
  | some t => s.fn (.turbo t)
  | none => false

/-- Whether a turbo volume stands at or below its crossover (R81). -/
def belowCrossover (s : State) (v : Volume) : Bool :=
  match v.turbo? with
  | some t => s.atOrBelow (.vol v) (s.items.crossover.getT t)
  | none => false

/-- Whether a volume is a chamber whose LID function is not asserted (R81). -/
def lidOpen (s : State) (v : Volume) : Bool :=
  match v with
  | .ch c => !s.fn (.lid c)
  | _ => false

/-- What a step's start came to: the step stands in a phase or has been stopped, or it has completed at its start. -/
inductive Started where
  | stands (s : State)
  | completes (s : State)

/-- The start of a PUMP (R81). A PUMP that fails LID_OPEN there has entered no phase, and its hold record holds NONE (DESIGN
CHOICE, notes/assumptions/12.md). -/
def startPump (v : Volume) (r : StepRecord) (s : State) : Started :=
  if lidOpen s v then .stands (failStep v .lidOpen s)
  else if s.atOrBelow (.vol v) r.target then .completes s
  else if belowCrossover s v && turboAtSpeed s v then .stands (enterHighPump v (setVent v false s))
  else
    let s := (setVent v false s).setGate v false
    if s.atOrBelow (.vol v) (roughTarget s v r) then
      if handsToTurbo s v r then .stands (s.modVol v fun x => { x with phase := .turboWait }) else .completes s
    else .stands (joinRough v s)

/-- The start of a VENT (R89). -/
def startVent (v : Volume) (s : State) : State :=
  (setVent v true (s.setGate v false)).modVol v fun x => { x with phase := .venting }

/-- The entry of a PURGE cycle's fill when its code stands below the fill code (R92, R93): a chamber hands GAT its flow
request in WAIT_GAS; TC and a loadlock open the vent and enter FILL. -/
def enterFill (v : Volume) (r : StepRecord) (s : State) : State :=
  match v with
  | .ch c => requestGas c r.flows (s.modVol v fun x => { x with phase := .waitGas })
  | _ => (setVent v true s).modVol v fun x => { x with phase := .fill }

/-- The pump-backs and cycles of a PURGE from a pump-back on (R91, R94): a pump-back whose code already stands at or below
the floor, and a fill whose code already stands at or above the fill code, end at once, so cycles may end within one event.
A fill that its entry test ends posts no zero for the purge channel, also while the zero of the fill before is still in
flight (DESIGN CHOICE, notes/assumptions/28.md). `n` is the number of pump-backs still to come. -/
def purgeFrom (v : Volume) (r : StepRecord) : Nat → State → Started
  | 0, s => .completes s
  | n + 1, s =>
    let s := s.modVol v fun x => { x with retriesLeft := (s.items.pumpBackRetries.get v).toNat }
    if s.atOrBelow (.vol v) r.floor then
      let s := s.modVol v fun x => { x with cyclesLeft := x.cyclesLeft - 1 }
      if (s.vol v).cyclesLeft = 0 then .completes s
      else
        let s := s.modVol v fun x => { x with limitCount := 0 }
        if s.atOrAbove (.vol v) r.target then purgeFrom v r n s else .stands (enterFill v r s)
    else .stands (joinRough v s)

/-- The beginning of a PURGE cycle (R91): the limit count is set to 0 and the fill is entered by its entry test. -/
def beginCycle (v : Volume) (r : StepRecord) (s : State) : Started :=
  let s := s.modVol v fun x => { x with limitCount := 0 }
  if s.atOrAbove (.vol v) r.target then purgeFrom v r (s.vol v).cyclesLeft s else .stands (enterFill v r s)

/-- The start of a PURGE (R91). -/
def startPurge (v : Volume) (r : StepRecord) (s : State) : Started := beginCycle v r (s.setGate v false)

/-- The start of a gas-kind step on its chamber (R135, R136, R141): the window state is set; a carried ETCH enters its ETCH
phase, any other step WAIT_GAS; the flow request is handed to GAT. -/
def startGasKind (c : Chamber) (r : StepRecord) (carry : Bool) (s : State) : State :=
  let s := s.modVol (.ch c) fun x => { x with window := windowOf r (s.code? (.vol (.ch c))) }
  let s := if carry then enterEtch c r s else s.modVol (.ch c) fun x => { x with phase := .waitGas }
  requestGas c r.flows s

/-- The plant of a chamber at a step start (R46, R47, R129): RF, the zero targets of PUMP, VENT and PURGE, and the throttle
post. No rule orders these posts: the zero jumps of channels 1 to 6 come before the throttle's, and the throttle's before
the flows of a gas kind (DESIGN CHOICE, notes/assumptions/8.md). -/
def startChamberPlant (c : Chamber) (r : StepRecord) (carry : Bool) (s : State) : State :=
  let s := s.modReu c fun u => u.begin r carry
  let s := match r.kind with
    | .pump | .vent | .purge => zeroChamber c .normal s
    | _ => s
  match throttleAim r with
  | some value => postWrite (.throttle c) value .normal s
  | none => s

/-- The first phase of a step's kind (R45). -/
def enterKind (v : Volume) (r : StepRecord) (carry : Bool) (s : State) : Started :=
  match r.kind with
  | .pump => startPump v r s
  | .vent => .stands (startVent v s)
  | .purge => startPurge v r s
  | .dwell => .stands (s.modVol v fun x => { x with phase := .dwell })
  | .gas | .strike | .etch =>
    match v with
    | .ch c => .stands (startGasKind c r carry s)
    | _ => .stands s

/-- The start of a step (R45). `carry`: the step before completed as a STRIKE or ETCH in this event, so an ETCH carries RF
over (R47). -/
def startStep (v : Volume) (r : StepRecord) (rest : List StepRecord) (carry : Bool) (s : State) : Started :=
  let carry := carry && r.kind == .etch
  let s := s.modVol v fun x => x.begin r rest (s.items.stepLimit.get v).toNat
  let s := match v with
    | .ch c => startChamberPlant c r carry s
    | _ => s
  enterKind v r carry s

/-- Step starts from the head of a queue (R45, R49): a step that completes at its start is recorded, and the next record
starts within the same event, for as long as steps complete at their starts and records are queued. -/
def startSteps (v : Volume) : List StepRecord → Bool → State → State
  | [], _, s => underflow v s
  | r :: rest, carry, s =>
    match startStep v r rest carry s with
    | .stands s => s
    | .completes s =>
      let s := recordEnd v .completed none none s
      if r.last then enterEnding v s else startSteps v rest false s

/-- What a completion leads to for the chamber's gas and detector (R141, R142): a waiting entry is withdrawn, the detector
disarmed. -/
def leaveStep (v : Volume) (s : State) : State :=
  match v with
  | .ch c => disarm c (withdrawGas c s)
  | _ => s

/-- The completion of the current step (R49): recorded and reported; then ENDING, the next record, or underflow. Taken in
RUNNING alone. -/
def completeStep (v : Volume) (n : Option Note) (s : State) : State :=
  match (s.vol v).state, (s.vol v).current with
  | .running, some r =>
    let s := recordEnd v .completed none n (leaveStep v s)
    if r.last then enterEnding v s
    else startSteps v (s.vol v).queue (r.kind == .strike || r.kind == .etch) s
  | _, _ => s

/-- A start that has come to something, after a completion within it is followed (R49). -/
def Started.settle (v : Volume) : Started → State
  | .stands s => s
  | .completes s => completeStep v none s

/-- RUN and RESUME take the head of the queue (R30, R39, R42). -/
def startQueue (v : Volume) (s : State) : State := startSteps v (s.vol v).queue false s

end Sys2Proof.Machine
end

