-- ==== Sys2Proof/Machine/Due.lean ====
section
/-! DEFINITION. Sys2Proof/Machine/Due.lean: what an event leads to within itself. Each operation `<row>?` below is one row
of the opcode table that the part takes by itself: it answers the state after it when the row's condition stands, and none
when it does not. `settle` takes them one after another until none stands, so that an event is whole when it ends
(notes/assumptions/2.md); `finish` then posts the event's notices. -/

namespace Sys2Proof.Machine

open Sys2Proof

/-- The current step of a volume that is RUNNING in a phase. -/
def inPhase (s : State) (v : Volume) (p : Phase) : Option StepRecord :=
  if (s.vol v).state = .running ∧ (s.vol v).phase = p then (s.vol v).current else none

/-- The current step of a volume that is RUNNING. -/
def runningStep (s : State) (v : Volume) : Option StepRecord :=
  if (s.vol v).state = .running then (s.vol v).current else none

/-- Whether a volume has an entry in the rough queue or the gas admission queue (R50, R51). -/
def State.waits (s : State) (v : Volume) : Bool :=
  s.inRoughQueue v || (match v with | .ch c => s.inGasQueue c | _ => false)

/-! ## Limits (R50, R51) -/

/-- The failure kind of a step limit (R50). -/
def limitFailure (p : Phase) : FailKind := if p = .turboWait then .turboWait else .limitExceeded

/-- STEP_LIMIT_EXPIRY (R50). -/
def stepLimitExpiry? (v : Volume) (s : State) : Option State :=
  match runningStep s v with
  | some r =>
    if r.kind.hasLimit && !s.waits v && (s.vol v).effLimit ≤ (s.vol v).limitCount then
      some (failStep v (limitFailure (s.vol v).phase) s)
    else none
  | none => none

/-- ADMISSION_LIMIT_EXPIRY (R51). -/
def admissionLimitExpiry? (v : Volume) (s : State) : Option State :=
  match runningStep s v with
  | some _ =>
    if s.waits v && s.items.admissionLimit.get v ≤ ((s.vol v).admissionCount : Int) then
      some (failStep v .admitTimeout s)
    else none
  | none => none

/-! ## Stall supervision (R86, R87) -/

/-- A stall retry (R73, R87): retries left falls, the retry is counted and flagged, the grant is released and the volume
rejoins the rough queue at its tail. -/
def stallRetry (v : Volume) (s : State) : State :=
  let s := s.modVol v fun x => { x with retriesLeft := x.retriesLeft - 1 }
  let s := countOn v Counters.countPumpRetry (setFlag v .pumpRetry s)
  joinRough v (releaseRough v s)

/-- What the check of R86 leads to for a code `p`: a fresh baseline and stall count, a stall retry, or PUMP_STALL. -/
def stallOutcome (v : Volume) (p : Int) (s : State) : State :=
  if s.items.minFall.get v ≤ (s.vol v).stallBaseline - p then
    s.modVol v fun x => { x with stallBaseline := p, stallCount := 0 }
  else if 0 < (s.vol v).retriesLeft then stallRetry v s
  else failStep v .pumpStall s

/-- Whether a volume is in its roughing stage, ROUGH or PUMPBACK, under a grant whose valve field is OPEN (R86). -/
def roughing (s : State) (v : Volume) : Bool :=
  (s.vol v).state == .running && ((s.vol v).phase == .rough || (s.vol v).phase == .pumpback)
    && (match s.grant? v with | some g => g.valveOpen | none => false)

/-- STALL_CHECK (R86). -/
def stallCheck? (v : Volume) (s : State) : Option State :=
  match s.code? (.vol v) with
  | some p =>
    if roughing s v && s.items.stallWindow.get v ≤ ((s.vol v).stallCount : Int) then some (stallOutcome v p s) else none
  | none => none

/-! ## Ends by a step-tick count -/

/-- DWELL_COMPLETE (R48): at the earliest at the first step tick after the start. -/
def dwellComplete? (v : Volume) (s : State) : Option State :=
  match inPhase s v .dwell with
  | some r => if max 1 r.duration ≤ (s.vol v).dwellCount then some (completeStep v none s) else none
  | none => none

/-- OVERHANG_END (R90): the vent is commanded closed and the step completes. -/
def overhangEnd? (v : Volume) (s : State) : Option State :=
  match inPhase s v .overhang with
  | some r =>
    if r.duration ≤ (s.vol v).overhangCount then some (completeStep v none (setVent v false s)) else none
  | none => none

/-- SETTLE_COMPLETE (R137). -/
def settleComplete? (c : Chamber) (s : State) : Option State :=
  match inPhase s (.ch c) .settle with
  | some r =>
    if r.duration ≤ (s.vol (.ch c)).settleCount && (s.vol (.ch c)).window != .outside then
      some (completeStep (.ch c) none s)
    else none
  | none => none

/-- STRIKE_CONFIRMED (R138). -/
def strikeConfirmed? (c : Chamber) (s : State) : Option State :=
  match inPhase s (.ch c) .confirm with
  | some r => if r.duration ≤ (s.reuOf c).confirmCount then some (completeStep (.ch c) none s) else none
  | none => none

/-- A strike retry (R139). -/
def strikeRetry (c : Chamber) (s : State) : State :=
  let s := s.modReu c fun u => { u with retriesLeft := u.retriesLeft - 1, confirmCount := 0, pauseCount := 0 }
  let s := countOn (.ch c) Counters.countStrikeRetry (setFlag (.ch c) .strikeRetry (rfOff c s))
  s.modVol (.ch c) fun x => { x with phase := .retryPause }

/-- STRIKE_TIMEOUT (R139), in IGNITE or CONFIRM; a confirm count that reaches its end at the same tick is taken first
(R138). -/
def strikeTimeout? (c : Chamber) (s : State) : Option State :=
  match runningStep s (.ch c) with
  | some _ =>
    if ((s.vol (.ch c)).phase == .ignite || (s.vol (.ch c)).phase == .confirm)
        && (strikeConfirmed? c s).isNone
        && s.items.strikeTimeout.get c ≤ ((s.reuOf c).strikeTimer : Int) then
      if 0 < (s.reuOf c).retriesLeft then some (strikeRetry c s) else some (failStep (.ch c) .strikeFail s)
    else none
  | none => none

/-- Entry to IGNITE (R138): RF on with the record's power, the strike timer 0. -/
def enterIgnite (c : Chamber) (r : StepRecord) (s : State) : State :=
  let s := s.modVol (.ch c) fun x => { x with phase := .ignite }
  s.modReu c fun u => { u with rfOn := true, powerCode := powerCodeOf r.power, strikeTimer := 0 }

/-- RETRY_PAUSE_END (R139): at the 20th step tick. -/
def retryPauseEnd? (c : Chamber) (s : State) : Option State :=
  match inPhase s (.ch c) .retryPause with
  | some r => if 20 ≤ (s.reuOf c).pauseCount then some (enterIgnite c r s) else none
  | none => none

/-- DROPOUT_LIMIT_EXCEEDED (R140). -/
def dropoutLimitExceeded? (c : Chamber) (s : State) : Option State :=
  match inPhase s (.ch c) .etch with
  | some _ =>
    if s.items.dropoutLimit.get c < ((s.reuOf c).dropout : Int) then some (failStep (.ch c) .plasmaLost s) else none
  | none => none

/-- Whether the endpoint of the ETCH under way is confirmed: its detector holds E (R142, R144). -/
def confirmedAt (s : State) (c : Chamber) (r : StepRecord) : Option Nat :=
  if r.endpoint.isSome then (s.detector c).endpointAt else none

/-- The over-etch of R144: floor(E × p / 100). -/
def overEtch (e p : Nat) : Nat := e * p / 100

/-- The end of an ETCH whose gated timer has reached the end gated time (R144, R145): completed after a confirmed endpoint,
with note CUT when the over-etch ran past the duration; else completed, with note NO_ENDPOINT where an endpoint was asked
for, or failed with ENDPOINT_MISSED where one was required. -/
def endEtch (c : Chamber) (r : StepRecord) (s : State) : State :=
  match r.endpoint, confirmedAt s c r with
  | some p, some e => completeStep (.ch c) (if r.duration < e + overEtch e p.overEtch then some .cut else none) s
  | some p, none =>
    if p.required then failStep (.ch c) .endpointMissed s else completeStep (.ch c) (some .noEndpoint) s
  | none, _ => completeStep (.ch c) none s

/-- Whether the end test of an ETCH stands (R140, R144): the gated timer has reached the end gated time, at a step tick of
the phase or at the confirming sample. An end gated time of 0 with nothing confirmed waits for the phase's first step
tick, which leaves a timer above 0. -/
def gatedTimeReached (s : State) (c : Chamber) (r : StepRecord) : Bool :=
  (s.reuOf c).endGated ≤ (s.reuOf c).gated
    && (0 < (s.reuOf c).endGated || 0 < (s.reuOf c).gated || 0 < (s.reuOf c).dropout || (confirmedAt s c r).isSome)

/-- GATED_TIME_END (R144, R145); the dropout test is made first (R140). -/
def gatedTimeEnd? (c : Chamber) (s : State) : Option State :=
  match inPhase s (.ch c) .etch with
  | some r =>
    if gatedTimeReached s c r && (dropoutLimitExceeded? c s).isNone then some (endEtch c r s) else none
  | none => none

/-! ## Ends by a commitment, a phase condition or an input function -/

/-- WIND_DOWN_END (R56): every commitment of a volume in ENDING or SAFING is 0. -/
def windDownEnd? (v : Volume) (s : State) : Option State :=
  if s.drained v then
    match (s.vol v).state with
    | .ending =>
      let s' := s.modVol v fun x => { x with state := .idle, current := none }
      some (post [v.master] ⟨.volumeIdle, v.num, (s.vol v).currentTag, 0, 0, 0⟩ s')
    | .safing =>
      let h := ((s.vol v).hold).getD ⟨.requested, none, 0, .none⟩
      let s' := s.modVol v fun x => { x with state := .hold }
      some (post [v.master] ⟨.volumeHold, v.num, h.tag, h.cause.code, failCode h.failure, 0⟩ s')
    | _ => none
  else none

/-- The phase that follows TRANSITION (R135): SETTLE for GAS with its count 0 (R137), IGNITE for STRIKE (R138), the ETCH
phase for ETCH (R140). -/
def afterTransition (c : Chamber) (r : StepRecord) (s : State) : State :=
  match r.kind with
  | .strike => enterIgnite c r s
  | .etch => enterEtch c r s
  | _ => s.modVol (.ch c) fun x => { x with phase := .settle, settleCount := 0 }

/-- TRANSITION_END (R135): no listed channel has a transition in flight. -/
def transitionEnd? (c : Chamber) (s : State) : Option State :=
  match inPhase s (.ch c) .transition with
  | some r => if r.flows.any fun f => (s.row c f.chan).inFlight then none else some (afterTransition c r s)
  | none => none

/-- Entry to CONFIRM from IGNITE with plasma detect asserted (R138). -/
def plasmaLit? (c : Chamber) (s : State) : Option State :=
  match inPhase s (.ch c) .ignite with
  | some _ =>
    if s.fn (.plasma c) then
      let s := s.modVol (.ch c) fun x => { x with phase := .confirm }
      some (s.modReu c fun u => { u with confirmCount := 0 })
    else none
  | none => none

/-- HIGH_PUMP from TURBO_WAIT with the TURBO function asserted (R84). -/
def turboReady? (v : Volume) (s : State) : Option State :=
  match inPhase s v .turboWait with
  | some _ => if turboAtSpeed s v then some (enterHighPump v s) else none
  | none => none

/-- The end of ROUGH (R72, R83): the grant is released; the step completes, or waits for its turbo. -/
def endRough (v : Volume) (r : StepRecord) (s : State) : State :=
  let s := releaseRough v s
  if handsToTurbo s v r then s.modVol v fun x => { x with phase := .turboWait } else completeStep v none s

/-- The end of a FILL (R92, R93): the purge channel is given target 0 as a jump, or the vent is commanded closed; the cycle
goes on to its pump-back. -/
def endFill (v : Volume) (r : StepRecord) (s : State) : State :=
  let s := match v with
    | .ch c => r.flows.foldl (fun s f => zeroChannel c .normal s f.chan) s
    | _ => setVent v false s
  (purgeFrom v r (s.vol v).cyclesLeft s).settle v

/-- The end of a PUMPBACK (R94): the grant is released and cycles left falls; the next cycle begins, or the step
completes. -/
def endPumpBack (v : Volume) (r : StepRecord) (s : State) : State :=
  let s := (releaseRough v s).modVol v fun x => { x with cyclesLeft := x.cyclesLeft - 1 }
  if (s.vol v).cyclesLeft = 0 then completeStep v none s else (beginCycle v r s).settle v

/-- A pressure-side phase whose code condition holds (R80) ends. -/
def codeReached? (v : Volume) (s : State) : Option State :=
  match runningStep s v with
  | some r =>
    match (s.vol v).phase with
    | .rough => if s.atOrBelow (.vol v) (roughTarget s v r) then some (endRough v r s) else none
    | .highPump => if s.atOrBelow (.vol v) r.target then some (completeStep v none s) else none
    | .venting =>
      if s.atOrAbove (.vol v) r.target then
        some (s.modVol v fun x => { x with phase := .overhang, overhangCount := 0 })
      else none
    | .fill => if s.atOrAbove (.vol v) r.target then some (endFill v r s) else none
    | .pumpback => if s.atOrBelow (.vol v) r.floor then some (endPumpBack v r s) else none
    | _ => none
  | none => none

/-! ## Shared plant -/

/-- GAS_ADMISSION (R106, R107): a re-evaluation admits its first entry that passes. -/
def gasAdmission? (s : State) : Option State := (nextAdmission s).map fun e => admitEntry e s

/-! ## The settling of an event -/

/-- What falls due at a tick, for one volume. -/
def tickDue? (v : Volume) (s : State) : Option State :=
  let chamberDue := match v with
    | .ch c =>
      (settleComplete? c s).or <| (strikeConfirmed? c s).or <| (strikeTimeout? c s).or <| (retryPauseEnd? c s).or <|
        (dropoutLimitExceeded? c s).or (gatedTimeEnd? c s)
    | _ => none
  (dwellComplete? v s).or <| (overhangEnd? v s).or <| chamberDue.or <| (stepLimitExpiry? v s).or <|
    (admissionLimitExpiry? v s).or (stallCheck? v s)

/-- What a volume's own state leads to, other than at a tick. -/
def stateDue? (v : Volume) (s : State) : Option State :=
  let chamberDue := match v with
    | .ch c => (transitionEnd? c s).or (plasmaLit? c s)
    | _ => none
  (windDownEnd? v s).or <| chamberDue.or <| (turboReady? v s).or (codeReached? v s)

/-- The next thing that the event under way leads to: what fell due at a tick, before any wait of another volume can end
(R51); then what a volume's own state leads to; then an opening rough valve, a rough grant, an admission. Volumes are
taken in ascending number. -/
def nextDue? (s : State) : Option State :=
  (Volume.all.findSome? fun v => tickDue? v s).or <|
  (Volume.all.findSome? fun v => stateDue? v s).or <|
  (Volume.all.findSome? fun v => openValve? v s).or <|
  (grantHead? s).or (gasAdmission? s)

/-- Takes what the event leads to until nothing more stands, at most `n` times. -/
def settle : Nat → State → State
  | 0, s => s
  | n + 1, s =>
    match nextDue? s with
    | some s' => settle n s'
    | none => s

/-- More than any event can lead to (notes/assumptions/3.md). -/
def settleBound : Nat := 20000

/-- The end of an event: everything it leads to is taken, and its notices are posted. -/
def finish (s : State) : State := flush (settle settleBound s)

/-- An event of a row that the part takes by itself: what follows when its condition stands; nothing when it does not. -/
def whenDue (t : Option State) (s : State) : State :=
  match t with
  | some s' => finish s'
  | none => s

end Sys2Proof.Machine
end

