-- ==== Sys2Proof/Machine/Samples.lean ====
section
/-! DEFINITION. Sys2Proof/Machine/Samples.lean: the samples of PEC (chapter 1): conversion to a pressure code, range
conditions, trip comparators and their destinations, the emission samples of the endpoint detectors (R143), and the end of
comparator blanking (R13). -/

namespace Sys2Proof.Machine

open Sys2Proof

/-! ## Conversion (R7, R8) -/

/-- The clamped pressure code of a count: lo + floor(count × (hi - lo) / 4095), floor toward minus infinity, brought into
-400 to 600 (R7). -/
def pressureCode (lo hi : Int) (count : Nat) : Int := clampInt (-400) 600 (lo + Int.fdiv (count * (hi - lo)) 4095)

/-- The sample that a conversion of a pressure channel gives (R5, R7, R8). -/
def sampleOf (s : State) (g : Gauge) (count : Nat) : GaugeSample :=
  ⟨count, pressureCode (s.items.lo.get g) (s.items.hi.get g) count, underOf count, overOf count⟩

/-! ## Range conditions (R9) -/

/-- Whether a sample enters a flagged condition: it carries a range flag that the sample before it did not (R9). -/
def entersFlagged (ch : GaugeChannel) (x : GaugeSample) : Bool :=
  (x.underFlag && !ch.prevUnder) || (x.overFlag && !ch.prevOver)

/-- The volumes that a gauge's range condition concerns (R9). -/
def rangeVolumes (s : State) (g : Gauge) : List Volume :=
  match g with
  | .vol v => [v]
  | .manifold => Volume.all.filter s.onManifold
  | .header => Chamber.all.map .ch

/-- A condition flag set on each of some volumes. -/
def setFlags (vs : List Volume) (f : Flag) (s : State) : State := vs.foldl (fun s v => setFlag v f s) s

/-- The new sample held, with its GAUGE_RANGE entry in SERVING (R5, R9). -/
def takeSample (g : Gauge) (x : GaugeSample) (s : State) : State :=
  let ch := s.gauge g
  let s' := s.setGauge g { ch with sample := some x, prevUnder := x.underFlag, prevOver := x.overFlag }
  if s.cfg.serving && entersFlagged ch x then setFlags (rangeVolumes s g) .gaugeRange s' else s'

/-! ## Trip comparators (R12 to R16) -/

/-- Whether comparator `g` is evaluated at a sample: enabled, in SERVING, not blanked (R12, R13). -/
def comparatorRuns (s : State) (g : Gauge) : Bool :=
  s.cfg.serving && s.pec.blanking.isNone && s.items.tripEnable.get g == 1

/-- The comparator's state after a code (R12): direction 0 is ABOVE, 1 is BELOW. -/
def comparatorNext (s : State) (g : Gauge) (asserted : Bool) (p : Int) : Bool :=
  let t := s.items.tripThreshold.get g
  let h := s.items.tripHysteresis.get g
  if s.items.tripDirection.get g = 0 then
    if asserted then !(p ≤ t - h) else t < p
  else
    if asserted then !(t + h ≤ p) else p < t

/-- A chamber at an assertion of the header comparator (R14): flagged, and faulted when it is RUNNING or ENDING with a
commitment above 0. -/
def headerTripChamber (s : State) (c : Chamber) : State :=
  let x := (s.vol (.ch c)).state
  if (x == .running || x == .ending) && s.hasCommitment c then takeFault (.ch c) .headerTrip s
  else setFlag (.ch c) .headerTrip s

/-- An assertion handed to its destination (R14, R15, R16). -/
def tripAsserted (g : Gauge) (s : State) : State :=
  match g with
  | .vol v => takeFault v .pressureTrip s
  | .manifold => setFlags (Volume.all.filter s.onManifold) .manifoldTrip s
  | .header => Chamber.all.foldl headerTripChamber { s with hlm := { s.hlm with trip := true } }

/-- A clearance handed to its destination (R14, R15, R16): only the header's has an effect. -/
def tripCleared (g : Gauge) (s : State) : State :=
  match g with
  | .header => { s with hlm := { s.hlm with trip := false } }
  | _ => s

/-- Comparator `g` evaluated on the sample just taken (R12). -/
def evalComparator (g : Gauge) (p : Int) (s : State) : State :=
  if comparatorRuns s g then
    let was := (s.gauge g).asserted
    let now := comparatorNext s g was p
    let s' := s.setGauge g { s.gauge g with asserted := now }
    if now && !was then tripAsserted g s' else if was && !now then tripCleared g s' else s'
  else s

/-! ## A pressure sample -/

/-- The window state of a chamber's gas-kind step at a sample of its gauge (R136); a sample that makes it OUT sets the GAS
settle count to 0 (R137). -/
def sampleWindow (c : Chamber) (s : State) : State :=
  match runningStep s (.ch c) with
  | some r =>
    if r.kind.isGas then
      let w := windowOf r (s.code? (.vol (.ch c)))
      s.modVol (.ch c) fun x => { x with window := w, settleCount := if w = .outside then 0 else x.settleCount }
    else s
  | none => s

/-- What RMA and STE do with a new code before phases are tested: the load drop of R66 and the window state of R136. -/
def sampleVolume (v : Volume) (s : State) : State :=
  let s := dropLoad v s
  match v with
  | .ch c => sampleWindow c s
  | _ => s

/-- A pressure sample up to the tests of the phases that wait on its code (R5): held, its comparator evaluated, then its
volume's load and window. -/
def pressureSampleEffect (g : Gauge) (count : Nat) (s : State) : State :=
  let x := sampleOf s g count
  let s := evalComparator g x.code (takeSample g x s)
  match g with
  | .vol v => sampleVolume v s
  | _ => s

/-- PRESSURE_SAMPLE (R5 to R16). -/
def execPressureSample (g : Gauge) (count : Nat) (s : State) : Host.Outcome State Fault Refusal :=
  .next (finish (pressureSampleEffect g count s))

/-! ## Emission and auxiliary samples (R10, R143, R144) -/

/-- Whether a sample counts toward the endpoint (R143). -/
def countsSample (p : Endpoint) (n : Nat) : Bool :=
  match p.direction with
  | .rise => p.threshold ≤ n
  | .fall => n ≤ p.threshold

/-- Whether a sample resets the confirm count (R143). -/
def resetsSample (p : Endpoint) (n : Nat) : Bool :=
  match p.direction with
  | .rise => n + p.hysteresis < p.threshold
  | .fall => p.threshold + p.hysteresis < n

/-- The confirmation of an endpoint (R144): E is the gated timer, the detector is disarmed, and the end gated time the
smaller of E plus the over-etch and the duration. -/
def confirmEndpoint (c : Chamber) (r : StepRecord) (p : Endpoint) (s : State) : State :=
  let e := (s.reuOf c).gated
  let s := s.modDetector c fun d => { d with armed := false, endpointAt := some e }
  s.modReu c fun u => { u with endGated := min (e + overEtch e p.overEtch) r.duration }

/-- An examined sample (R143). -/
def judgeSample (c : Chamber) (r : StepRecord) (p : Endpoint) (n : Nat) (s : State) : State :=
  if countsSample p n then
    let s := s.modDetector c fun d => { d with confirm := d.confirm + 1 }
    if p.confirm ≤ (s.detector c).confirm then confirmEndpoint c r p s else s
  else if resetsSample p n then s.modDetector c fun d => { d with confirm := 0 }
  else s

/-- An armed detector's sample (R143): ignored while the blanking count is below the record's blanking or the gated timer
below its minimum time. -/
def examineSample (c : Chamber) (n : Nat) (s : State) : State :=
  match inPhase s (.ch c) .etch with
  | some r =>
    match r.endpoint with
    | some p =>
      if !(s.detector c).armed || (s.detector c).blanking < p.blanking || (s.reuOf c).gated < p.minTime then s
      else judgeSample c r p n s
    | none => s
  | none => s

/-- The emission sample held, and handed to the chamber's endpoint detector (R10). -/
def emissionSampleEffect (c : Chamber) (n : Nat) (s : State) : State :=
  examineSample c n { s with pec := { s.pec with emission := s.pec.emission.set c (some n) } }

/-- EMISSION_SAMPLE (R10, R143, R144). -/
def execEmissionSample (c : Chamber) (count : Nat) (s : State) : Host.Outcome State Fault Refusal :=
  .next (finish (emissionSampleEffect c count s))

/-- AUX_SAMPLE (R10): the raw count is kept for reads. -/
def execAuxSample (a : Aux) (count : Nat) (s : State) : Host.Outcome State Fault Refusal :=
  .next { s with pec := { s.pec with aux := s.pec.aux.set a (some count) } }

/-! ## The end of blanking (R13) -/

/-- Blanking ends at the 100th step tick (R13). -/
def blankingEnds (n : Option Nat) : Option Nat :=
  match n with
  | some k => if 100 ≤ k then none else some k
  | none => none

def endBlanking (s : State) : State := { s with pec := { s.pec with blanking := blankingEnds s.pec.blanking } }

/-- TRIP_BLANKING_END (R13): the blanking count has reached its 100th step tick. -/
def execTripBlankingEnd (s : State) : Host.Outcome State Fault Refusal := .next (endBlanking s)

end Sys2Proof.Machine
end

