-- ==== Sys2Proof/Machine/BusEvents.lean ====
section
/-! DEFINITION. Sys2Proof/Machine/BusEvents.lean: the events of the device bus: transaction starts and completions (R120,
R122 to R126), device failure (R127) and the flow deviation check (R130). -/

namespace Sys2Proof.Machine

open Sys2Proof

/-! ## The end of a completion -/

/-- The bus is free (R120). -/
def freeBus (s : State) : State := { s with dbc := { s.dbc with inFlight := none } }

/-- The end of a completion event: what it leads to is taken, then the bus is free and the arbiter chooses the next
transaction within the same event (R120, R122). -/
def finishBus (s : State) : State := flush (arbitrate (freeBus (settle settleBound s)))

/-! ## Good answers -/

/-- A good answer to a SET (R124): the written value, the consecutive count, and for an MFC the report to GAT. -/
def setAnswered (d : Device) (w : PendingWrite) (s : State) : State :=
  let s := s.setDevice d { s.device d with written := some w.value, consecutive := 0 }
  match d with
  | .mfc c k => finalWrite c k s
  | .throttle _ => s

/-- The tolerance of a channel's deviation check (R130): the larger of the floor and floor(target × percent / 100). -/
def tolerance (s : State) (c : Chamber) (target : Nat) : Nat :=
  max (s.items.toleranceFloor.get c).toNat (target * (s.items.tolerancePercent.get c).toNat / 100)

/-- Whether the deviation check is made at a reading of a channel (R130). -/
def deviationChecked (s : State) (c : Chamber) (k : Chan) : Bool :=
  (s.vol (.ch c)).state == .running && !(s.row c k).inFlight && 0 < (s.row c k).target
    && s.items.settleTime.get c ≤ ((s.check c k).settle : Int)

/-- The absolute difference of two flows. -/
def flowDistance (a b : Nat) : Nat := if a ≤ b then b - a else a - b

/-- The deviation check at a good reading (R130): in SERVING alone, where polls are made. -/
def deviationCheck (c : Chamber) (k : Chan) (flow : Nat) (s : State) : State :=
  if deviationChecked s c k then
    let t := (s.row c k).target
    if tolerance s c t < flowDistance flow t then
      let n := (s.check c k).deviation + 1
      if s.items.debounce.get c ≤ (n : Int) then
        failStep (.ch c) .flowDeviation (s.setCheck c k { s.check c k with deviation := 0 })
      else s.setCheck c k { s.check c k with deviation := n }
    else s.setCheck c k { s.check c k with deviation := 0 }
  else s

/-- Whether a reading is one that the device gives: a flow from an MFC, a setpoint with control state from a throttle
controller (R119). -/
def readingFits (d : Device) (r : Reading) : Bool :=
  match d, r with
  | .mfc _ _, .flow _ => true
  | .throttle _, .throttle _ _ => true
  | _, _ => false

/-- A good answer to a READ (R125). -/
def readAnswered (d : Device) (r : Reading) (s : State) : State :=
  let s := s.setDevice d { s.device d with reading := some r, consecutive := 0 }
  match d, r with
  | .mfc c k, .flow f => deviationCheck c k f s
  | _, _ => s

/-! ## No-answers and device failure -/

/-- The place of a device after a SET to it ended as a no-answer (R124): the value returns with its age, or a newer value
posted meanwhile stands with the older age and the more urgent class. -/
def returnedWrite (w : PendingWrite) (place : Option PendingWrite) : PendingWrite :=
  match place with
  | none => w
  | some x => ⟨x.value, w.cls.min x.cls, w.age⟩

/-- The chamber's fault test at a device failure (R127, stage 3). `before`: the channel's commitment before GAT released
it. -/
def failureFaults (s : State) (d : Device) (before : Nat) : Bool :=
  match d with
  | .mfc c _ => (s.vol (.ch c)).state == .running && 0 < before
  | .throttle c =>
    match runningStep s (.ch c) with
    | some r => r.kind.isGas
    | none => false

/-- GAT's part of a device failure (R127, stage 2; R99): the channel is released, and the step of a chamber whose waiting
request lists it fails with DEVICE_FAILED. -/
def failureStage2 (d : Device) (s : State) : State :=
  match d with
  | .mfc c k =>
    let waiting := s.inGasQueue c &&
      (match (s.vol (.ch c)).current with | some r => (listed? r.flows k).isSome | none => false)
    let s := releaseChannel c k s
    if waiting then failStep (.ch c) .deviceFailed s else s
  | .throttle _ => s

/-- The commitment that a device's failure releases. -/
def commitmentOf (s : State) (d : Device) : Nat :=
  match d with
  | .mfc c k => (s.row c k).commitment
  | .throttle _ => 0

/-- The DEVICE_FAILED notice of stage 4 (R127), for a fitted chamber. -/
def postDeviceFailed (d : Device) (tag : Nat) (s : State) : State :=
  let c := d.chamber
  if s.fitted (.ch c) then post [.cc c] ⟨.deviceFailed, c.num, tag, 0, d.addr, 0⟩ s else s

/-- A device becomes FAILED (R127), its four stages in order. A wind-down that stage 2 can end, in ENDING, ends after stage 4
(R56), so the CONDITION of stage 3 and the DEVICE_FAILED of stage 4 carry the tag of the step that it drops, and not 0 (DESIGN
CHOICE, notes/assumptions/29.md). -/
def failDevice (d : Device) (s : State) : State :=
  let before := commitmentOf s d
  let tag := (s.vol (.ch d.chamber)).currentTag
  let s := s.setDevice d { s.device d with failed := true, pending := none, written := none }
  let s := failureStage2 d s
  let s := if failureFaults s d before then takeFault (.ch d.chamber) .deviceFailed s
    else setFlag (.ch d.chamber) .deviceFailed s
  postDeviceFailed d tag s

/-- A no-answer counted (R126): the 8-bit saturating counter and the consecutive count; the third in a row makes the device
FAILED. -/
def countNoAnswer (d : Device) (s : State) : State :=
  let r := s.device d
  let s := s.setDevice d { r with noAnswers := satInc 255 r.noAnswers, consecutive := min 3 (r.consecutive + 1) }
  if 3 ≤ r.consecutive + 1 then failDevice d s else s

/-- A transaction that ends as a no-answer (R124, R125, R126). -/
def noAnswer (t : Transaction) (s : State) : State :=
  match t.op with
  | .set w =>
    let r := s.device t.device
    countNoAnswer t.device (s.setDevice t.device { r with pending := some (returnedWrite w r.pending) })
  | .read => countNoAnswer t.device s

/-- The completion of the transaction in flight by `effect`, whose outcome a RESTART in between discards (R131). -/
def complete (t : Transaction) (effect : State → State) (s : State) : State :=
  finishBus (if t.discarded then s else effect s)

/-- The transaction in flight ends as a no-answer, if there is one (R120). -/
def endUnanswered (s : State) : State :=
  match s.dbc.inFlight with
  | some t => complete t (noAnswer t) s
  | none => s

/-- A good answer to a SET in flight (R120, R124). -/
def answerSet (s : State) : State :=
  match s.dbc.inFlight with
  | some t =>
    match t.op with
    | .set w => complete t (setAnswered t.device w) s
    | .read => s
  | none => s

/-- A good answer to a READ in flight (R120, R125). -/
def answerRead (r : Reading) (s : State) : State :=
  match s.dbc.inFlight with
  | some t =>
    match t.op with
    | .read => if readingFits t.device r then complete t (readAnswered t.device r) s else s
    | .set _ => s
  | none => s

/-! ## The commands -/

/-- TRANSACTION_START (R122): on a free bus the arbiter chooses. -/
def execTransactionStart (s : State) : Host.Outcome State Fault Refusal := .next (arbitrate s)

/-- SET_GOOD_ANSWER (R124). -/
def execSetGoodAnswer (s : State) : Host.Outcome State Fault Refusal := .next (answerSet s)

/-- READ_GOOD_ANSWER (R125). -/
def execReadGoodAnswer (r : Reading) (s : State) : Host.Outcome State Fault Refusal := .next (answerRead r s)

/-- BUS_BAD_ANSWER (R120): an answer with a wrong check or address ends the transaction in flight as a no-answer; with none
in flight it is discarded. -/
def execBusBadAnswer (s : State) : Host.Outcome State Fault Refusal := .next (endUnanswered s)

/-- RESPONSE_TIMEOUT (R120): the count of the transaction in flight reaches the response timeout. -/
def execResponseTimeout (s : State) : Host.Outcome State Fault Refusal := .next (endUnanswered s)

/-- An answer that arrives while no transaction is in flight is discarded and counts nowhere (R120). While one is in flight
an answer is not stray: it is SET_GOOD_ANSWER, READ_GOOD_ANSWER or BUS_BAD_ANSWER. -/
def execStrayAnswer (s : State) : Host.Outcome State Fault Refusal := .next s

end Sys2Proof.Machine
end

