-- ==== Sys2Proof/Machine/Lines.lean ====
section
/-! DEFINITION. Sys2Proof/Machine/Lines.lean: the field line unit: input functions (R152, R153), what their changes do
(R84, R88, R110, R134, R154), and the output lines (R154 to R156). -/

namespace Sys2Proof.Machine

open Sys2Proof

/-! ## Input functions (R152) -/

/-- Whether input line `n` (1 to 24) is asserted: its electrical level matches its polarity; before the first read every
line reads deasserted. -/
def lineAsserted (items : Items) (levels : Option (BitVec 24)) (n : Nat) : Bool :=
  match levels with
  | some x => x.getLsbD (n - 1) == (atPlace items.inputPolarity n == 0)
  | none => false

/-- The 24 line numbers. -/
def lineNumbers : List Nat := (List.range 24).map (· + 1)

/-- The lines mapped to an input function. -/
def mappedLines (items : Items) (f : InputFn) : List Nat := lineNumbers.filter fun n => atPlace items.inputMap n == f.num

/-- The value of an input function: EMERGENCY_OFF is asserted when any line mapped to it is; any other function when it has a
mapped line and every one is asserted. -/
def functionValue (items : Items) (levels : Option (BitVec 24)) (f : InputFn) : Bool :=
  let lines := mappedLines items f
  if f = .emergencyOff then lines.any (lineAsserted items levels)
  else !lines.isEmpty && lines.all (lineAsserted items levels)

/-! ## What a change does -/

/-- A permit loss of a chamber (R110): flagged; a chamber RUNNING or ENDING with a commitment above 0 is faulted. -/
def permitLoss (c : Chamber) (s : State) : State :=
  let x := (s.vol (.ch c)).state
  if (x == .running || x == .ending) && s.hasCommitment c then takeFault (.ch c) .permitLost s
  else setFlag (.ch c) .permitLost s

/-- The chambers whose permit held in `before` and no longer holds. -/
def permitsLost (before s : State) : List Chamber := Chamber.all.filter fun c => before.permit c && !s.permit c

/-- A turbo loss (R88): a TURBO function deasserts while the gate is commanded open. -/
def turboLoss (t : Turbo) (s : State) : State :=
  let v := t.volume
  let x := (s.vol v).state
  if x = .running ∨ x = .ending then takeFault v .turboLost s else s.setGate v false

/-- EMERGENCY_OFF asserts, for one volume (R59, R154): RUNNING and ENDING volumes are faulted; gate and vent are commanded
closed. -/
def emergencyVolume (s : State) (v : Volume) : State :=
  let x := (s.vol v).state
  let s := if x = .running ∨ x = .ending then takeFault v .emergencyOff s else s
  setVent v false (s.setGate v false)

/-- The assertion of EMERGENCY_OFF (R154). `before`: the state before the function changed. The permits that held are lost
and flagged; the fault is EMERGENCY_OFF, not PERMIT_LOST (R110). -/
def emergencyAsserted (before s : State) : State :=
  let s := Volume.all.foldl emergencyVolume s
  (permitsLost before s).foldl (fun s c => setFlag (.ch c) .permitLost s) s

/-- A change of PLASMA_c (R134, R138, R140): in CONFIRM a deassertion returns to IGNITE; in the ETCH phase an assertion sets
the dropout timer to 0. An assertion in IGNITE enters CONFIRM (Due.lean). -/
def plasmaChanged (c : Chamber) (x : Bool) (s : State) : State :=
  match runningStep s (.ch c) with
  | some _ =>
    if (s.vol (.ch c)).phase = .confirm ∧ x = false then
      (s.modVol (.ch c) fun y => { y with phase := .ignite }).modReu c fun u => { u with confirmCount := 0 }
    else if (s.vol (.ch c)).phase = .etch ∧ x = true then s.modReu c fun u => { u with dropout := 0 }
    else s
  | none => s

/-- An input function takes the value `x`, different from the one it had, and is handed to the blocks that act on it (R153).
A door-closed or LID function is only read at a moment (R176). -/
def functionChanged (f : InputFn) (x : Bool) (before : State) : State :=
  let s := { before with flu := { before.flu with fns := before.flu.fns.set f x } }
  match f with
  | .facilityGasOk => (permitsLost before s).foldl (fun s c => permitLoss c s) s
  | .exhaustOk => (permitsLost before s).foldl (fun s c => permitLoss c s) s
  | .emergencyOff => if x then emergencyAsserted before s else s
  | .plasma c => plasmaChanged c x s
  | .lid _ => s
  | .turbo t => if !x && s.gates.getT t then turboLoss t s else s
  | .door _ => s

/-- One function recomputed: a change is an event of its own (R153). -/
def updateFunction (s : State) (f : InputFn) : State :=
  let x := functionValue s.items s.flu.levels f
  if x = s.fn f then s else finish (functionChanged f x s)

/-- The functions recomputed from the line levels last read, changes taken in ascending function number (R152, R153). -/
def recompute (s : State) : State := InputFn.all.foldl updateFunction s

/-- INPUT_LINE_READ (R152). -/
def execInputLineRead (levels : BitVec 24) (s : State) : Host.Outcome State Fault Refusal :=
  .next (recompute { s with flu := { s.flu with levels := some levels } })

/-! ## Output lines (R154, R155, R156) -/

/-- What an output line carries (R155). -/
inductive OutLine where
  | rough (v : Volume)
  | gate (t : Turbo)
  | vent (v : Volume)
  | final (c : Chamber)
  | slit (w : Slit)
  | rfEn (c : Chamber)
  | doorPermit (l : Loadlock)
  | src (n : Nat)
  deriving DecidableEq, Repr

/-- The six lines of a chamber, in the order of R155. -/
def chamberLines (c : Chamber) : List OutLine :=
  [.rough (.ch c), .gate (.ch c), .vent (.ch c), .final c, .slit (.ch c), .rfEn c]

/-- The four lines of a loadlock, in the order of R155. -/
def loadlockLines (l : Loadlock) : List OutLine := [.rough (.ll l), .vent (.ll l), .slit (.ll l), .doorPermit l]

/-- The 45 output lines, line 1 first (R155). -/
def outLines : List OutLine :=
  Chamber.all.flatMap chamberLines ++ [.rough .tc, .gate .tc, .vent .tc] ++ loadlockLines .a ++ loadlockLines .b
    ++ sourceNumbers.map .src

/-- The command a line carries, held by its owner: open, on or asserted (R155). -/
def lineCommand (s : State) : OutLine → Bool
  | .rough v => (s.vol v).roughOpen
  | .gate t => s.gates.getT t
  | .vent v => (s.vol v).ventOpen
  | .final c => s.finalOpen c
  | .slit w => s.tiu.slits.get w
  | .rfEn c => (s.reuOf c).rfOn
  | .doorPermit l => s.tiu.doors.get l
  | .src n => s.sourceOpen n

/-- The lines that the emergency off override closes (R154). -/
def OutLine.overridden : OutLine → Bool
  | .rough _ | .gate _ | .vent _ | .final _ | .src _ => true
  | .slit _ | .rfEn _ | .doorPermit _ => false

/-- What a line is driven to (R154, R155): its command; closed or off in CONFIGURING; closed while the override acts on
it. -/
def lineDriven (s : State) (o : OutLine) : Bool :=
  lineCommand s o && s.cfg.serving && !(s.fn .emergencyOff && o.overridden)

/-- Whether output line `n` (1 to 45) is energised (R155): polarity 0 is ENERGISE_TO_OPEN, 1 is ENERGISE_TO_CLOSE. -/
def lineEnergised (s : State) (n : Nat) (o : OutLine) : Bool :=
  lineDriven s o == (atPlace s.items.outputPolarity n == 0)

end Sys2Proof.Machine
end

