-- ==== Sys2Proof/Machine/Items.lean ====
section
/-! DEFINITION. Sys2Proof/Machine/Items.lean: the configuration items by number and index (Table 11-1): their values,
ranges and defaults, the writing of one (R25, R170), and the checks of CLOSE CONFIGURATION (R172). -/

namespace Sys2Proof.Machine

open Sys2Proof

/-! ## Reading an item -/

/-- The value at a 1-based place of a list of `n` items. -/
def placeValue (n : Nat) (l : List Int) (i : Nat) : Option Int := if 1 ≤ i ∧ i ≤ n then some (atPlace l i) else none

/-- A global item has index 0. -/
def globalValue (x : Int) (i : Nat) : Option Int := if i = 0 then some x else none

/-- The value of an item; none when no item has that number and index (Table 11-1). -/
def Items.get? (t : Items) (n i : Nat) : Option Int :=
  match n with
  | 1 => (Gauge.ofNum i).map t.lo.get
  | 2 => (Gauge.ofNum i).map t.hi.get
  | 3 => (Gauge.ofNum i).map t.tripEnable.get
  | 4 => (Gauge.ofNum i).map t.tripThreshold.get
  | 5 => (Gauge.ofNum i).map t.tripDirection.get
  | 6 => (Gauge.ofNum i).map t.tripHysteresis.get
  | 7 => (Volume.ofNum i).map t.capacity.get
  | 8 => (Volume.ofNum i).map t.startDepth.get
  | 9 => (Volume.ofNum i).map t.stepLimit.get
  | 10 => (Volume.ofNum i).map t.admissionLimit.get
  | 11 => globalValue t.heavyLimit i
  | 12 => (Turbo.ofNum i).map t.crossover.getT
  | 13 => (Volume.ofNum i).map t.stallWindow.get
  | 14 => (Volume.ofNum i).map t.minFall.get
  | 15 => (Volume.ofNum i).map t.pumpBackRetries.get
  | 16 => (channelOfNum i).map fun p => t.sourceMap.getK p.1 p.2
  | 17 => placeValue 10 t.sourceCapacity i
  | 18 => globalValue t.overtakeLimit i
  | 19 => globalValue t.holdThreshold i
  | 20 => globalValue t.releaseThreshold i
  | 21 => (channelOfNum i).map fun p => t.fullScale.getK p.1 p.2
  | 22 => globalValue t.responseTimeout i
  | 23 => globalValue t.scanLength i
  | 24 => placeValue 32 t.scanEntry i
  | 25 => (Chamber.ofNum i).map t.tolerancePercent.get
  | 26 => (Chamber.ofNum i).map t.toleranceFloor.get
  | 27 => (Chamber.ofNum i).map t.settleTime.get
  | 28 => (Chamber.ofNum i).map t.debounce.get
  | 29 => (Chamber.ofNum i).map t.maxPower.get
  | 30 => (Chamber.ofNum i).map t.strikeTimeout.get
  | 31 => (Chamber.ofNum i).map t.dropoutLimit.get
  | 32 => globalValue t.matchWindow i
  | 33 => globalValue t.ventMargin i
  | 34 => placeValue 24 t.inputPolarity i
  | 35 => placeValue 24 t.inputMap i
  | 36 => placeValue 45 t.outputPolarity i
  | 37 => (Link.ofNum i).map t.linkTimeout.get
  | _ => none

/-! ## Ranges -/

/-- The range of item 8 (R25): 1 to the capacity, 1 alone when the capacity is 0. -/
def depthRange (t : Items) (i : Nat) : Int × Int :=
  match Volume.ofNum i with
  | some v => (1, max 1 (t.capacity.get v))
  | none => (1, 1)

/-- The range of an item, low value and high value (Table 11-1). -/
def Items.range (t : Items) (n i : Nat) : Int × Int :=
  match n with
  | 1 | 2 => (-1000, 1000)
  | 3 | 5 => (0, 1)
  | 4 => (-400, 600)
  | 6 => (0, 100)
  | 7 => (0, 32)
  | 8 => depthRange t i
  | 9 => (1, 3600)
  | 10 => (1, 600)
  | 11 => (-1000, 1000)
  | 12 => (-400, 600)
  | 13 => (1, 60)
  | 14 => (0, 100)
  | 15 => (0, 3)
  | 16 => (0, 10)
  | 17 => (0, 200000)
  | 18 => (1, 600)
  | 19 => (1, 1200000)
  | 20 => (0, 1199999)
  | 21 => (0, 50000)
  | 22 => (1, 20)
  | 23 => (0, 32)
  | 24 => (1, 28)
  | 25 => (1, 20)
  | 26 => (0, 500)
  | 27 => (0, 6000)
  | 28 => (1, 15)
  | 29 => (0, 3000)
  | 30 => (10, 3000)
  | 31 => (1, 100)
  | 32 => (0, 200)
  | 33 => (0, 100)
  | 34 | 36 => (0, 1)
  | 35 => (0, 18)
  | 37 => (50, 5000)
  | _ => (0, 0)

/-! ## Writing an item -/

/-- A place of a list replaced. The five containers below it leave alone what no index names. The turbo volumes of item 12
are numbered as the links are (1 to 5). -/
def setPlace (l : List Int) (i : Nat) (x : Int) : List Int := l.set (i - 1) x

def putGauge (p : Per9 Int) (i : Nat) (x : Int) : Per9 Int :=
  match Gauge.ofNum i with | some g => p.set g x | none => p

def putVolume (p : Per7 Int) (i : Nat) (x : Int) : Per7 Int :=
  match Volume.ofNum i with | some v => p.set v x | none => p

def putLink (p : Per5 Int) (i : Nat) (x : Int) : Per5 Int :=
  match Link.ofNum i with | some l => p.set l x | none => p

def putChamber (p : Per4 Int) (i : Nat) (x : Int) : Per4 Int :=
  match Chamber.ofNum i with | some c => p.set c x | none => p

def putChannel (p : Per24 Int) (i : Nat) (x : Int) : Per24 Int :=
  match channelOfNum i with | some q => p.setK q.1 q.2 x | none => p

/-- The start depth after a capacity write (R25): a capacity below it takes it along, to 1 at least. -/
def depthAfter (cap depth : Int) : Int := if cap < depth then max 1 cap else depth

/-- A capacity written, with the start depth it takes along (R25). -/
def Items.putCapacity (t : Items) (i : Nat) (x : Int) : Items :=
  match Volume.ofNum i with
  | some v => { t with capacity := t.capacity.set v x, startDepth := t.startDepth.set v (depthAfter x (t.startDepth.get v)) }
  | none => t

/-- An item's value replaced (R170). -/
def Items.put (t : Items) (n i : Nat) (x : Int) : Items :=
  match n with
  | 1 => { t with lo := putGauge t.lo i x }
  | 2 => { t with hi := putGauge t.hi i x }
  | 3 => { t with tripEnable := putGauge t.tripEnable i x }
  | 4 => { t with tripThreshold := putGauge t.tripThreshold i x }
  | 5 => { t with tripDirection := putGauge t.tripDirection i x }
  | 6 => { t with tripHysteresis := putGauge t.tripHysteresis i x }
  | 7 => t.putCapacity i x
  | 8 => { t with startDepth := putVolume t.startDepth i x }
  | 9 => { t with stepLimit := putVolume t.stepLimit i x }
  | 10 => { t with admissionLimit := putVolume t.admissionLimit i x }
  | 11 => { t with heavyLimit := x }
  | 12 => { t with crossover := putLink t.crossover i x }
  | 13 => { t with stallWindow := putVolume t.stallWindow i x }
  | 14 => { t with minFall := putVolume t.minFall i x }
  | 15 => { t with pumpBackRetries := putVolume t.pumpBackRetries i x }
  | 16 => { t with sourceMap := putChannel t.sourceMap i x }
  | 17 => { t with sourceCapacity := setPlace t.sourceCapacity i x }
  | 18 => { t with overtakeLimit := x }
  | 19 => { t with holdThreshold := x }
  | 20 => { t with releaseThreshold := x }
  | 21 => { t with fullScale := putChannel t.fullScale i x }
  | 22 => { t with responseTimeout := x }
  | 23 => { t with scanLength := x }
  | 24 => { t with scanEntry := setPlace t.scanEntry i x }
  | 25 => { t with tolerancePercent := putChamber t.tolerancePercent i x }
  | 26 => { t with toleranceFloor := putChamber t.toleranceFloor i x }
  | 27 => { t with settleTime := putChamber t.settleTime i x }
  | 28 => { t with debounce := putChamber t.debounce i x }
  | 29 => { t with maxPower := putChamber t.maxPower i x }
  | 30 => { t with strikeTimeout := putChamber t.strikeTimeout i x }
  | 31 => { t with dropoutLimit := putChamber t.dropoutLimit i x }
  | 32 => { t with matchWindow := x }
  | 33 => { t with ventMargin := x }
  | 34 => { t with inputPolarity := setPlace t.inputPolarity i x }
  | 35 => { t with inputMap := setPlace t.inputMap i x }
  | 36 => { t with outputPolarity := setPlace t.outputPolarity i x }
  | 37 => { t with linkTimeout := putLink t.linkTimeout i x }
  | _ => t

/-- The sum of the seven capacities (R25). -/
def Items.capacitySum (t : Items) : Int := (Volume.all.map t.capacity.get).sum

/-- The further tests of a capacity write (R25): the seven capacities sum to at most 96, and the volume's queue fits. -/
def capacityFits (s : State) (i : Nat) (x : Int) : Bool :=
  match Volume.ofNum i with
  | some v => (s.items.putCapacity i x).capacitySum ≤ 96 && ((s.vol v).queue.length : Int) ≤ x
  | none => true

/-- Checks 2 to 5 of R170. -/
def itemAccepts (s : State) (n i : Nat) (x : Int) : Bool :=
  (s.items.get? n i).isSome && (s.items.range n i).1 ≤ x && x ≤ (s.items.range n i).2
    && (n != 7 || capacityFits s i x)

/-- The write of an item and what acts on it at once (R170): an input polarity or map write recomputes the functions. -/
def writeItem (n i : Nat) (x : Int) (s : State) : State :=
  let s := { s with cfg := { s.cfg with items := s.items.put n i x } }
  if n = 34 ∨ n = 35 then recompute s else s

/-! ## The checks of CLOSE CONFIGURATION (R172) -/

/-- The item number of the first closing check that fails; none when all pass. -/
def closeFault (t : Items) : Option Nat :=
  if 96 < t.capacitySum then some 7
  else if t.holdThreshold ≤ t.releaseThreshold then some 20
  else if Gauge.all.any fun g => t.hi.get g ≤ t.lo.get g then some 2
  else if t.scanLength < 1 then some 23
  else if channels.any fun p => 0 < t.sourceMap.getK p.1 p.2 && t.fullScale.getK p.1 p.2 < 100 then some 21
  else if t.heavyLimit < -400 || 600 < t.heavyLimit then some 11
  else none

end Sys2Proof.Machine
end

