-- ==== Sys2Proof/Machine/Operands.lean ====
section
/-! DEFINITION. Sys2Proof/Machine/Operands.lean: the operands of a request: the requests as their bodies carry them (Table
10-1, 10-4, 10-5), the reading of a body (R160), the checks of the volume and chamber that a request names (R38, R109,
R128), and the checks and clamps of a record (R19, R23, R24). -/

namespace Sys2Proof.Machine

open Sys2Proof

/-- A request as its body carries it after kind and tag (Table 10-4). -/
inductive Request where
  | load (volume : Nat) (record : RawRecord)
  | run (volume : Nat)
  | hold (volume : Nat)
  | resume (volume : Nat)
  | clear (volume : Nat)
  | abort (volume : Nat)
  | gasEnable (chamber : Nat) (on : Bool)
  | transferAllow (chamber : Nat) (on : Bool)
  | openSlit (volume : Nat)
  | closeSlit (volume : Nat)
  | openDoor (volume : Nat)
  | closeDoor (volume : Nat)
  | readVolume (volume page : Nat)
  | readQueue (volume position page : Nat)
  | readSource (page : Nat)
  | readChannel (chamber channel page : Nat)
  | readDevice (address page : Nat)
  | readCounters (volume page : Nat)
  | readNotice
  | readConfig (item index page : Nat)
  | clearConditions (volume : Nat) (mask : Word16)
  | resetCounters (volume : Nat)
  | clearDevice (address : Nat)
  | setNoticeMask (mask : Byte)
  | writeConfig (item index : Nat) (value : Int)
  | closeConfiguration
  | reopenConfiguration
  | restart
  | alive
  deriving DecidableEq, Repr

/-- The request codes of Table 10-1. -/
def Request.code : Request → Nat
  | .load _ _ => 1 | .run _ => 2 | .hold _ => 3 | .resume _ => 4 | .clear _ => 5 | .abort _ => 6
  | .gasEnable _ _ => 7 | .transferAllow _ _ => 8 | .openSlit _ => 9 | .closeSlit _ => 10 | .openDoor _ => 11
  | .closeDoor _ => 12 | .readVolume _ _ => 13 | .readQueue _ _ _ => 14 | .readSource _ => 15
  | .readChannel _ _ _ => 16 | .readDevice _ _ => 17 | .readCounters _ _ => 18 | .readNotice => 19
  | .readConfig _ _ _ => 20 | .clearConditions _ _ => 21 | .resetCounters _ => 22 | .clearDevice _ => 23
  | .setNoticeMask _ => 24 | .writeConfig _ _ _ => 25 | .closeConfiguration => 26 | .reopenConfiguration => 27
  | .restart => 28 | .alive => 29

/-! ## Reading a body (R160) -/

/-- A number of two characters, high character first. -/
def word (h l : Byte) : Nat := h.toNat * 256 + l.toNat

/-- A signed number of two characters. -/
def sword (h l : Byte) : Int := if h.toNat < 128 then word h l else (word h l : Int) - 65536

/-- A signed number of four characters. -/
def slong (a b c d : Byte) : Int :=
  let n := word a b * 65536 + word c d
  if a.toNat < 128 then n else (n : Int) - 4294967296

/-- An on/off value: 0 or 1, else the body has no right form (R160, check 3). -/
def onOff (b : Byte) : Option Bool := if b = 0 then some false else if b = 1 then some true else none

/-- `n` flows entries of five characters each. -/
def readFlows : Nat → List Byte → Option (List RawFlow × List Byte)
  | 0, bs => some ([], bs)
  | n + 1, c :: th :: tl :: rh :: rl :: bs =>
    match readFlows n bs with
    | some (fs, bs) => some (⟨c.toNat, word th tl, word rh rl⟩ :: fs, bs)
    | none => none
  | _ + 1, _ => none

/-- The endpoint part of ten characters. -/
def readEndpoint : List Byte → Option RawEndpoint
  | [th, tl, m, h, c, bh, bl, mh, ml, o] =>
    some ⟨word th tl, m, h.toNat, c.toNat, word bh bl, word mh ml, o.toNat⟩
  | _ => none

/-- A step record body (Table 10-5). -/
def readRecord : List Byte → Option RawRecord
  | k :: t :: f :: dh :: dl :: lh :: ll :: th :: tl :: fh :: fl :: w :: ph :: pl :: r :: y :: n :: rest =>
    match readFlows n.toNat rest with
    | some (flows, rest) =>
      let base : RawRecord :=
        { kind := k.toNat, tag := t.toNat, flags := f, duration := word dh dl, limit := word lh ll,
          target := sword th tl, floor := sword fh fl, window := w.toNat, power := word ph pl,
          retries := r.toNat, cycles := y.toNat, flows := flows, endpoint := none }
      if f.getLsbD 2 then (readEndpoint rest).map fun e => { base with endpoint := some e }
      else if rest = [] then some base else none
    | none => none
  | _ => none

/-- The request of a kind and the characters after kind and tag (Table 10-1, Table 10-4); none when no request has that kind,
when the length is not the kind's, or when an on/off character is neither. -/
def readRequest (kind : Nat) (bs : List Byte) : Option Request :=
  match kind, bs with
  | 1, v :: r => (readRecord r).map (.load v.toNat)
  | 2, [v] => some (.run v.toNat)
  | 3, [v] => some (.hold v.toNat)
  | 4, [v] => some (.resume v.toNat)
  | 5, [v] => some (.clear v.toNat)
  | 6, [v] => some (.abort v.toNat)
  | 7, [c, b] => (onOff b).map (.gasEnable c.toNat)
  | 8, [c, b] => (onOff b).map (.transferAllow c.toNat)
  | 9, [v] => some (.openSlit v.toNat)
  | 10, [v] => some (.closeSlit v.toNat)
  | 11, [v] => some (.openDoor v.toNat)
  | 12, [v] => some (.closeDoor v.toNat)
  | 13, [v, p] => some (.readVolume v.toNat p.toNat)
  | 14, [v, n, p] => some (.readQueue v.toNat n.toNat p.toNat)
  | 15, [p] => some (.readSource p.toNat)
  | 16, [c, k, p] => some (.readChannel c.toNat k.toNat p.toNat)
  | 17, [a, p] => some (.readDevice a.toNat p.toNat)
  | 18, [v, p] => some (.readCounters v.toNat p.toNat)
  | 19, [] => some .readNotice
  | 20, [ih, il, x, p] => some (.readConfig (word ih il) x.toNat p.toNat)
  | 21, [v, mh, ml] => some (.clearConditions v.toNat (mh ++ ml))
  | 22, [v] => some (.resetCounters v.toNat)
  | 23, [a] => some (.clearDevice a.toNat)
  | 24, [m] => some (.setNoticeMask m)
  | 25, [ih, il, x, a, b, c, d] => some (.writeConfig (word ih il) x.toNat (slong a b c d))
  | 26, [] => some .closeConfiguration
  | 27, [] => some .reopenConfiguration
  | 28, [] => some .restart
  | 29, [] => some .alive
  | _, _ => none

/-- The fixed-value part of the form check (R160, check 3; Table 10-4, 10-5): the unused bits of flag characters, modes and
masks are 0, and the endpoint flag tells whether the endpoint part stands. -/
def Request.formed : Request → Bool
  | .load _ r =>
    r.flags >>> 3 == 0 && r.flags.getLsbD 2 == r.endpoint.isSome
      && (match r.endpoint with | some e => e.mode >>> 2 == 0 | none => true)
  | .clearConditions _ m => m >>> 14 == 0
  | .setNoticeMask m => m >>> 7 == 0
  | _ => true

/-! ## The volume, chamber or device a request names -/

/-- The checks of R38, in order: RANGE, NOT_FITTED, OWNER. -/
def volumeCheck (l : Link) (n : Nat) (s : State) : Except Reason Volume :=
  match Volume.ofNum n with
  | none => .error .range
  | some v => if !s.fitted v then .error .notFitted else if v.master ≠ l then .error .owner else .ok v

/-- The checks of a chamber request (R109, R147), in order: RANGE, NOT_FITTED, OWNER. -/
def chamberCheck (l : Link) (n : Nat) (s : State) : Except Reason Chamber :=
  match Chamber.ofNum n with
  | none => .error .range
  | some c => if !s.fitted (.ch c) then .error .notFitted else if Link.cc c ≠ l then .error .owner else .ok c

/-- The checks of a read of a volume: RANGE, NOT_FITTED (R35, R63, R167). -/
def readCheck (n : Nat) (s : State) : Except Reason Volume :=
  match Volume.ofNum n with
  | none => .error .range
  | some v => if s.fitted v then .ok v else .error .notFitted

/-- The interlock test of R41: true when it passes. -/
def interlockPasses (s : State) (v : Volume) : Bool :=
  match v with
  | .ch c => !s.tiu.slits.get (.ch c)
  | .tc => Slit.all.all fun w => !s.tiu.slits.get w
  | .ll w => !s.tiu.slits.get (.ll w) && !s.tiu.doors.get w && s.fn (.door w)

/-! ## A record (R19, R23, R24) -/

/-- The checks 5 and 8 to 13 of R23 on a record of kind `k` for volume `v`, in order; `none` when all pass. -/
def listFault (s : State) (v : Volume) (k : Kind) (r : RawRecord) : Option Reason :=
  if k.isGas && v.chamber?.isNone then some .kind
  else if 6 < r.flows.length then some .format
  else if (k == .pump || k == .vent || k == .dwell || (k == .purge && v.chamber?.isNone)) && !r.flows.isEmpty then
    some .format
  else if k == .purge && v.chamber?.isSome && r.flows.length != 1 then some .format
  else if r.flows.any fun f => (Chan.ofNum f.chan).isNone then some .range
  else if !(r.flows.map (·.chan)).Nodup then some .format
  else if (match v with
      | .ch c => r.flows.any fun f =>
          match Chan.ofNum f.chan with
          | some j => s.source c j = 0
          | none => false
      | _ => false) then some .format
  else if k != .etch && r.endpoint.isSome then some .format
  else none

/-- Check 14 of R23: unclamped fields in range. -/
def rangeFault (k : Kind) (r : RawRecord) : Bool :=
  (k.isGas && 200 < r.window)
    || (r.flows.any fun f => 6000 < f.ticks)
    || (match r.endpoint with
        | some e => 4095 < e.threshold || e.confirm == 0 || 15 < e.confirm || 200 < e.overEtch
        | none => false)

/-- A stored flows entry: its target clamped to the channel's full scale (R24). -/
def storeFlow (s : State) (v : Volume) (f : RawFlow) : Option FlowEntry :=
  match v, Chan.ofNum f.chan with
  | .ch c, some k => some ⟨k, min f.target (s.fullScale c k), f.ticks⟩
  | _, _ => none

/-- A stored endpoint part (R21). -/
def storeEndpoint (e : RawEndpoint) : Endpoint where
  threshold := e.threshold
  direction := if e.mode.getLsbD 0 then .fall else .rise
  hysteresis := e.hysteresis
  confirm := e.confirm
  blanking := e.blanking
  minTime := e.minTime
  overEtch := e.overEtch
  required := e.mode.getLsbD 1

/-- Whether a kind uses the target as its window centre or pressure (R19): a gas kind with window 0 does not. -/
def usesTarget (k : Kind) (window : Nat) : Bool :=
  match k with
  | .pump | .vent | .purge => true
  | .dwell => false
  | .gas | .strike | .etch => window != 0

/-- A chamber's maximum power (R133). -/
def maxPowerOf (s : State) (v : Volume) : Nat :=
  match v with
  | .ch c => (s.items.maxPower.get c).toNat
  | _ => 0

/-- The clamp of cycles (R24). -/
def clampCycles (n : Nat) : Nat := if n = 0 then 1 else min n 32

/-- The record as it is stored (R19, R24): the fixed values in the fields its kind does not use, and the clamps in the
fields it does. -/
def storeRecord (s : State) (v : Volume) (k : Kind) (r : RawRecord) : StepRecord where
  kind := k
  tag := r.tag
  last := r.flags.getLsbD 0
  onFail := if r.flags.getLsbD 1 then .abort else .hold
  duration := if k = .vent ∨ k = .dwell ∨ k.isGas then r.duration else 0
  limit := if k.hasLimit then min r.limit 3600 else 0
  target := if usesTarget k r.window then clampInt (-400) 600 r.target else 0
  floor := if k = .purge then clampInt (-400) 600 r.floor else 0
  window := if k.isGas then r.window else 0
  flows := r.flows.filterMap (storeFlow s v)
  power := if k = .strike ∨ k = .etch then min r.power (maxPowerOf s v) else 0
  retries := if k = .pump ∨ k = .strike then min r.retries 3 else 0
  cycles := if k = .purge then clampCycles r.cycles else 1
  endpoint := r.endpoint.map storeEndpoint

/-- Whether a clamp of R24 changes a value that the record's kind uses. -/
def clampChanges (s : State) (v : Volume) (k : Kind) (r : RawRecord) : Bool :=
  (k.hasLimit && 3600 < r.limit)
    || (usesTarget k r.window && clampInt (-400) 600 r.target != r.target)
    || (k == .purge && (clampInt (-400) 600 r.floor != r.floor || clampCycles r.cycles != r.cycles))
    || ((k == .strike || k == .etch) && maxPowerOf s v < r.power)
    || ((k == .pump || k == .strike) && 3 < r.retries)
    || (r.flows.any fun f =>
          match v, Chan.ofNum f.chan with
          | .ch c, some j => s.fullScale c j < f.target
          | _, _ => false)

end Sys2Proof.Machine
end

