-- ==== Sys2Proof/Machine/Reads.lean ====
section
/-! DEFINITION. Sys2Proof/Machine/Reads.lean: the answers of the reads (R168): the encodings of Table 10-3, the fields of
R17, R35, R63, R75, R95, R113, R132, R146, R157 and R167 in the order those rules list them, and the pages of 54
characters. Encodings that the tables leave open are in notes/assumptions/10.md. -/

namespace Sys2Proof.Machine

open Sys2Proof

/-! ## Table 10-3 -/

/-- A one-character number. -/
def enc1 (n : Nat) : List Byte := [BitVec.ofNat 8 n]

/-- A two-character number, high character first. -/
def enc2 (n : Nat) : List Byte := [BitVec.ofNat 8 (n / 256), BitVec.ofNat 8 n]

/-- A four-character number, high character first. -/
def enc4 (n : Nat) : List Byte := enc2 (n / 65536) ++ enc2 n

/-- A two's complement number of two characters. -/
def encS2 (x : Int) : List Byte := enc2 (x % 65536).toNat

/-- A two's complement number of four characters. -/
def encS4 (x : Int) : List Byte := enc4 (x % 4294967296).toNat

/-- A two-valued field. -/
def encB (b : Bool) : List Byte := if b then [1] else [0]

/-- An optional field: a presence character, then the field; an absent field's characters are 0. -/
def encOpt {α : Type} (width : Nat) (enc : α → List Byte) (x : Option α) : List Byte :=
  match x with
  | some v => 1 :: enc v
  | none => 0 :: List.replicate width 0

/-- A list of varying length: a count character, then the entries. -/
def encList {α : Type} (enc : α → List Byte) (l : List α) : List Byte := enc1 l.length ++ l.flatMap enc

/-! ## R17 -/

/-- The six fields of a pressure channel: no-sample mark, raw count, code, UNDER, OVER, comparator state. -/
def encGauge (g : GaugeChannel) : List Byte :=
  (match g.sample with
    | some x => encB false ++ enc2 x.count ++ encS2 x.code ++ encB x.underFlag ++ encB x.overFlag
    | none => encB true ++ enc2 0 ++ encS2 0 ++ encB false ++ encB false) ++ encB g.asserted

/-- An emission or auxiliary input: no-sample mark and raw count. -/
def encRaw (x : Option Nat) : List Byte := encB x.isNone ++ enc2 (x.getD 0)

/-- The PEC fields of READ VOLUME. -/
def volumeR17 (s : State) (v : Volume) : List Byte :=
  encGauge (s.gauge (.vol v)) ++ encGauge (s.gauge .manifold)
    ++ (match v with | .ch c => encRaw (s.pec.emission.get c) | _ => [])
    ++ encRaw s.pec.aux.aux1 ++ encRaw s.pec.aux.aux2 ++ encRaw s.pec.aux.aux3

/-! ## R63 -/

def encFail (f : Option FailKind) : List Byte := encOpt 1 (fun k => enc1 k.code) f

def encHold (h : HoldRecord) : List Byte := enc1 h.cause.code ++ encFail h.failure ++ enc1 h.tag ++ enc1 h.phase.code

def encEnd (e : StepEnd) : List Byte :=
  enc1 e.tag ++ enc1 e.kind.code ++ enc1 e.outcome.code ++ encFail e.failure ++ enc1 ((e.note.map Note.code).getD 0)

/-- The fourteen flags in the order of R60. -/
def encFlags (f : BitVec 14) : List Byte := (List.range 14).flatMap fun n => encB (f.getLsbD n)

/-- The sequencer items of READ VOLUME. -/
def volumeR63 (s : State) (v : Volume) : List Byte :=
  let x := s.vol v
  enc1 x.state.code ++ enc1 x.phase.code
    ++ encOpt 2 (fun r : StepRecord => enc1 r.tag ++ enc1 r.kind.code) x.current
    ++ enc2 x.limitCount ++ enc2 x.effLimit ++ enc2 x.admissionCount ++ enc2 (s.items.admissionLimit.get v).toNat
    ++ encOpt 5 encHold x.hold ++ encOpt 6 encEnd x.lastEnd ++ encFlags x.flags
    ++ encB (s.waits v) ++ encB (s.grant? v).isSome

/-! ## R75 -/

/-- The place of an entry in a queue, 1 for the head, 0 for none. -/
def placeIn {α : Type} (p : α → Bool) : List α → Nat
  | [] => 0
  | x :: rest => if p x then 1 else if placeIn p rest = 0 then 0 else placeIn p rest + 1

def encGrantLoad (g : Grant) : List Byte := enc1 g.load.units ++ encB g.valveOpen

/-- The RMA fields of READ VOLUME. -/
def volumeR75 (s : State) (v : Volume) : List Byte :=
  enc1 (placeIn (fun w => w == v) s.rma.queue) ++ encOpt 2 encGrantLoad (s.grant? v) ++ encB (s.vol v).roughOpen

/-- The RMA fields of READ SOURCE. The used load is 1 character (DESIGN CHOICE, notes/assumptions/10.md). -/
def sourceR75 (s : State) : List Byte :=
  enc1 s.rma.used ++ encList (fun g : Grant => enc1 g.holder.num ++ encGrantLoad g) s.rma.grants
    ++ encList (fun v : Volume => enc1 v.num) s.rma.queue ++ encS2 s.items.heavyLimit

/-! ## R95 -/

/-- The pressure-side fields of READ VOLUME. -/
def volumeR95 (s : State) (v : Volume) : List Byte :=
  let x := s.vol v
  (match v.turbo? with | some t => encB (s.gates.getT t) | none => [])
    ++ encB x.ventOpen
    ++ (match v with | .ch c => encB (s.fn (.lid c)) | _ => [])
    ++ (match v.turbo? with | some t => encB (s.fn (.turbo t)) | none => [])
    ++ enc2 x.retriesLeft ++ encS2 x.stallBaseline ++ enc2 x.stallCount ++ enc2 x.cyclesLeft ++ enc2 x.overhangCount

/-! ## R113 -/

def encAim (a : Aim) : List Byte := enc4 a.target ++ enc2 a.ticks

/-- A chamber's request in the gas admission queue, its six channels in order. -/
def encRequest (e : GasEntry) : List Byte := Chan.all.flatMap fun k => encAim (e.aims.get k)

/-- The GAT fields of READ VOLUME, for a chamber. -/
def volumeR113 (s : State) (v : Volume) : List Byte :=
  match v with
  | .ch c =>
    encB (s.gat.enable.get c) ++ encB (s.permit c) ++ enc1 (placeIn (fun e : GasEntry => e.chamber == c) s.gat.queue)
      ++ encOpt 36 encRequest (s.gat.queue.find? fun e => e.chamber == c)
  | _ => []

def encSource (s : State) (n : Nat) : List Byte :=
  enc4 (s.sourceCapacity n) ++ enc4 (s.sourceTotal n) ++ encB (s.sourceOpen n)

/-- The GAT and HLM fields of READ SOURCE. -/
def sourceR113 (s : State) : List Byte :=
  sourceNumbers.flatMap (encSource s)
    ++ enc4 s.headerTotal ++ encB s.hlm.held ++ enc4 s.items.holdThreshold.toNat ++ enc4 s.items.releaseThreshold.toNat
    ++ encB s.hlm.trip
    ++ encList (fun e : GasEntry => enc1 e.chamber.num ++ enc2 (e.age s)) s.gat.queue
    ++ enc2 s.items.overtakeLimit.toNat

/-- The GAT fields of READ CHANNEL. The source map is 1 character (DESIGN CHOICE, notes/assumptions/10.md). -/
def channelR113 (s : State) (c : Chamber) (k : Chan) : List Byte :=
  enc1 (s.source c k) ++ enc4 (s.row c k).commitment ++ enc4 (s.row c k).target ++ encB (s.row c k).inFlight

/-! ## R132 -/

/-- A setpoint value: a flow for an MFC; for a throttle controller an OPEN mark and a code. -/
def encValue : BusValue → List Byte
  | .flow fu => enc4 fu
  | .code p => encB false ++ encS2 p
  | .opened => encB true ++ encS2 0

/-- The width of a device's setpoint value. -/
def valueWidth : Device → Nat
  | .mfc _ _ => 4
  | .throttle _ => 3

def encReading : Reading → List Byte
  | .flow fu => enc4 fu
  | .throttle held inControl => encValue held ++ encB inControl

def readingWidth : Device → Nat
  | .mfc _ _ => 4
  | .throttle _ => 4

def WriteClass.code : WriteClass → Nat
  | .urgent => 1 | .normal => 2

def encPending (d : Device) (r : DeviceRow) : List Byte :=
  encOpt (valueWidth d + 1) (fun w : PendingWrite => encValue w.value ++ enc1 w.cls.code) r.pending

/-- The written value and latest reading, then the consecutive count and the no-answer counter. -/
def encHeld (d : Device) (r : DeviceRow) : List Byte :=
  encOpt (valueWidth d) encValue r.written ++ encOpt (readingWidth d) encReading r.reading
    ++ enc2 r.consecutive ++ enc2 r.noAnswers

def encCheck (x : FlowCheck) : List Byte := enc2 x.settle ++ enc2 x.deviation

def encGenerator (g : Generator) : List Byte :=
  enc4 g.posted ++ enc4 g.target ++ encB (!g.up) ++ enc2 g.ticks ++ enc4 g.quotient ++ enc4 g.remainder
    ++ enc4 g.accumulator ++ enc2 g.left ++ enc1 g.cls.code

/-- The FRU and DBC fields of READ CHANNEL. -/
def channelR132 (s : State) (c : Chamber) (k : Chan) : List Byte :=
  let d : Device := .mfc c k
  let r := s.device d
  encGenerator (s.gen c k) ++ encB r.failed ++ encPending d r ++ encHeld d r ++ encCheck (s.check c k)

/-- Whether a transaction to a device is in flight. -/
def busyWith (s : State) (d : Device) : Bool :=
  match s.dbc.inFlight with
  | some t => t.device == d
  | none => false

/-- The fields of READ DEVICE. -/
def deviceR132 (s : State) (d : Device) : List Byte :=
  let r := s.device d
  encB r.failed ++ encPending d r ++ encB (busyWith s d) ++ encHeld d r
    ++ (match d with | .mfc c k => encCheck (s.check c k) | .throttle _ => [])

/-! ## R146 -/

/-- The REU and detector fields of READ VOLUME, for a chamber. The detector's confirm count is 2 characters (DESIGN CHOICE,
notes/assumptions/10.md). -/
def volumeR146 (s : State) (v : Volume) : List Byte :=
  match v with
  | .ch c =>
    let u := s.reuOf c
    let d := s.detector c
    let x := s.vol v
    encB u.rfOn ++ enc2 u.powerCode ++ encB (s.fn (.plasma c)) ++ enc1 x.window.code ++ enc2 x.settleCount
      ++ enc2 u.strikeTimer ++ enc2 u.confirmCount ++ enc2 u.retriesLeft ++ enc2 u.pauseCount
      ++ enc2 u.gated ++ enc2 u.dropout ++ enc2 u.endGated
      ++ encB d.armed ++ enc2 d.blanking ++ enc2 d.confirm ++ encOpt 2 enc2 d.endpointAt
  | _ => []

/-! ## R157 -/

/-- The output lines with their numbers 1 to 45. -/
def numberedLines : List (Nat × OutLine) := (List.range 45).zipWith (fun n o => (n + 1, o)) outLines

/-- Whether the line that carries a command is energised. -/
def energisedLine (s : State) (o : OutLine) : Bool :=
  match numberedLines.find? fun e => e.2 == o with
  | some e => lineEnergised s e.1 o
  | none => false

/-- The TIU and FLU fields of READ VOLUME. The six slit commands of TC are chambers 1 to 4, then loadlocks A and B: R157 gives
no order among them (DESIGN CHOICE, notes/assumptions/10.md). -/
def volumeR157 (s : State) (v : Volume) : List Byte :=
  match v with
  | .ch c =>
    encB (s.tiu.allow.get c) ++ encB (s.tiu.slits.get (.ch c)) ++ encB (s.finalOpen c) ++ encB (energisedLine s (.rfEn c))
  | .tc => Slit.all.flatMap fun w => encB (s.tiu.slits.get w)
  | .ll w => encB (s.tiu.slits.get (.ll w)) ++ encB (s.tiu.doors.get w) ++ encB (s.fn (.door w))

/-- The electrical level of an input line as last read, true for high; before the first read the level at which the line is
deasserted (DESIGN CHOICE, notes/assumptions/10.md). -/
def lineLevel (s : State) (n : Nat) : Bool :=
  match s.flu.levels with
  | some x => x.getLsbD (n - 1)
  | none => atPlace s.items.inputPolarity n != 0

/-- The FLU and TIU fields of READ SOURCE. An input line level is sent as 1 for high and 0 for low: Table 10-2 names no code
for it (DESIGN CHOICE, notes/assumptions/10.md). -/
def sourceR157 (s : State) : List Byte :=
  lineNumbers.flatMap (fun n => encB (lineLevel s n)) ++ InputFn.all.flatMap (fun f => encB (s.fn f))
    ++ outLines.flatMap (fun o => encB (lineCommand s o))
    ++ numberedLines.flatMap (fun e => encB (lineEnergised s e.1 e.2))
    ++ encB (s.fn .emergencyOff) ++ enc2 s.items.matchWindow.toNat ++ enc2 s.items.ventMargin.toNat

/-! ## The answers, unpaged -/

/-- READ VOLUME (R168). -/
def volumeFields (s : State) (v : Volume) : List Byte :=
  volumeR17 s v ++ volumeR63 s v ++ volumeR75 s v ++ volumeR95 s v ++ volumeR113 s v ++ volumeR146 s v ++ volumeR157 s v

/-- READ SOURCE (R17, R75, R113, R157). -/
def sourceFields (s : State) : List Byte := encGauge (s.gauge .header) ++ sourceR75 s ++ sourceR113 s ++ sourceR157 s

/-- READ CHANNEL (R113, R132). -/
def channelFields (s : State) (c : Chamber) (k : Chan) : List Byte := channelR113 s c k ++ channelR132 s c k

/-- READ COUNTERS (R167): the volume's five counters, a chamber's seven device no-answer counters, and the port counters of
the volume's master. -/
def counterFields (s : State) (v : Volume) : List Byte :=
  let k := (s.vol v).counters
  let p := s.port v.master
  enc2 k.overflow ++ enc2 k.underflow ++ enc2 k.pumpRetry ++ enc2 k.strikeRetry ++ enc2 k.failure
    ++ (match v with
        | .ch c => Chan.all.flatMap (fun j => enc2 (s.device (.mfc c j)).noAnswers) ++ enc2 (s.device (.throttle c)).noAnswers
        | _ => [])
    ++ enc2 p.frameErrors ++ enc2 p.linkDowns

/-! ## A record (Table 10-5) -/

def encFlow (f : FlowEntry) : List Byte := enc1 f.chan.num ++ enc2 f.target ++ enc2 f.ticks

def encEndpoint (e : Endpoint) : List Byte :=
  enc2 e.threshold ++ enc1 ((if e.direction = .fall then 1 else 0) + (if e.required then 2 else 0))
    ++ enc1 e.hysteresis ++ enc1 e.confirm ++ enc2 e.blanking ++ enc2 e.minTime ++ enc1 e.overEtch

/-- The flags character of a record. -/
def recordFlags (r : StepRecord) : Nat :=
  (if r.last then 1 else 0) + (if r.onFail = .abort then 2 else 0) + (if r.endpoint.isSome then 4 else 0)

/-- A stored record in the layout of Table 10-5 (R35). -/
def encRecord (r : StepRecord) : List Byte :=
  enc1 r.kind.code ++ enc1 r.tag ++ enc1 (recordFlags r) ++ enc2 r.duration ++ enc2 r.limit ++ encS2 r.target
    ++ encS2 r.floor ++ enc1 r.window ++ enc2 r.power ++ enc1 r.retries ++ enc1 r.cycles
    ++ encList encFlow r.flows
    ++ (match r.endpoint with | some e => encEndpoint e | none => [])

/-- READ QUEUE (R35): count, capacity, start depth and a record. -/
def queueFields (s : State) (v : Volume) (r : StepRecord) : List Byte :=
  enc1 (s.vol v).queue.length ++ enc1 (s.capacity v) ++ enc1 (s.startDepth v) ++ encRecord r

/-! ## Pages (R168) -/

def pageSize : Nat := 54

/-- How many pages an answer takes. -/
def pageCount (fields : List Byte) : Nat := (fields.length + (pageSize - 1)) / pageSize

/-- The data of one page: page, page count, characters; none at or beyond the page count. -/
def pageData (fields : List Byte) (page : Nat) : Option (List Byte) :=
  if page < pageCount fields then
    some (enc1 page ++ enc1 (pageCount fields) ++ (fields.drop (pageSize * page)).take pageSize)
  else none

/-! ## READ NOTICE (R165) -/

/-- The data of READ NOTICE: unread mark, sequence count, and the notice. An empty slot has kind NONE; R165 gives no other
field of it but the count, and its unread mark, volume, tag, code, detail and value are sent as 0 (DESIGN CHOICE,
notes/assumptions/10.md). -/
def noticeData (p : Port) : List Byte :=
  match p.slot with
  | some x =>
    encB x.unread ++ enc1 p.sequence ++ enc1 x.notice.kind.code ++ enc1 x.notice.volume ++ enc1 x.notice.tag
      ++ enc1 x.notice.code ++ enc1 x.notice.detail ++ enc4 x.notice.value
  | none => encB false ++ enc1 p.sequence ++ List.replicate 9 0

end Sys2Proof.Machine
end

