-- ==== Sys2Proof/Machine/Requests.lean ====
section
/-! DEFINITION. Sys2Proof/Machine/Requests.lean: what the owning block of each request does with it (Table 10-1): its
checks in their order, its action, and its answer. Every request answers the state after it and an `Answer`; a refusal
leaves the state as it was, but for a FULL refusal (R27, R160). -/

namespace Sys2Proof.Machine

open Sys2Proof

/-- A reply without its echo: code, reason, data (R160). -/
structure Answer where
  code : ReplyCode
  reason : Option Reason
  data : List Byte
  deriving DecidableEq, Repr

/-- OK with data. -/
def okWith (data : List Byte) : Answer := ⟨.ok, none, data⟩

/-- OK without data. -/
def ok : Answer := okWith []

/-- REFUSED with a reason. -/
def refuse (r : Reason) : Answer := ⟨.refused, some r, []⟩

/-! ## The step queues: LOAD (R22 to R27) -/

/-- How many records the store holds (R25). -/
def State.stored (s : State) : Nat := (Volume.all.map fun v => (s.vol v).queue.length).sum

/-- Check 15 of R23: the queue holds fewer records than its capacity and the store has a free slot. -/
def State.hasRoom (s : State) (v : Volume) : Bool := (s.vol v).queue.length < s.capacity v && s.stored < 96

/-- A record appended at the tail (R26). -/
def append (v : Volume) (r : StepRecord) (s : State) : State := s.modVol v fun x => { x with queue := x.queue ++ [r] }

/-- A FULL refusal (R27): the overflow counter counts and STEP_OVERFLOW is set. -/
def overflow (v : Volume) (s : State) : State := setFlag v .stepOverflow (countOn v Counters.countOverflow s)

/-- The refusal of checks 4 to 14 of R23, or the kind of a record that passes them. -/
def recordCheck (v : Volume) (r : RawRecord) (s : State) : Except Reason Kind :=
  match Kind.ofCode r.kind with
  | none => .error .kind
  | some k =>
    match listFault s v k r with
    | some e => .error e
    | none => if rangeFault k r then .error .range else .ok k

/-- LOAD (R23, R24). -/
def onLoad (l : Link) (n : Nat) (r : RawRecord) (s : State) : State × Answer :=
  match volumeCheck l n s with
  | .error e => (s, refuse e)
  | .ok v =>
    match recordCheck v r s with
    | .error e => (s, refuse e)
    | .ok k =>
      if s.hasRoom v then
        let data := enc1 ((s.vol v).queue.length + 1)
        (append v (storeRecord s v k r) s, if clampChanges s v k r then ⟨.clamped, none, data⟩ else okWith data)
      else (finish (overflow v s), refuse .full)

/-! ## Volume requests (R38 to R44) -/

/-- The reply of RUN and RESUME: the tag of the head record, which is the step started (R39, R42). -/
def startedTag (s : State) (v : Volume) : List Byte := enc1 (((s.vol v).queue.head?.map (·.tag)).getD 0)

/-- The tests of R39, in order. -/
def runTest (s : State) (v : Volume) : Option Reason :=
  if !s.cfg.serving then some .config
  else if (s.vol v).state ≠ .idle then some .state
  else if s.fn .emergencyOff then some .permit
  else if !interlockPasses s v then some .interlock
  else if (s.vol v).queue.length < s.startDepth v then some .short
  else none

/-- RUN (R39). -/
def onRun (l : Link) (n : Nat) (s : State) : State × Answer :=
  match volumeCheck l n s with
  | .error e => (s, refuse e)
  | .ok v =>
    match runTest s v with
    | some e => (s, refuse e)
    | none => (finish (startQueue v s), okWith (startedTag s v))

/-- HOLD of a RUNNING volume (R40): the step is stopped and the volume enters SAFING with cause REQUESTED. -/
def holdVolume (v : Volume) (s : State) : State := enterSafing v .requested none (recordEnd v .stopped none none s)

/-- HOLD (R40). -/
def onHold (l : Link) (n : Nat) (s : State) : State × Answer :=
  match volumeCheck l n s with
  | .error e => (s, refuse e)
  | .ok v => if (s.vol v).state = .running then (finish (holdVolume v s), ok) else (s, refuse .state)

/-- The tests of R42, in order. -/
def resumeTest (s : State) (v : Volume) : Option Reason :=
  if (s.vol v).state ≠ .hold then some .state
  else if s.fn .emergencyOff then some .permit
  else if !interlockPasses s v then some .interlock
  else if (s.vol v).queue = [] then some .empty
  else none

/-- RESUME (R42). -/
def onResume (l : Link) (n : Nat) (s : State) : State × Answer :=
  match volumeCheck l n s with
  | .error e => (s, refuse e)
  | .ok v =>
    match resumeTest s v with
    | some e => (s, refuse e)
    | none => (finish (startQueue v s), okWith (startedTag s v))

/-- CLEAR of a volume in HOLD (R43): queue, hold record and current-step record go, the volume becomes IDLE and
VOLUME_IDLE is posted. -/
def clearHeld (v : Volume) (s : State) : State :=
  post [v.master] ⟨.volumeIdle, v.num, (s.vol v).currentTag, 0, 0, 0⟩
    (s.modVol v fun x => { x with queue := [], hold := none, current := none, state := .idle })

/-- CLEAR (R43). -/
def onClear (l : Link) (n : Nat) (s : State) : State × Answer :=
  match volumeCheck l n s with
  | .error e => (s, refuse e)
  | .ok v =>
    match (s.vol v).state with
    | .hold => (finish (clearHeld v s), ok)
    | .idle => (discard v s, ok)
    | _ => (s, refuse .state)

/-- ABORT of a RUNNING volume (R44): the queue is discarded, the step is stopped, the volume enters ENDING. -/
def abortVolume (v : Volume) (s : State) : State := enterEnding v (recordEnd v .stopped none none (discard v s))

/-- ABORT (R44). -/
def onAbort (l : Link) (n : Nat) (s : State) : State × Answer :=
  match volumeCheck l n s with
  | .error e => (s, refuse e)
  | .ok v => if (s.vol v).state = .running then (finish (abortVolume v s), ok) else (s, refuse .state)

/-! ## Chamber consents -/

/-- A gas enable flag set to a value; a permit that it takes is a permit loss (R109, R110). -/
def setEnable (c : Chamber) (x : Bool) (s : State) : State :=
  let s' := { s with gat := { s.gat with enable := s.gat.enable.set c x } }
  if s.permit c && !s'.permit c then permitLoss c s' else s'

/-- GAS ENABLE (R109). -/
def onGasEnable (l : Link) (n : Nat) (x : Bool) (s : State) : State × Answer :=
  match chamberCheck l n s with
  | .error e => (s, refuse e)
  | .ok c => if s.gat.enable.get c = x then (s, ok) else (finish (setEnable c x s), ok)

/-- TRANSFER ALLOW (R147). -/
def onTransferAllow (l : Link) (n : Nat) (x : Bool) (s : State) : State × Answer :=
  match chamberCheck l n s with
  | .error e => (s, refuse e)
  | .ok c => ({ s with tiu := { s.tiu with allow := s.tiu.allow.set c x } }, ok)

/-! ## Slits and doors (R148 to R151) -/

/-- Checks 1 to 3 of R148. -/
def slitCheck (l : Link) (n : Nat) (s : State) : Except Reason Slit :=
  match (Volume.ofNum n).bind Slit.ofVolume with
  | none => .error .range
  | some w => if !s.fitted w.volume then .error .notFitted else if l ≠ .txc then .error .owner else .ok w

/-- Whether a volume is IDLE or HOLD. -/
def atRest (s : State) (v : Volume) : Bool := (s.vol v).state == .idle || (s.vol v).state == .hold

/-- Whether two volumes' gauges both have a sample and their codes lie within the match window (R148, R149). -/
def codesMatch (s : State) (v w : Volume) : Bool :=
  match s.code? (.vol v), s.code? (.vol w) with
  | some p, some q => ((p - q).natAbs : Int) ≤ s.items.matchWindow
  | _, _ => false

/-- Tests 4 to 9 of R148 and 4 to 8 of R149, in order. -/
def slitTest (s : State) (w : Slit) : Option Reason :=
  if !s.cfg.serving then some .config
  else if s.fn .emergencyOff then some .permit
  else if !(atRest s w.volume && atRest s .tc) then some .state
  else if (match w with
      | .ch c => !s.tiu.allow.get c || s.hasCommitment c || (s.reuOf c).rfOn
      | .ll d => s.tiu.doors.get d || !s.fn (.door d)) then some .interlock
  else if !codesMatch s w.volume .tc then some .interlock
  else none

/-- The addressees of SLIT_CHANGED (R164). -/
def slitAddressees : Slit → List Link
  | .ch c => [.txc, .cc c]
  | .ll _ => [.txc]

/-- A change of a slit command with its SLIT_CHANGED notice (R150). -/
def setSlit (w : Slit) (x : Bool) (s : State) : State :=
  post (slitAddressees w) ⟨.slitChanged, w.volume.num, 0, if x then 1 else 0, 0, 0⟩
    { s with tiu := { s.tiu with slits := s.tiu.slits.set w x } }

/-- OPEN SLIT (R148, R149). -/
def onOpenSlit (l : Link) (n : Nat) (s : State) : State × Answer :=
  match slitCheck l n s with
  | .error e => (s, refuse e)
  | .ok w =>
    if s.tiu.slits.get w then (s, ok)
    else
      match slitTest s w with
      | some e => (s, refuse e)
      | none => (finish (setSlit w true s), ok)

/-- CLOSE SLIT (R150). -/
def onCloseSlit (l : Link) (n : Nat) (s : State) : State × Answer :=
  match slitCheck l n s with
  | .error e => (s, refuse e)
  | .ok w => if s.tiu.slits.get w then (finish (setSlit w false s), ok) else (s, ok)

/-- The checks shared by OPEN DOOR and CLOSE DOOR (R151). -/
def doorCheck (l : Link) (n : Nat) (s : State) : Except Reason Loadlock :=
  match Volume.ofNum n with
  | some (.ll d) => if !s.fitted (.ll d) then .error .notFitted else if l ≠ .txc then .error .owner else .ok d
  | _ => .error .range

/-- The tests of OPEN DOOR (R151), in order. -/
def doorTest (s : State) (d : Loadlock) : Option Reason :=
  if !s.cfg.serving then some .config
  else if s.fn .emergencyOff then some .permit
  else if !atRest s (.ll d) then some .state
  else if s.tiu.slits.get (.ll d) then some .interlock
  else if !s.atOrAbove (.vol (.ll d)) (588 - s.items.ventMargin) then some .interlock
  else none

/-- A door permit set to a value. -/
def setDoor (d : Loadlock) (x : Bool) (s : State) : State := { s with tiu := { s.tiu with doors := s.tiu.doors.set d x } }

/-- OPEN DOOR (R151). -/
def onOpenDoor (l : Link) (n : Nat) (s : State) : State × Answer :=
  match doorCheck l n s with
  | .error e => (s, refuse e)
  | .ok d =>
    if s.tiu.doors.get d then (s, ok)
    else
      match doorTest s d with
      | some e => (s, refuse e)
      | none => (setDoor d true s, ok)

/-- CLOSE DOOR (R151). -/
def onCloseDoor (l : Link) (n : Nat) (s : State) : State × Answer :=
  match doorCheck l n s with
  | .error e => (s, refuse e)
  | .ok d => (setDoor d false s, ok)

/-! ## Reads (R168): none changes any state but READ NOTICE -/

/-- The answer with one page of some fields; RANGE at or beyond the page count. -/
def pageAnswer (fields : List Byte) (page : Nat) : Answer :=
  match pageData fields page with
  | some data => okWith data
  | none => refuse .range

/-- READ VOLUME (R63, R168). -/
def onReadVolume (n page : Nat) (s : State) : Answer :=
  match readCheck n s with
  | .error e => refuse e
  | .ok v => pageAnswer (volumeFields s v) page

/-- READ QUEUE (R35). -/
def onReadQueue (n position page : Nat) (s : State) : Answer :=
  match readCheck n s with
  | .error e => refuse e
  | .ok v =>
    if position = 0 then
      match (s.vol v).current with
      | some r => pageAnswer (queueFields s v r) page
      | none => refuse .empty
    else
      match (s.vol v).queue[position - 1]? with
      | some r => pageAnswer (queueFields s v r) page
      | none => refuse .range

/-- READ SOURCE (R113). -/
def onReadSource (page : Nat) (s : State) : Answer := pageAnswer (sourceFields s) page

/-- READ CHANNEL (R132). -/
def onReadChannel (n k page : Nat) (s : State) : Answer :=
  match Chamber.ofNum n, Chan.ofNum k with
  | some c, some j => pageAnswer (channelFields s c j) page
  | _, _ => refuse .range

/-- READ DEVICE (R132). -/
def onReadDevice (a page : Nat) (s : State) : Answer :=
  match Device.ofAddr a with
  | some d => pageAnswer (deviceR132 s d) page
  | none => refuse .range

/-- READ COUNTERS (R167). -/
def onReadCounters (n page : Nat) (s : State) : Answer :=
  match readCheck n s with
  | .error e => refuse e
  | .ok v => pageAnswer (counterFields s v) page

/-- The slot after READ NOTICE (R165): the notice read, the attention line deasserted. -/
def Port.readNotice (p : Port) : Port :=
  { p with slot := p.slot.map fun x => { x with unread := false }, attention := false }

/-- READ NOTICE (R165). -/
def onReadNotice (l : Link) (s : State) : State × Answer := (s.modPort l Port.readNotice, okWith (noticeData (s.port l)))

/-- The fields of READ CONFIG (R171): configuration state, value, range low and high values, default. -/
def configFields (s : State) (n i : Nat) (x : Int) : List Byte :=
  encB s.cfg.serving ++ encS4 x ++ encS4 (s.items.range n i).1 ++ encS4 (s.items.range n i).2
    ++ encS4 ((Items.default.get? n i).getD 0)

/-- READ CONFIG (R171). -/
def onReadConfig (n i page : Nat) (s : State) : Answer :=
  match s.items.get? n i with
  | some x => pageAnswer (configFields s n i x) page
  | none => refuse .range

/-! ## Conditions, counters, devices, masks -/

/-- Each flag named in the mask cleared (R166). -/
def Vol.clearFlags (x : Vol) (mask : Word16) : Vol := { x with flags := x.flags &&& ~~~(mask.setWidth 14) }

/-- CLEAR CONDITIONS (R166). -/
def onClearConditions (l : Link) (n : Nat) (mask : Word16) (s : State) : State × Answer :=
  match volumeCheck l n s with
  | .error e => (s, refuse e)
  | .ok v => (s.modVol v fun x => x.clearFlags mask, ok)

/-- A device's no-answer counter set to 0. -/
def resetNoAnswers (s : State) (d : Device) : State := s.setDevice d { s.device d with noAnswers := 0 }

/-- The devices of a chamber: its six MFCs and its throttle controller. -/
def chamberDevices (c : Chamber) : List Device := Chan.all.map (Device.mfc c) ++ [.throttle c]

/-- The counters of a volume set to 0, with its devices' no-answer counters for a chamber (R167). -/
def resetVolumeCounters (v : Volume) (s : State) : State :=
  let s := s.modVol v fun x => { x with counters := .reset }
  match v with
  | .ch c => (chamberDevices c).foldl resetNoAnswers s
  | _ => s

/-- RESET COUNTERS (R167): 0 names the requesting port's own link. -/
def onResetCounters (l : Link) (n : Nat) (s : State) : State × Answer :=
  if n = 0 then (s.modPort l fun p => { p with frameErrors := 0, linkDowns := 0 }, ok)
  else
    match volumeCheck l n s with
    | .error e => (s, refuse e)
    | .ok v => (resetVolumeCounters v s, ok)

/-- The value that brings a device to a known setpoint: 0 for an MFC, OPEN for a throttle controller (R128). -/
def safeValue : Device → BusValue
  | .mfc _ _ => .flow 0
  | .throttle _ => .opened

/-- A device cleared (R128): its consecutive count becomes 0 and its written value absent (R124, of either state); a FAILED
one becomes OK with a class-1 post. -/
def clearDevice (d : Device) (s : State) : State :=
  let r := s.device d
  let s := s.setDevice d { r with failed := false, consecutive := 0, written := none }
  if r.failed then postWrite d (safeValue d) .urgent s else arbitrate s

/-- CLEAR DEVICE (R128). -/
def onClearDevice (l : Link) (a : Nat) (s : State) : State × Answer :=
  match Device.ofAddr a with
  | none => (s, refuse .range)
  | some d =>
    if !s.fitted (.ch d.chamber) then (s, refuse .notFitted)
    else if Link.cc d.chamber ≠ l then (s, refuse .owner)
    else (clearDevice d s, ok)

/-- SET NOTICE MASK (R165). -/
def onSetNoticeMask (l : Link) (mask : Byte) (s : State) : State × Answer :=
  (s.modPort l fun p => { p with mask := mask.setWidth 7 }, ok)

/-! ## Configuration requests (R170 to R174) -/

/-- WRITE CONFIG (R170). -/
def onWriteConfig (n i : Nat) (x : Int) (s : State) : State × Answer :=
  if s.cfg.serving then (s, refuse .config)
  else if itemAccepts s n i x then (writeItem n i x s, ok)
  else (s, refuse .range)

/-- The silence timer of a port at the close: a link that is UP starts from 0 (R161). -/
def Port.startSilence (p : Port) : Port := if p.lost then p else { p with silence := some 0 }

/-- Every port changed. -/
def mapPorts (f : Port → Port) (s : State) : State := Link.all.foldl (fun s l => s.modPort l f) s

/-- A closing post to a mapped channel's MFC (R131). -/
def closingPost (s : State) (p : Chamber × Chan) : State :=
  if s.source p.1 p.2 = 0 then s else postWrite (.mfc p.1 p.2) (.flow 0) .urgent s

/-- The closing posts (R131, R129): 0 to every mapped channel, OPEN to the four throttles, all of class 1. Each asks the
arbiter when it is taken, a post dropped at a FAILED device too, so that a poll can start before the posts behind it
(DESIGN CHOICE, notes/assumptions/16.md). -/
def closingPosts (s : State) : State :=
  Chamber.all.foldl (fun s c => postWrite (.throttle c) .opened .urgent s) (channels.foldl closingPost s)

/-- The closing actions of R172 beside the change of state: trip blanking, range flags taken as clear, scan position 1,
consecutive-write count 0, the closing posts, the arbiter's choice, and the silence timers. -/
def closingActions (s : State) : State :=
  let g := s.pec.gauges
  let clear := fun (ch : GaugeChannel) => { ch with prevUnder := false, prevOver := false, asserted := false }
  let gauges := Gauge.all.foldl (fun p k => p.set k (clear (p.get k))) g
  let s := { s with pec := { s.pec with gauges := gauges, blanking := some 0 } }
  let s := { s with dbc := { s.dbc with scanPos := 1, writes := 0 } }
  mapPorts Port.startSilence (arbitrate (closingPosts s))

/-- The part in SERVING. -/
def enterServing (s : State) : State := { s with cfg := { s.cfg with serving := true } }

/-- CLOSE CONFIGURATION (R172). -/
def onCloseConfiguration (s : State) : State × Answer :=
  if s.cfg.serving then (s, refuse .state)
  else
    match closeFault s.items with
    | some n => (s, ⟨.refused, some .range, enc2 n⟩)
    | none => (closingActions (enterServing s), ok)

/-- The tests of REOPEN CONFIGURATION and RESTART (R173, R174), in order. -/
def reopenTest (s : State) : Option Reason :=
  if !s.cfg.serving then some .state
  else if !(Volume.all.all fun v => !s.fitted v || (s.vol v).state == .idle) then some .state
  else if Chamber.all.any fun c => s.hasCommitment c then some .state
  else if (Slit.all.any fun w => s.tiu.slits.get w) || s.tiu.doors.a || s.tiu.doors.b then some .interlock
  else none

/-- An ASSERTED comparator forced INACTIVE, its clearance handed on (R13). -/
def forceInactive (s : State) (g : Gauge) : State :=
  if (s.gauge g).asserted then tripCleared g (s.setGauge g { s.gauge g with asserted := false }) else s

/-- The reopening (R173): every queue discarded, CONFIGURING, comparators INACTIVE, gates and vents closed, silence timers
stopped. -/
def reopen (s : State) : State :=
  let s := Volume.all.foldl (fun s v => discard v s) s
  let s := { s with cfg := { s.cfg with serving := false } }
  let s := Gauge.all.foldl forceInactive s
  let s := { s with pec := { s.pec with blanking := none } }
  let s := Volume.all.foldl (fun s v => setVent v false (s.setGate v false)) s
  mapPorts (fun p => { p with silence := none }) s

/-- REOPEN CONFIGURATION (R173). -/
def onReopenConfiguration (s : State) : State × Answer :=
  match reopenTest s with
  | some e => (s, refuse e)
  | none => (finish (reopen s), ok)

/-- A port at RESTART (R174, Table 10-7): hunting, UP, slot empty, count 0, every kind enabled, attention deasserted,
counters 0; a BUSY reply being sent is completed, one waiting is discarded; a request in service is kept. -/
def Port.restart (p : Port) : Port :=
  { Port.reset with
    inService := p.inService
    busy := p.busy.filter fun b => b.sending
    lastReply := p.lastReply }

/-- DBC at RESTART (R131): as at power-on, but a transaction in flight runs on with its outcome discarded. -/
def Dbc.restart (d : Dbc) : Dbc :=
  { Dbc.reset with inFlight := d.inFlight.map fun t => { t with discarded := true } }

/-- Every block at its RESTART value (R174): the items, the line levels and input functions, and the time base are kept. -/
def restartBlocks (s : State) : State :=
  { State.reset with
    dbc := s.dbc.restart
    flu := s.flu
    cfg := s.cfg
    ports := ⟨⟨s.ports.ch.c1.restart, s.ports.ch.c2.restart, s.ports.ch.c3.restart, s.ports.ch.c4.restart⟩, s.ports.t.restart⟩
    base := s.base
    pending := s.pending }

/-- RESTART (R174). -/
def onRestart (s : State) : State × Answer :=
  match reopenTest s with
  | some e => (s, refuse e)
  | none => (closingActions (restartBlocks s), ok)

/-! ## Every request -/

/-- A request handed to its owning block (Table 10-1). -/
def serve (l : Link) (req : Request) (s : State) : State × Answer :=
  match req with
  | .load v r => onLoad l v r s
  | .run v => onRun l v s
  | .hold v => onHold l v s
  | .resume v => onResume l v s
  | .clear v => onClear l v s
  | .abort v => onAbort l v s
  | .gasEnable c x => onGasEnable l c x s
  | .transferAllow c x => onTransferAllow l c x s
  | .openSlit v => onOpenSlit l v s
  | .closeSlit v => onCloseSlit l v s
  | .openDoor v => onOpenDoor l v s
  | .closeDoor v => onCloseDoor l v s
  | .readVolume v p => (s, onReadVolume v p s)
  | .readQueue v n p => (s, onReadQueue v n p s)
  | .readSource p => (s, onReadSource p s)
  | .readChannel c k p => (s, onReadChannel c k p s)
  | .readDevice a p => (s, onReadDevice a p s)
  | .readCounters v p => (s, onReadCounters v p s)
  | .readNotice => onReadNotice l s
  | .readConfig n i p => (s, onReadConfig n i p s)
  | .clearConditions v m => onClearConditions l v m s
  | .resetCounters v => onResetCounters l v s
  | .clearDevice a => onClearDevice l a s
  | .setNoticeMask m => onSetNoticeMask l m s
  | .writeConfig n i x => onWriteConfig n i x s
  | .closeConfiguration => onCloseConfiguration s
  | .reopenConfiguration => onReopenConfiguration s
  | .restart => onRestart s
  | .alive => (s, ok)

end Sys2Proof.Machine
end

