-- ==== Sys2Proof/Machine/Ports.lean ====
section
/-! DEFINITION. Sys2Proof/Machine/Ports.lean: the master link ports: the frame check (R158), a good frame (R161), the request
in service and its reply (R159, R160), and link loss (R58, R161). -/

namespace Sys2Proof.Machine

open Sys2Proof

/-! ## The frame check (R158) -/

/-- One bit of the CRC-16, most significant bit first: polynomial x^16 + x^12 + x^5 + 1. -/
def crcBit (crc : Word16) : Word16 := if crc.msb then (crc <<< 1) ^^^ 0x1021#16 else crc <<< 1

/-- One character of the CRC-16. -/
def crcChar (crc : Word16) (b : Byte) : Word16 :=
  crcBit (crcBit (crcBit (crcBit (crcBit (crcBit (crcBit (crcBit (crc ^^^ (b.setWidth 16 <<< 8)))))))))

/-- The CRC-16 of some characters, initial value FFFF, no final inversion. -/
def crc16 (bs : List Byte) : Word16 := bs.foldl crcChar 0xFFFF#16

/-- The check of a frame: over its length character and its body. -/
def frameCheck (body : List Byte) : Word16 := crc16 (BitVec.ofNat 8 body.length :: body)

/-- Whether a frame's length and check are right. -/
def frameGood (body : List Byte) (check : Word16) : Bool :=
  2 ≤ body.length && body.length ≤ 60 && frameCheck body == check

/-- A frame discarded (R158): the frame-check-error counter counts, saturating at 65535, and the assembler hunts. -/
def Port.discardFrame (p : Port) : Port := { p with assembling := false, frameErrors := count16 p.frameErrors }

/-! ## The frames of replies (R158) -/

/-- The body of a reply (Table 10-6): kind, tag, reply code, reason or 0, then its data. -/
def Reply.body (r : Reply) : List Byte :=
  r.kind :: r.tag :: BitVec.ofNat 8 r.code.code :: BitVec.ofNat 8 ((r.reason.map Reason.code).getD 0) :: r.data

/-- A body framed (R158): the start character, the length, the body, and the check, high character first. -/
def frame (body : List Byte) : List Byte :=
  0xA5#8 :: BitVec.ofNat 8 body.length :: body ++ [(frameCheck body >>> 8).setWidth 8, (frameCheck body).setWidth 8]

/-- The characters a port sends: the frame of the reply last given to its transmitter. -/
def State.transmitted (s : State) (l : Link) : Option (List Byte) := (s.port l).lastReply.map fun r => frame r.body

/-! ## A good frame (R161) -/

/-- A good frame at a port: the assembler hunts again, a running silence timer goes to 0, and a LOST link returns to UP with
its timer started from 0 in SERVING. -/
def Port.hear (p : Port) (serving : Bool) : Port :=
  { p with
    assembling := false
    lost := false
    silence := if p.lost then (if serving then some 0 else p.silence) else p.silence.map fun _ => 0 }

def hear (l : Link) (s : State) : State := s.modPort l fun p => p.hear s.cfg.serving

/-! ## Taking a request (R160) -/

/-- The length part of the form check for a request given by its fields: a LOAD longer than 60 characters is no frame's
(Table 10-5). -/
def Request.fits : Request → Bool
  | .load _ r => 20 + 5 * r.flows.length + (if r.endpoint.isSome then 10 else 0) ≤ 60
  | _ => true

/-- The reply that echoes a request (R160). -/
def Answer.reply (a : Answer) (kind tag : Byte) : Reply := ⟨kind, tag, a.code, a.reason, a.data⟩

/-- A request taken: refused FORMAT by the port, or handed to its owning block. -/
def take (l : Link) (req : Request) (s : State) : State × Answer :=
  if req.fits && req.formed then serve l req s else (s, refuse .format)

/-- The request code as the character that carries it. -/
def Request.char (req : Request) : Byte := BitVec.ofNat 8 req.code

/-- The reply given to the transmitter. -/
def Port.give (p : Port) (r : Reply) : Port := { p with lastReply := some r }

/-- A request given by its fields, as its port takes it with no other in service: a good frame is heard, the request is
taken, and its reply is given (notes/assumptions/5.md). -/
def request (l : Link) (tag : Byte) (req : Request) (s : State) : State :=
  let out := take l req (hear l s)
  out.1.modPort l fun p => p.give (out.2.reply req.char tag)

/-! ## Frames (R159) -/

/-- The request of a body, its kind and tag first: the state after it and its reply; FORMAT when the body has no request's
form (R160). -/
def takeBody (l : Link) (body : List Byte) (s : State) : State × Reply :=
  match body with
  | kind :: tag :: rest =>
    match readRequest kind.toNat rest with
    | some req => let out := take l req s; (out.1, out.2.reply kind tag)
    | none => (s, (refuse .format).reply kind tag)
  | _ => (s, (refuse .format).reply 0 0)

/-- A reply becomes the one in service (R159): it is given to the transmitter at once unless a BUSY reply is being sent. -/
def Port.serveReply (p : Port) (r : Reply) : Port :=
  match p.busy with
  | some b => if b.sending then { p with inService := some r } else { p with inService := some r, lastReply := some r }
  | none => { p with inService := some r, lastReply := some r }

/-- The reply BUSY of a frame that met a request in service. -/
def Busy.reply (b : Busy) : Reply := ⟨b.kind, b.tag, .busy, none, []⟩

/-- A good frame that arrives while a request is in service (R159): answered BUSY after the reply in service, or discarded
when a BUSY reply is waiting or being sent. -/
def Port.meetBusy (p : Port) (body : List Byte) : Port :=
  match p.busy, body with
  | none, kind :: tag :: _ => { p with busy := some ⟨kind, tag, false⟩ }
  | _, _ => p

/-- A good frame taken by its port (R159). -/
def goodFrame (l : Link) (body : List Byte) (s : State) : State :=
  let s := hear l s
  if (s.port l).inService.isSome then s.modPort l fun p => p.meetBusy body
  else
    let out := takeBody l body s
    out.1.modPort l fun p => p.serveReply out.2

/-- The last character of a reply has been sent (R159): a BUSY reply being sent ends, and the reply in service follows; else
the request in service leaves it, and a waiting BUSY reply follows. -/
def Port.sent (p : Port) : Port :=
  match p.busy with
  | some b =>
    if b.sending then
      { p with busy := none, lastReply := match p.inService with | some r => some r | none => p.lastReply }
    else if p.inService.isSome then
      { p with inService := none, busy := some { b with sending := true }, lastReply := some b.reply }
    else p
  | none => { p with inService := none }

/-! ## Link loss (R161, R58) -/

/-- A link's expiry at its port (R161): LOST, the timer stopped, the link-down counter counted, wrapping from 255 to 0. -/
def Port.expire (p : Port) : Port := { p with lost := true, silence := none, linkDowns := wrapInc 255 p.linkDowns }

/-- The loss of a volume's master (R58): the queue is discarded unless the volume is IDLE, and the fault LINK_LOST is
taken. -/
def linkLossVolume (s : State) (v : Volume) : State :=
  if s.fitted v then
    takeFault v .linkLost (if (s.vol v).state = .idle then s else discard v s)
  else s

/-- The volumes of a master (R1). -/
def ownedVolumes (l : Link) : List Volume := Volume.all.filter fun v => v.master == l

/-- A link expires (R161, R58). -/
def linkExpiry (l : Link) (s : State) : State :=
  finish ((ownedVolumes l).foldl linkLossVolume (s.modPort l Port.expire))

/-- The silence timer brought to the link's timeout, where it runs (R161). -/
def expireIfRunning (l : Link) (s : State) : State := if (s.port l).silence.isSome then linkExpiry l s else s

/-! ## The commands -/

/-- FRAME_RECEIVED (R159): a frame whose length or check is wrong is discarded and counted (R158). -/
def execFrameReceived (l : Link) (body : List Byte) (check : Word16) (s : State) : Host.Outcome State Fault Refusal :=
  .next (if frameGood body check then goodFrame l body s else s.modPort l Port.discardFrame)

/-- FRAME_DISCARD (R158). -/
def execFrameDiscard (l : Link) (s : State) : Host.Outcome State Fault Refusal := .next (s.modPort l Port.discardFrame)

/-- FRAME_GAP_TIMEOUT (R158): the frame being assembled is discarded at the gap; a hunting assembler has none. -/
def execFrameGapTimeout (l : Link) (s : State) : Host.Outcome State Fault Refusal :=
  .next (if (s.port l).assembling then s.modPort l Port.discardFrame else s)

/-- REPLY_SENT (R159). -/
def execReplySent (l : Link) (s : State) : Host.Outcome State Fault Refusal := .next (s.modPort l Port.sent)

/-- LINK_EXPIRY (R161): a running silence timer reaches the timeout. -/
def execLinkExpiry (l : Link) (s : State) : Host.Outcome State Fault Refusal := .next (expireIfRunning l s)

/-- START_CHARACTER (R158): a hunting assembler begins a frame; one that is assembling takes A5 as a character of it. -/
def execStartCharacter (l : Link) (s : State) : Host.Outcome State Fault Refusal :=
  .next (s.modPort l fun p => { p with assembling := true })

end Sys2Proof.Machine
end

