-- ==== Sys2Proof/Machine/Commands.lean ====
section
/-! DEFINITION. Sys2Proof/Machine/Commands.lean: the request rows of the table, one meaning each, over `request`: the master
on link `l` sends the request with tag `tag`, and its port takes it with no other in service (notes/assumptions/5.md). -/

namespace Sys2Proof.Machine

open Sys2Proof

/-- LOAD (R22 to R27). -/
def execLoad (l : Link) (tag : Byte) (volume : Nat) (record : RawRecord) (s : State) :
    Host.Outcome State Fault Refusal :=
  .next (request l tag (.load volume record) s)

/-- RUN (R39). -/
def execRun (l : Link) (tag : Byte) (volume : Nat) (s : State) : Host.Outcome State Fault Refusal :=
  .next (request l tag (.run volume) s)

/-- HOLD (R40). -/
def execHold (l : Link) (tag : Byte) (volume : Nat) (s : State) : Host.Outcome State Fault Refusal :=
  .next (request l tag (.hold volume) s)

/-- RESUME (R42). -/
def execResume (l : Link) (tag : Byte) (volume : Nat) (s : State) : Host.Outcome State Fault Refusal :=
  .next (request l tag (.resume volume) s)

/-- CLEAR (R43). -/
def execClear (l : Link) (tag : Byte) (volume : Nat) (s : State) : Host.Outcome State Fault Refusal :=
  .next (request l tag (.clear volume) s)

/-- ABORT (R44). -/
def execAbort (l : Link) (tag : Byte) (volume : Nat) (s : State) : Host.Outcome State Fault Refusal :=
  .next (request l tag (.abort volume) s)

/-- GAS ENABLE (R109). -/
def execGasEnable (l : Link) (tag : Byte) (chamber : Nat) (on : Bool) (s : State) :
    Host.Outcome State Fault Refusal :=
  .next (request l tag (.gasEnable chamber on) s)

/-- TRANSFER ALLOW (R147). -/
def execTransferAllow (l : Link) (tag : Byte) (chamber : Nat) (on : Bool) (s : State) :
    Host.Outcome State Fault Refusal :=
  .next (request l tag (.transferAllow chamber on) s)

/-- OPEN SLIT (R148, R149). -/
def execOpenSlit (l : Link) (tag : Byte) (volume : Nat) (s : State) : Host.Outcome State Fault Refusal :=
  .next (request l tag (.openSlit volume) s)

/-- CLOSE SLIT (R150). -/
def execCloseSlit (l : Link) (tag : Byte) (volume : Nat) (s : State) : Host.Outcome State Fault Refusal :=
  .next (request l tag (.closeSlit volume) s)

/-- OPEN DOOR (R151). -/
def execOpenDoor (l : Link) (tag : Byte) (volume : Nat) (s : State) : Host.Outcome State Fault Refusal :=
  .next (request l tag (.openDoor volume) s)

/-- CLOSE DOOR (R151). -/
def execCloseDoor (l : Link) (tag : Byte) (volume : Nat) (s : State) : Host.Outcome State Fault Refusal :=
  .next (request l tag (.closeDoor volume) s)

/-- READ VOLUME (R63). -/
def execReadVolume (l : Link) (tag : Byte) (volume page : Nat) (s : State) : Host.Outcome State Fault Refusal :=
  .next (request l tag (.readVolume volume page) s)

/-- READ QUEUE (R35). -/
def execReadQueue (l : Link) (tag : Byte) (volume position page : Nat) (s : State) :
    Host.Outcome State Fault Refusal :=
  .next (request l tag (.readQueue volume position page) s)

/-- READ SOURCE (R113). -/
def execReadSource (l : Link) (tag : Byte) (page : Nat) (s : State) : Host.Outcome State Fault Refusal :=
  .next (request l tag (.readSource page) s)

/-- READ CHANNEL (R132). -/
def execReadChannel (l : Link) (tag : Byte) (chamber channel page : Nat) (s : State) :
    Host.Outcome State Fault Refusal :=
  .next (request l tag (.readChannel chamber channel page) s)

/-- READ DEVICE (R132). -/
def execReadDevice (l : Link) (tag : Byte) (address page : Nat) (s : State) : Host.Outcome State Fault Refusal :=
  .next (request l tag (.readDevice address page) s)

/-- READ COUNTERS (R167). -/
def execReadCounters (l : Link) (tag : Byte) (volume page : Nat) (s : State) : Host.Outcome State Fault Refusal :=
  .next (request l tag (.readCounters volume page) s)

/-- READ NOTICE (R165). -/
def execReadNotice (l : Link) (tag : Byte) (s : State) : Host.Outcome State Fault Refusal :=
  .next (request l tag .readNotice s)

/-- READ CONFIG (R171). -/
def execReadConfig (l : Link) (tag : Byte) (item index page : Nat) (s : State) : Host.Outcome State Fault Refusal :=
  .next (request l tag (.readConfig item index page) s)

/-- CLEAR CONDITIONS (R166). -/
def execClearConditions (l : Link) (tag : Byte) (volume : Nat) (mask : Word16) (s : State) :
    Host.Outcome State Fault Refusal :=
  .next (request l tag (.clearConditions volume mask) s)

/-- RESET COUNTERS (R167). -/
def execResetCounters (l : Link) (tag : Byte) (volume : Nat) (s : State) : Host.Outcome State Fault Refusal :=
  .next (request l tag (.resetCounters volume) s)

/-- CLEAR DEVICE (R128). -/
def execClearDevice (l : Link) (tag : Byte) (address : Nat) (s : State) : Host.Outcome State Fault Refusal :=
  .next (request l tag (.clearDevice address) s)

/-- SET NOTICE MASK (R165). -/
def execSetNoticeMask (l : Link) (tag : Byte) (mask : Byte) (s : State) : Host.Outcome State Fault Refusal :=
  .next (request l tag (.setNoticeMask mask) s)

/-- WRITE CONFIG (R170). -/
def execWriteConfig (l : Link) (tag : Byte) (item index : Nat) (value : Int) (s : State) :
    Host.Outcome State Fault Refusal :=
  .next (request l tag (.writeConfig item index value) s)

/-- CLOSE CONFIGURATION (R172). -/
def execCloseConfiguration (l : Link) (tag : Byte) (s : State) : Host.Outcome State Fault Refusal :=
  .next (request l tag .closeConfiguration s)

/-- REOPEN CONFIGURATION (R173). -/
def execReopenConfiguration (l : Link) (tag : Byte) (s : State) : Host.Outcome State Fault Refusal :=
  .next (request l tag .reopenConfiguration s)

/-- RESTART (R174). -/
def execRestart (l : Link) (tag : Byte) (s : State) : Host.Outcome State Fault Refusal :=
  .next (request l tag .restart s)

/-- ALIVE (R161). -/
def execAlive (l : Link) (tag : Byte) (s : State) : Host.Outcome State Fault Refusal :=
  .next (request l tag .alive s)

end Sys2Proof.Machine
end

