-- ==== Sys2Proof/Machine/Ticks.lean ====
section
/-! DEFINITION. Sys2Proof/Machine/Ticks.lean: the step tick and the second tick of the time base (R2). A tick first advances
every count by the state that stood before it; then what has fallen due is taken (Due.lean). -/

namespace Sys2Proof.Machine

open Sys2Proof

/-! ## The step tick -/

/-- The blanking count of R13 at a step tick. -/
def tickBlanking (s : State) : State :=
  endBlanking { s with pec := { s.pec with blanking := s.pec.blanking.map (· + 1) } }

/-- The settle count of a channel at a step tick (R130): it stops at the chamber's settle time. -/
def tickCheck (s : State) (ck : Chamber × Chan) : State :=
  let x := s.check ck.1 ck.2
  if (x.settle : Int) < s.items.settleTime.get ck.1 then s.setCheck ck.1 ck.2 { x with settle := x.settle + 1 } else s

/-- The blanking count of an armed endpoint detector (R142). -/
def Detector.tick (d : Detector) : Detector := if d.armed then { d with blanking := min 65535 (d.blanking + 1) } else d

/-- The sequencer's own step-tick counts in a phase (R48, R90, R137). -/
def Vol.stepTick (x : Vol) : Vol :=
  match x.state, x.phase with
  | .running, .dwell => { x with dwellCount := x.dwellCount + 1 }
  | .running, .overhang => { x with overhangCount := x.overhangCount + 1 }
  | .running, .settle => if x.window = .outside then x else { x with settleCount := x.settleCount + 1 }
  | _, _ => x

/-- The REU's step-tick counts in a phase (R138, R139, R140). -/
def Reu.stepTick (u : Reu) (p : Phase) (plasma : Bool) : Reu :=
  match p with
  | .ignite => { u with strikeTimer := u.strikeTimer + 1 }
  | .confirm => { u with strikeTimer := u.strikeTimer + 1, confirmCount := u.confirmCount + 1 }
  | .retryPause => { u with pauseCount := u.pauseCount + 1 }
  | .etch => if plasma then { u with gated := u.gated + 1 } else { u with dropout := u.dropout + 1 }
  | _ => u

def tickVol (s : State) (v : Volume) : State := s.modVol v Vol.stepTick

/-- A chamber's REU and detector at a step tick, by the phase of its RUNNING step. -/
def tickChamber (s : State) (c : Chamber) : State :=
  let x := s.vol (.ch c)
  let s := if x.state = .running then s.modReu c fun u => u.stepTick x.phase (s.fn (.plasma c)) else s
  s.modDetector c Detector.tick

/-- Every count that a step tick advances, then the ramp step of every ramping generator (R116). -/
def stepTickEffect (s : State) : State :=
  let s := tickBlanking s
  let s := channels.foldl tickCheck s
  let s := Volume.all.foldl tickVol s
  let s := Chamber.all.foldl tickChamber s
  channels.foldl rampTick s

/-- STEP_TICK (R2). -/
def execStepTick (s : State) : Host.Outcome State Fault Refusal := .next (finish (stepTickEffect s))

/-! ## The second tick -/

/-- The limit and admission counts of a volume at a second tick (R50, R51): the admission count while it has an entry, else
the limit count of a kind that has a limit. -/
def Vol.secondTick (x : Vol) (waits : Bool) : Vol :=
  match x.state, x.current with
  | .running, some r =>
    if waits then { x with admissionCount := x.admissionCount + 1 }
    else if r.kind.hasLimit then { x with limitCount := x.limitCount + 1 }
    else x
  | _, _ => x

/-- The stall count at a second tick (R86): it rises in the roughing stage when the step has not failed at its limit. -/
def tickStall (s : State) (v : Volume) : State :=
  if roughing s v && (s.vol v).limitCount < (s.vol v).effLimit then
    s.modVol v fun x => { x with stallCount := x.stallCount + 1 }
  else s

def tickSecond (s : State) (v : Volume) : State :=
  tickStall (s.modVol v fun x => x.secondTick (s.waits v)) v

def secondTickEffect (s : State) : State := Volume.all.foldl tickSecond s

/-- SECOND_TICK (R2). -/
def execSecondTick (s : State) : Host.Outcome State Fault Refusal := .next (finish (secondTickEffect s))

end Sys2Proof.Machine
end

