-- ==== Sys2Proof/Machine/Events.lean ====
section
/-! DEFINITION. Sys2Proof/Machine/Events.lean: power-on (R169); the rows that the part takes by itself, as commands: each has
its effect when its condition stands and none when it does not (notes/assumptions/2.md); and one sample tick of the time
base, which the block takes while no command waits (R2, notes/assumptions/1.md). -/

namespace Sys2Proof.Machine

open Sys2Proof

/-- POWER_ON (R169). The queue of waiting commands is no part of the block and stays. -/
def execPowerOn (s : State) : Host.Outcome State Fault Refusal := .next { State.reset with pending := s.pending }

/-! ## The rows that the part takes by itself -/

/-- ROUGH_GRANT (R68): the head of the rough queue fits. -/
def execRoughGrant (s : State) : Host.Outcome State Fault Refusal := .next (whenDue (grantHead? s) s)

/-- ROUGH_VALVE_OPEN (R70): the valve test of a WAITING holder passes. -/
def execRoughValveOpen (v : Volume) (s : State) : Host.Outcome State Fault Refusal :=
  .next (whenDue (openValve? v s) s)

/-- STALL_CHECK (R86): the stall count has reached the stall window. -/
def execStallCheck (v : Volume) (s : State) : Host.Outcome State Fault Refusal := .next (whenDue (stallCheck? v s) s)

/-- STEP_LIMIT_EXPIRY (R50): the limit count has reached the effective step limit. -/
def execStepLimitExpiry (v : Volume) (s : State) : Host.Outcome State Fault Refusal :=
  .next (whenDue (stepLimitExpiry? v s) s)

/-- ADMISSION_LIMIT_EXPIRY (R51): the admission count has reached the admission limit. -/
def execAdmissionLimitExpiry (v : Volume) (s : State) : Host.Outcome State Fault Refusal :=
  .next (whenDue (admissionLimitExpiry? v s) s)

/-- DWELL_COMPLETE (R48): the DWELL count has reached the duration. -/
def execDwellComplete (v : Volume) (s : State) : Host.Outcome State Fault Refusal :=
  .next (whenDue (dwellComplete? v s) s)

/-- OVERHANG_END (R90): the overhang count has reached the duration. -/
def execOverhangEnd (v : Volume) (s : State) : Host.Outcome State Fault Refusal :=
  .next (whenDue (overhangEnd? v s) s)

/-- SETTLE_COMPLETE (R137): the settle count has reached the duration. -/
def execSettleComplete (c : Chamber) (s : State) : Host.Outcome State Fault Refusal :=
  .next (whenDue (settleComplete? c s) s)

/-- TRANSITION_END (R135): no listed channel has a transition in flight. -/
def execTransitionEnd (c : Chamber) (s : State) : Host.Outcome State Fault Refusal :=
  .next (whenDue (transitionEnd? c s) s)

/-- STRIKE_CONFIRMED (R138): the confirm count has reached the duration. -/
def execStrikeConfirmed (c : Chamber) (s : State) : Host.Outcome State Fault Refusal :=
  .next (whenDue (strikeConfirmed? c s) s)

/-- STRIKE_TIMEOUT (R139): the strike timer has reached the strike timeout. -/
def execStrikeTimeout (c : Chamber) (s : State) : Host.Outcome State Fault Refusal :=
  .next (whenDue (strikeTimeout? c s) s)

/-- RETRY_PAUSE_END (R139): the retry-pause count has reached 20. -/
def execRetryPauseEnd (c : Chamber) (s : State) : Host.Outcome State Fault Refusal :=
  .next (whenDue (retryPauseEnd? c s) s)

/-- DROPOUT_LIMIT_EXCEEDED (R140): the dropout timer has exceeded the dropout limit. -/
def execDropoutLimitExceeded (c : Chamber) (s : State) : Host.Outcome State Fault Refusal :=
  .next (whenDue (dropoutLimitExceeded? c s) s)

/-- GATED_TIME_END (R144, R145): the gated timer has reached the end gated time. -/
def execGatedTimeEnd (c : Chamber) (s : State) : Host.Outcome State Fault Refusal :=
  .next (whenDue (gatedTimeEnd? c s) s)

/-- WIND_DOWN_END (R56): every commitment of a volume in ENDING or SAFING is 0. -/
def execWindDownEnd (v : Volume) (s : State) : Host.Outcome State Fault Refusal :=
  .next (whenDue (windDownEnd? v s) s)

/-- GAS_ADMISSION (R106, R107): a waiting request passes the admission test in its turn. -/
def execGasAdmission (s : State) : Host.Outcome State Fault Refusal := .next (whenDue (gasAdmission? s) s)

/-! ## The time base (R2) -/

/-- A sample tick of the transaction in flight (R120): its count rises, and at the response timeout it ends as a
no-answer. -/
def tickTransaction (s : State) : State :=
  match s.dbc.inFlight with
  | none => s
  | some t =>
    let s := { s with dbc := { s.dbc with inFlight := some { t with count := t.count + 1 } } }
    if s.items.responseTimeout ≤ (t.count : Int) + 1 then endUnanswered s else s

/-- A sample tick of a link's silence timer (R161): it rises while it runs, and at the timeout the link expires. -/
def tickSilence (s : State) (l : Link) : State :=
  match (s.port l).silence with
  | none => s
  | some n =>
    let s := s.modPort l fun p => { p with silence := some (n + 1) }
    if s.items.linkTimeout.get l ≤ (n : Int) + 1 then linkExpiry l s else s

/-- A step tick of the cascade, which at every 100th is a second tick as well: the step tick's ends are taken first, and the
two are one time-base event (R90, R137), whose notices are posted together in the order of R62. That one event spans them
for the order of notices is the model's reading, and that the rows STEP_TICK and SECOND_TICK are events of their own its
choice (notes/assumptions/26.md). -/
def cascadeStep (s : State) : State :=
  let u := settle settleBound (stepTickEffect s)
  if s.base.steps < 99 then flush { u with base := { s.base with steps := s.base.steps + 1 } }
  else finish (secondTickEffect { u with base := { s.base with steps := 0 } })

/-- A sample tick: every 10th is a step tick, which is taken before the sample tick's own counts (R2, R5). -/
def sampleTick (s : State) : State :=
  let s :=
    if s.base.samples < 9 then { s with base := { s.base with samples := s.base.samples + 1 } }
    else cascadeStep { s with base := { s.base with samples := 0 } }
  Link.all.foldl tickSilence (tickTransaction s)

end Sys2Proof.Machine
end

