-- ==== Sys2Proof/Machine/Dispatch.lean ====
section
/-! DEFINITION. Sys2Proof/Machine/Dispatch.lean: one arm for each row of the opcode table. -/

namespace Sys2Proof.Machine

open Sys2Proof

def exec (i : Instr) (s : State) : Host.Outcome State Fault Refusal :=
  match i with
  | .powerOn => Sys2Proof.Machine.execPowerOn s
  | .stepTick => Sys2Proof.Machine.execStepTick s
  | .secondTick => Sys2Proof.Machine.execSecondTick s
  | .pressureSample g count => Sys2Proof.Machine.execPressureSample g count s
  | .emissionSample c count => Sys2Proof.Machine.execEmissionSample c count s
  | .auxSample a count => Sys2Proof.Machine.execAuxSample a count s
  | .tripBlankingEnd => Sys2Proof.Machine.execTripBlankingEnd s
  | .roughGrant => Sys2Proof.Machine.execRoughGrant s
  | .roughValveOpen v => Sys2Proof.Machine.execRoughValveOpen v s
  | .stallCheck v => Sys2Proof.Machine.execStallCheck v s
  | .stepLimitExpiry v => Sys2Proof.Machine.execStepLimitExpiry v s
  | .admissionLimitExpiry v => Sys2Proof.Machine.execAdmissionLimitExpiry v s
  | .dwellComplete v => Sys2Proof.Machine.execDwellComplete v s
  | .overhangEnd v => Sys2Proof.Machine.execOverhangEnd v s
  | .settleComplete c => Sys2Proof.Machine.execSettleComplete c s
  | .transitionEnd c => Sys2Proof.Machine.execTransitionEnd c s
  | .strikeConfirmed c => Sys2Proof.Machine.execStrikeConfirmed c s
  | .strikeTimeout c => Sys2Proof.Machine.execStrikeTimeout c s
  | .retryPauseEnd c => Sys2Proof.Machine.execRetryPauseEnd c s
  | .dropoutLimitExceeded c => Sys2Proof.Machine.execDropoutLimitExceeded c s
  | .gatedTimeEnd c => Sys2Proof.Machine.execGatedTimeEnd c s
  | .windDownEnd v => Sys2Proof.Machine.execWindDownEnd v s
  | .gasAdmission => Sys2Proof.Machine.execGasAdmission s
  | .transactionStart => Sys2Proof.Machine.execTransactionStart s
  | .setGoodAnswer => Sys2Proof.Machine.execSetGoodAnswer s
  | .readGoodAnswer r => Sys2Proof.Machine.execReadGoodAnswer r s
  | .busBadAnswer => Sys2Proof.Machine.execBusBadAnswer s
  | .responseTimeout => Sys2Proof.Machine.execResponseTimeout s
  | .strayAnswer => Sys2Proof.Machine.execStrayAnswer s
  | .inputLineRead levels => Sys2Proof.Machine.execInputLineRead levels s
  | .frameReceived l body check => Sys2Proof.Machine.execFrameReceived l body check s
  | .frameDiscard l => Sys2Proof.Machine.execFrameDiscard l s
  | .frameGapTimeout l => Sys2Proof.Machine.execFrameGapTimeout l s
  | .replySent l => Sys2Proof.Machine.execReplySent l s
  | .linkExpiry l => Sys2Proof.Machine.execLinkExpiry l s
  | .load l tag volume record => Sys2Proof.Machine.execLoad l tag volume record s
  | .run l tag volume => Sys2Proof.Machine.execRun l tag volume s
  | .hold l tag volume => Sys2Proof.Machine.execHold l tag volume s
  | .resume l tag volume => Sys2Proof.Machine.execResume l tag volume s
  | .clear l tag volume => Sys2Proof.Machine.execClear l tag volume s
  | .abort l tag volume => Sys2Proof.Machine.execAbort l tag volume s
  | .gasEnable l tag chamber on => Sys2Proof.Machine.execGasEnable l tag chamber on s
  | .transferAllow l tag chamber on => Sys2Proof.Machine.execTransferAllow l tag chamber on s
  | .openSlit l tag volume => Sys2Proof.Machine.execOpenSlit l tag volume s
  | .closeSlit l tag volume => Sys2Proof.Machine.execCloseSlit l tag volume s
  | .openDoor l tag volume => Sys2Proof.Machine.execOpenDoor l tag volume s
  | .closeDoor l tag volume => Sys2Proof.Machine.execCloseDoor l tag volume s
  | .readVolume l tag volume page => Sys2Proof.Machine.execReadVolume l tag volume page s
  | .readQueue l tag volume position page => Sys2Proof.Machine.execReadQueue l tag volume position page s
  | .readSource l tag page => Sys2Proof.Machine.execReadSource l tag page s
  | .readChannel l tag chamber channel page => Sys2Proof.Machine.execReadChannel l tag chamber channel page s
  | .readDevice l tag address page => Sys2Proof.Machine.execReadDevice l tag address page s
  | .readCounters l tag volume page => Sys2Proof.Machine.execReadCounters l tag volume page s
  | .readNotice l tag => Sys2Proof.Machine.execReadNotice l tag s
  | .readConfig l tag item index page => Sys2Proof.Machine.execReadConfig l tag item index page s
  | .clearConditions l tag volume mask => Sys2Proof.Machine.execClearConditions l tag volume mask s
  | .resetCounters l tag volume => Sys2Proof.Machine.execResetCounters l tag volume s
  | .clearDevice l tag address => Sys2Proof.Machine.execClearDevice l tag address s
  | .setNoticeMask l tag mask => Sys2Proof.Machine.execSetNoticeMask l tag mask s
  | .writeConfig l tag item index value => Sys2Proof.Machine.execWriteConfig l tag item index value s
  | .closeConfiguration l tag => Sys2Proof.Machine.execCloseConfiguration l tag s
  | .reopenConfiguration l tag => Sys2Proof.Machine.execReopenConfiguration l tag s
  | .restart l tag => Sys2Proof.Machine.execRestart l tag s
  | .alive l tag => Sys2Proof.Machine.execAlive l tag s
  | .startCharacter l => Sys2Proof.Machine.execStartCharacter l s

end Sys2Proof.Machine
end

