-- ==== Sys2Proof/Machine/Step.lean ====
section
/-! DEFINITION. Sys2Proof/Machine/Step.lean: one step of the block: the command at the front of the queue, or, on an empty
queue, one sample tick of the time base (notes/assumptions/1.md). -/

namespace Sys2Proof.Machine

open Sys2Proof

/-- One step (R2): the waiting command at the front runs on the state with the queue's rest; with none waiting, a sample tick
passes. -/
def step (s : State) : Host.Outcome State Fault Refusal :=
  match s.pending with
  | c :: rest => exec c { s with pending := rest }
  | [] => .next (sampleTick s)

/-- The command that a word spells put at the front of the queue; `s` where the word spells none. The opcode table gives no
row any bits, so no word spells a command. -/
def State.withFetchWord (s : State) (nbits w : Nat) : State :=
  match decodeTableWord nbits w with
  | some c => { s with pending := c :: s.pending }
  | none => s

end Sys2Proof.Machine
end

