-- ==== Sys2Proof/Safety.lean ====
section
/-! DEFINITION. Sys2Proof/Safety.lean: what counts as a safe state: the laws that rules R25, R56, R64, R69, R97, R100, R119,
R133, R148, R151, R163 and R170 give the part, each with what else must stand for a step to keep it; what an event that ends in
`finish` leaves alone; and the words that statements use. -/

namespace Sys2Proof.Machine

open Sys2Proof

/-! ## Laws of the part -/

/-- R64: the load units of all rough grants sum to at most 4. -/
def roughLoadLaw (s : State) : Prop := s.rma.used ≤ 4

/-- R25: each queue holds at most its capacity, each capacity is 0 to 32, and the seven sum to at most 96. -/
def queueLaw (s : State) : Prop :=
  (∀ v, 0 ≤ s.items.capacity.get v ∧ s.items.capacity.get v ≤ 32 ∧ (s.vol v).queue.length ≤ s.capacity v)
    ∧ s.items.capacitySum ≤ 96

/-- R163: the sequence count is 0 to 7, the attention line is asserted exactly while the slot holds an unread notice, and no
notice waits between events. -/
def noticeLaw (s : State) : Prop :=
  s.outbox = [] ∧ ∀ l, (s.port l).sequence < 8
    ∧ ((s.port l).attention = true ↔ ∃ x, (s.port l).slot = some x ∧ x.unread = true)

/-- R148, R149, R151: a slit is commanded open only while its volume and TC are at rest; a door permit is asserted only while
its loadlock is at rest with its slit closed. -/
def openingLaw (s : State) : Prop :=
  (∀ w, s.tiu.slits.get w = true → atRest s w.volume = true ∧ atRest s .tc = true)
    ∧ ∀ d, s.tiu.doors.get d = true → atRest s (.ll d) = true ∧ s.tiu.slits.get (.ll d) = false

/-- The phase of a grant's holder (R68, R70): VALVE_WAIT while its valve field is WAITING, its roughing stage when OPEN. -/
def grantPhase (g : Grant) (p : Phase) : Prop := if g.valveOpen then p = .rough ∨ p = .pumpback else p = .valveWait

/-- R67 to R70, R69: a queued volume runs in WAIT_ROUGH; a holder runs in the phase of its grant; no volume stands twice; a
rough valve is commanded open only under an OPEN grant and never with the volume's gate. -/
def roughLaw (s : State) : Prop :=
  (∀ v ∈ s.rma.queue, (s.vol v).state = .running ∧ (s.vol v).phase = .waitRough)
    ∧ (∀ g ∈ s.rma.grants, (s.vol g.holder).state = .running ∧ grantPhase g (s.vol g.holder).phase)
    ∧ (s.rma.queue ++ s.rma.grants.map (·.holder)).Nodup
    ∧ ∀ v, (s.vol v).roughOpen = true →
        (∃ g ∈ s.rma.grants, g.holder = v ∧ g.valveOpen = true) ∧ s.gateOpen v = false

/-- R133: RF enable is on only while the chamber is RUNNING in IGNITE, CONFIRM or the ETCH phase. -/
def rfLaw (s : State) : Prop :=
  ∀ c, (s.reuOf c).rfOn = true →
    (s.vol (.ch c)).state = .running
      ∧ ((s.vol (.ch c)).phase = .ignite ∨ (s.vol (.ch c)).phase = .confirm ∨ (s.vol (.ch c)).phase = .etch)

/-- R56, R103, R107 for gas: an entry of the gas admission queue is a RUNNING chamber's that waits in WAIT_GAS, or in its ETCH
phase when carried over, one for each; a chamber at rest has no commitment. -/
def restLaw (s : State) : Prop :=
  (∀ e ∈ s.gat.queue, (s.vol (.ch e.chamber)).state = .running
      ∧ ((s.vol (.ch e.chamber)).phase = .waitGas ∨ (s.vol (.ch e.chamber)).phase = .etch))
    ∧ (s.gat.queue.map (·.chamber)).Nodup
    ∧ ∀ c, atRest s (.ch c) = true → s.hasCommitment c = false

/-- R28, R169: an unfitted volume is IDLE, and in CONFIGURING every volume is. -/
def idleLaw (s : State) : Prop :=
  (∀ v, s.fitted v = false → (s.vol v).state = .idle) ∧ (s.cfg.serving = false → ∀ v, (s.vol v).state = .idle)

/-- R100: the commitments of a source's channels sum to at most its capacity, and no present target is above its
commitment. -/
def sourceLaw (s : State) : Prop :=
  (∀ n, 1 ≤ n → n ≤ 10 → s.sourceTotal n ≤ s.sourceCapacity n) ∧ ∀ c k, (s.row c k).target ≤ (s.row c k).commitment

/-- How far a generator still has to move (R116): its whole steps and the carries of its accumulator. -/
def Generator.toGo (g : Generator) : Nat := g.quotient * g.left + (g.accumulator + g.remainder * g.left) / g.ticks

/-- A generator's arithmetic (R114, R116): idle, it stands at its target; ramping, what it has to go brings it there
exactly. -/
def Generator.sound (g : Generator) : Prop :=
  if g.left = 0 then g.posted = g.target
  else g.accumulator < g.ticks ∧ g.remainder < g.ticks ∧ g.left ≤ g.ticks
    ∧ (if g.up then g.posted + g.toGo = g.target else g.posted = g.target + g.toGo)

/-- R97 for the posted setpoint: every generator's arithmetic is sound, it works toward its channel's present target, and the
commitment covers the posted setpoint and the present target. -/
def coverLaw (s : State) : Prop :=
  ∀ c k, (s.gen c k).sound ∧ (s.gen c k).target = (s.row c k).target
    ∧ (s.gen c k).posted ≤ (s.row c k).commitment ∧ (s.row c k).target ≤ (s.row c k).commitment

/-- The values of writes to a device that DBC holds: written, pending, and in flight with an outcome that counts (R121, R122,
R124, R131). -/
def State.heldValues (s : State) (d : Device) : List BusValue :=
  (s.device d).written.toList ++ ((s.device d).pending.map (·.value)).toList
    ++ (match s.dbc.inFlight with
        | some ⟨e, .set w, _, false⟩ => if e = d then [w.value] else []
        | _ => [])

/-- The value last posted to a device, of those that DBC holds: the pending one, else the one in flight, else the one
written (R121, R122, R124). -/
def State.latestValue (s : State) (d : Device) : Option BusValue :=
  ((s.device d).pending.map (·.value)).or <|
    (match s.dbc.inFlight with
      | some ⟨e, .set w, _, false⟩ => if e = d then some w.value else none
      | _ => none).or (s.device d).written

/-- R97 for the device bus, and R119: every value held for an MFC is a flow that its channel's commitment covers, and the
commitment lies within the full scale; what is held last is what the generator posted; a FAILED MFC has its channel
released. Beside them stands what a waiting request must satisfy for its admission to keep this (R103): targets within the
full scales, and above 0 only on channels that the current step lists and whose device is OK. -/
def busLaw (s : State) : Prop :=
  (∀ c k, (∀ x ∈ s.heldValues (.mfc c k), ∃ f, x = .flow f ∧ f ≤ (s.row c k).commitment)
      ∧ (s.row c k).commitment ≤ s.fullScale c k
      ∧ (∀ x, s.latestValue (.mfc c k) = some x → x = .flow (s.gen c k).posted)
      ∧ ((s.device (.mfc c k)).failed = true → s.row c k = ⟨0, 0, false⟩ ∧ (s.gen c k).posted = 0))
    ∧ ∀ e ∈ s.gat.queue, ∃ r, (s.vol (.ch e.chamber)).current = some r
        ∧ ∀ k, (e.aims.get k).target ≤ s.fullScale e.chamber k
          ∧ ((e.aims.get k).target ≠ 0 →
              (listed? r.flows k).isSome = true ∧ (s.device (.mfc e.chamber k)).failed = false)

/-- R170, Table 11-1: every configuration item lies in its range. -/
def itemLaw (s : State) : Prop :=
  ∀ i x y, s.items.get? i x = some y → (s.items.range i x).1 ≤ y ∧ y ≤ (s.items.range i x).2

/-- Everything a plant shared by four chambers rests on: R56, R64, R69, R100, R133, R148. -/
def plantLaw (s : State) : Prop :=
  roughLoadLaw s ∧ roughLaw s ∧ rfLaw s ∧ restLaw s ∧ idleLaw s ∧ sourceLaw s ∧ openingLaw s

/-! ## What the settling of an event leaves alone -/

/-- A port but for what a notice changes: slot, sequence count, attention line (R163). -/
def Port.besideNotice (p : Port) : Port := { p with slot := none, sequence := 0, attention := false }

/-- What `finish` leaves alone, whatever follows within the event: the configuration, the field lines and functions, the
slits, doors and transfer-allow flags, the gas enable flags, the header trip, the samples and comparators, the time base,
the waiting commands, and of each port everything but its notice slot, sequence count and attention line. -/
def EventFrame (s t : State) : Prop :=
  t.cfg = s.cfg ∧ t.flu = s.flu ∧ t.tiu = s.tiu ∧ t.gat.enable = s.gat.enable ∧ t.hlm.trip = s.hlm.trip
    ∧ t.pec.gauges = s.pec.gauges ∧ t.pec.emission = s.pec.emission ∧ t.pec.aux = s.pec.aux
    ∧ t.pec.blanking = s.pec.blanking ∧ t.base = s.base ∧ t.pending = s.pending
    ∧ ∀ l, (t.port l).besideNotice = (s.port l).besideNotice

/-- The state `u` after the owning block's action, with the reply to the request given on its link (R160). -/
def answered (l : Link) (tag : Byte) (req : Request) (a : Answer) (u : State) : State :=
  u.modPort l fun p => p.give (a.reply req.char tag)

/-- An event is whole: nothing more follows within it and no notice waits to be posted. -/
def Settled (s : State) : Prop := nextDue? s = none ∧ s.outbox = []

/-! ## Words that statements use -/

/-- A post of a value that still stands: it waits in its device's place or has just been started, with the class asked for
where that is class 1 (R121, R122). -/
def PostStands (d : Device) (x : BusValue) (k : WriteClass) (t : State) : Prop :=
  ∃ w, w.value = x ∧ (k = .urgent → w.cls = .urgent)
    ∧ ((t.device d).pending = some w ∨ t.dbc.inFlight = some ⟨d, .set w, 0, false⟩)

/-- Channel `k` of chamber `c` given target 0 as a class-2 jump (R102, R97, R115): left alone where it stands at 0 with nothing
in flight; else in flight toward 0 with its commitment kept, its generator at 0, and, where its device is OK, the zero posted,
in class 2 unless a class-1 write waited in its place (R121). -/
def ZeroJump (c : Chamber) (k : Chan) (s t : State) : Prop :=
  ((s.row c k).target = 0 → (s.row c k).inFlight = false → t.row c k = s.row c k ∧ t.gen c k = s.gen c k)
    ∧ ((s.row c k).target ≠ 0 ∨ (s.row c k).inFlight = true →
      t.row c k = ⟨(s.row c k).commitment, 0, true⟩
      ∧ (t.gen c k).posted = 0 ∧ (t.gen c k).target = 0 ∧ (t.gen c k).left = 0 ∧ (t.gen c k).cls = .normal
      ∧ ((s.device (.mfc c k)).failed = false →
        ∃ w, w.value = .flow 0
          ∧ ((∀ x, (s.device (.mfc c k)).pending = some x → x.cls = .normal) → w.cls = .normal)
          ∧ ((t.device (.mfc c k)).pending = some w ∨ t.dbc.inFlight = some ⟨.mfc c k, .set w, 0, false⟩)))

/-- The end of a chamber PURGE fill on the gas side (R92, R102): the listed channels are given target 0 as a class-2 jump, and
no other channel changes. -/
def FillZeroed (c : Chamber) (flows : List FlowEntry) (s t : State) : Prop :=
  (∀ f ∈ flows, ZeroJump c f.chan s t)
    ∧ ∀ d k, (d = c → ∀ f ∈ flows, f.chan ≠ k) → t.row d k = s.row d k ∧ t.gen d k = s.gen d k

/-- What a sample tick does to one link's silence timer (R161): nothing while it is stopped; below the timeout it rises by one;
at the timeout the link expires. -/
def SilenceTick (l : Link) (s t : State) : Prop :=
  ((s.port l).silence = none → t = s)
    ∧ ∀ n, (s.port l).silence = some n →
      ((n : Int) + 1 < s.items.linkTimeout.get l → t = s.setPort l { s.port l with silence := some (n + 1) })
      ∧ (s.items.linkTimeout.get l ≤ (n : Int) + 1 →
          exec (.linkExpiry l) (s.setPort l { s.port l with silence := some (n + 1) }) = .next t)

/-- A step start that neither completes nor fails in its event, by the tests of its kind (R81, R89, R91, R92, R103). -/
def StartStands (v : Volume) (r : StepRecord) (s : State) : Prop :=
  r.kind = .dwell ∨ r.kind = .vent
    ∨ (r.kind = .pump ∧ lidOpen s v = false ∧ s.atOrBelow (.vol v) r.target = false)
    ∨ (r.kind = .purge ∧ s.atOrAbove (.vol v) r.target = false
        ∧ ∀ c, v = .ch c → ∀ f ∈ r.flows, s.source c f.chan ≠ 0 ∧ (s.device (.mfc c f.chan)).failed = false)
    ∨ (r.kind.isGas = true ∧ ∃ c, v = .ch c
        ∧ ∀ f ∈ r.flows, s.source c f.chan ≠ 0 ∧ (s.device (.mfc c f.chan)).failed = false)

/-- The header state that R111 gives at a total: HELD stays until the release threshold, OPEN until the hold threshold. -/
def heldAt (items : Items) (was : Bool) (total : Nat) : Bool :=
  if was then items.releaseThreshold < total else items.holdThreshold ≤ total

/-- Whether a notice is about a volume's step engine: the four kinds that R62 orders volume by volume. -/
def Notice.aboutVolume (n : Notice) : Prop :=
  n.kind = .stepDone ∨ n.kind = .condition ∨ n.kind = .volumeHold ∨ n.kind = .volumeIdle

/-- The order of R62 and R127 between two notices of one event: DEVICE_FAILED stands before all others; HEADER_CHANGED and
SLIT_CHANGED after all others; among the rest the lower volume goes first, and for one volume STEP_DONE, then CONDITION by
flag number, then VOLUME_HOLD or VOLUME_IDLE. -/
def Notice.mustPrecede (a b : Notice) : Prop :=
  (a.kind = .deviceFailed ∧ b.kind ≠ .deviceFailed)
    ∨ ((b.kind = .headerChanged ∨ b.kind = .slitChanged) ∧ a.kind ≠ .headerChanged ∧ a.kind ≠ .slitChanged)
    ∨ (a.aboutVolume ∧ b.aboutVolume ∧ (a.volume < b.volume
        ∨ (a.volume = b.volume
          ∧ ((a.kind = .stepDone ∧ b.kind ≠ .stepDone)
            ∨ (a.kind = .condition ∧ b.kind = .condition ∧ a.code < b.code)
            ∨ (a.kind = .condition ∧ (b.kind = .volumeHold ∨ b.kind = .volumeIdle))))))

/-- Checks 5 to 14 of R23 on a record of kind `k`, in their order, each as what makes it fail and the reason it gives. Check
6 cannot fail: each of its fields is one bit of the body. -/
def loadChecks (s : State) (v : Volume) (k : Kind) (r : RawRecord) : List (Prop × Reason) :=
  [(k.isGas = true ∧ v.chamber? = none, .kind),
   (6 < r.flows.length, .format),
   ((k = .pump ∨ k = .vent ∨ k = .dwell ∨ (k = .purge ∧ v.chamber? = none)) ∧ r.flows ≠ [], .format),
   (k = .purge ∧ v.chamber? ≠ none ∧ r.flows.length ≠ 1, .format),
   (∃ f ∈ r.flows, f.chan = 0 ∨ 6 < f.chan, .range),
   (¬(r.flows.map (·.chan)).Nodup, .format),
   (∃ f ∈ r.flows, ∃ c j, v = .ch c ∧ Chan.ofNum f.chan = some j ∧ s.source c j = 0, .format),
   (k ≠ .etch ∧ r.endpoint ≠ none, .format),
   ((k.isGas = true ∧ 200 < r.window) ∨ (∃ f ∈ r.flows, 6000 < f.ticks)
      ∨ (∃ e, r.endpoint = some e ∧ (4095 < e.threshold ∨ e.confirm = 0 ∨ 15 < e.confirm ∨ 200 < e.overEtch)), .range)]

/-! ## Table 11-1 -/

/-- A row of Table 11-1: the item's number, its highest index (0 for a global item, whose index is 0; else the indexes are 1
to it), its range, and its defaults, one for each index in order. -/
structure ItemRow where
  number : Nat
  indexes : Nat
  low : Int
  high : Int
  defaults : List Int
  deriving DecidableEq, Repr

/-- A row with one default for every index. -/
def itemRow (number indexes : Nat) (low high default : Int) : ItemRow :=
  ⟨number, indexes, low, high, List.replicate (max 1 indexes) default⟩

/-- Table 11-1, row by row. The high end of item 8 is its volume's capacity, at least 1, and not the 32 of its row. -/
def itemTable : List ItemRow :=
  [itemRow 1 9 (-1000) 1000 (-300), itemRow 2 9 (-1000) 1000 700, itemRow 3 9 0 1 0, itemRow 4 9 (-400) 600 600,
   itemRow 5 9 0 1 0, itemRow 6 9 0 100 10, ⟨7, 7, 0, 32, [16, 16, 16, 16, 8, 12, 12]⟩, itemRow 8 7 1 32 2,
   itemRow 9 7 1 3600 600, itemRow 10 7 1 600 120, itemRow 11 0 (-1000) 1000 400, itemRow 12 5 (-400) 600 200,
   itemRow 13 7 1 60 10, itemRow 14 7 0 100 5, itemRow 15 7 0 3 1,
   ⟨16, 24, 0, 10, [1, 2, 3, 4, 5, 6, 1, 2, 3, 4, 5, 6, 1, 2, 3, 4, 5, 6, 1, 2, 3, 4, 5, 6]⟩,
   itemRow 17 10 0 200000 20000, itemRow 18 0 1 600 30, itemRow 19 0 1 1200000 80000, itemRow 20 0 0 1199999 60000,
   itemRow 21 24 0 50000 10000, itemRow 22 0 1 20 3, itemRow 23 0 0 32 28,
   ⟨24, 32, 1, 28, [1, 2, 3, 4, 5, 6, 7, 8, 9, 10, 11, 12, 13, 14, 15, 16, 17, 18, 19, 20, 21, 22, 23, 24, 25, 26, 27, 28,
     1, 1, 1, 1]⟩,
   itemRow 25 4 1 20 5, itemRow 26 4 0 500 50, itemRow 27 4 0 6000 300, itemRow 28 4 1 15 3, itemRow 29 4 0 3000 3000,
   itemRow 30 4 10 3000 300, itemRow 31 4 1 100 10, itemRow 32 0 0 200 50, itemRow 33 0 0 100 8, itemRow 34 24 0 1 0,
   ⟨35, 24, 0, 18, [1, 2, 3, 4, 5, 6, 7, 8, 9, 10, 11, 12, 13, 14, 15, 16, 17, 18, 0, 0, 0, 0, 0, 0]⟩,
   itemRow 36 45 0 1 0, itemRow 37 5 50 5000 500]

/-- Whether an index lies in a row's index range: 0 for a global item (Table 11-1). -/
def ItemRow.has (r : ItemRow) (i : Nat) : Prop := (r.indexes = 0 ∧ i = 0) ∨ (1 ≤ i ∧ i ≤ r.indexes)

/-! ## The layout of request bodies -/

/-- A flows entry of a record body (Table 10-5). -/
def flowBody (f : RawFlow) : List Byte := enc1 f.chan ++ enc2 f.target ++ enc2 f.ticks

/-- The endpoint part of a record body (Table 10-5). -/
def endpointBody (e : RawEndpoint) : List Byte :=
  enc2 e.threshold ++ [e.mode] ++ enc1 e.hysteresis ++ enc1 e.confirm ++ enc2 e.blanking ++ enc2 e.minTime ++ enc1 e.overEtch

/-- A record body, field by field in the order of Table 10-5. -/
def recordBody (r : RawRecord) : List Byte :=
  enc1 r.kind ++ enc1 r.tag ++ [r.flags] ++ enc2 r.duration ++ enc2 r.limit ++ encS2 r.target ++ encS2 r.floor
    ++ enc1 r.window ++ enc2 r.power ++ enc1 r.retries ++ enc1 r.cycles ++ enc1 r.flows.length
    ++ r.flows.flatMap flowBody ++ (match r.endpoint with | some e => endpointBody e | none => [])

/-- The characters of a request's body after kind and tag (Table 10-4). -/
def Request.body : Request → List Byte
  | .load v r => enc1 v ++ recordBody r
  | .run v | .hold v | .resume v | .clear v | .abort v => enc1 v
  | .gasEnable c x | .transferAllow c x => enc1 c ++ encB x
  | .openSlit v | .closeSlit v | .openDoor v | .closeDoor v => enc1 v
  | .readVolume v p | .readCounters v p => enc1 v ++ enc1 p
  | .readQueue v n p => enc1 v ++ enc1 n ++ enc1 p
  | .readSource p => enc1 p
  | .readChannel c k p => enc1 c ++ enc1 k ++ enc1 p
  | .readDevice a p => enc1 a ++ enc1 p
  | .readConfig i x p => enc2 i ++ enc1 x ++ enc1 p
  | .writeConfig i x y => enc2 i ++ enc1 x ++ encS4 y
  | .clearConditions v m => enc1 v ++ enc2 m.toNat
  | .resetCounters v => enc1 v
  | .clearDevice a => enc1 a
  | .setNoticeMask m => [m]
  | .readNotice | .closeConfiguration | .reopenConfiguration | .restart | .alive => []

/-- Whether a request's operands fit the characters that Table 10-4 and Table 10-5 give them. -/
def Request.wf : Request → Bool
  | .load v r => isChar v && r.wf
  | .run v | .hold v | .resume v | .clear v | .abort v => isChar v
  | .gasEnable c _ | .transferAllow c _ => isChar c
  | .openSlit v | .closeSlit v | .openDoor v | .closeDoor v => isChar v
  | .readVolume v p | .readCounters v p => isChar v && isChar p
  | .readQueue v n p => isChar v && isChar n && isChar p
  | .readSource p => isChar p
  | .readChannel c k p => isChar c && isChar k && isChar p
  | .readDevice a p => isChar a && isChar p
  | .readConfig i x p => isWord i && isChar x && isChar p
  | .writeConfig i x y => isWord i && isChar x && isSignedLong y
  | .clearConditions v _ => isChar v
  | .resetCounters v => isChar v
  | .clearDevice a => isChar a
  | .setNoticeMask _ => true
  | .readNotice | .closeConfiguration | .reopenConfiguration | .restart | .alive => true

end Sys2Proof.Machine
end

