-- ==== Sys2Proof/Certificates/Slice0/Obligations.lean ====
section
/-! DEFINITION. Sys2Proof/Certificates/Slice0/Obligations.lean: the statements for the provers. Each docstring names the rules
of spec/ that it formalises; OBLIGATIONS.json holds their titles, tiers and citations. -/

open Sys2Proof Sys2Proof.Machine

/-! ## The machine and its reset -/

/-- The command at the front of the queue is the one that a step runs, on the state with the queue's rest. -/
def Obligations.FrontCommandRuns : Prop :=
  ∀ (c : Instr) (rest : List Instr) (s : State), s.pending = c :: rest → step s = exec c { s with pending := rest }

/-- R2, R120, R161, with the model's choices of notes/assumptions/1.md and 26.md: on an empty queue a step is one sample tick.
Away from a step tick, with no transaction in flight and no silence timer at its end, it advances the time base and the
running silence timers and nothing else. In every state: every 10th is a step tick and every 100th of those a second tick as
well, one event with it; then the transaction in flight counts toward its timeout, and each link in turn counts its
silence. -/
def Obligations.IdleStepIsSampleTick : Prop :=
  (∀ s : State, s.pending = [] → s.base.samples < 9 → s.dbc.inFlight = none →
    (∀ l n, (s.port l).silence = some n → (n : Int) + 1 < s.items.linkTimeout.get l) →
    ∃ t, step s = .next t ∧ t.base = ⟨s.base.samples + 1, s.base.steps⟩
      ∧ (∀ l, t.port l = { s.port l with silence := (s.port l).silence.map (· + 1) })
      ∧ t = { s with base := t.base, ports := t.ports })
    ∧ ∀ s : State, s.pending = [] → ∃ a b t1 t2 t3 t4 t, step s = .next t
      ∧ (s.base.samples < 9 → a = { s with base := ⟨s.base.samples + 1, s.base.steps⟩ })
      ∧ (9 ≤ s.base.samples → s.base.steps < 99 →
          ∃ u, exec .stepTick { s with base := ⟨0, s.base.steps⟩ } = .next u ∧ a = { u with base := ⟨0, s.base.steps + 1⟩ })
      ∧ (9 ≤ s.base.samples → 99 ≤ s.base.steps →
          exec .stepTick { s with base := ⟨0, s.base.steps⟩ }
              = .next (finish (stepTickEffect { s with base := ⟨0, s.base.steps⟩ }))
            ∧ exec .secondTick { settle settleBound (stepTickEffect { s with base := ⟨0, s.base.steps⟩ }) with base := ⟨0, 0⟩ }
              = .next a)
      ∧ (a.dbc.inFlight = none → b = a)
      ∧ (∀ tr, a.dbc.inFlight = some tr →
          ((tr.count : Int) + 1 < a.items.responseTimeout →
            b = { a with dbc := { a.dbc with inFlight := some { tr with count := tr.count + 1 } } })
          ∧ (a.items.responseTimeout ≤ (tr.count : Int) + 1 →
            exec .responseTimeout { a with dbc := { a.dbc with inFlight := some { tr with count := tr.count + 1 } } }
              = .next b))
      ∧ SilenceTick (.cc .c1) b t1 ∧ SilenceTick (.cc .c2) t1 t2 ∧ SilenceTick (.cc .c3) t2 t3 ∧ SilenceTick (.cc .c4) t3 t4
      ∧ SilenceTick .txc t4 t

/-- R169 with R6, R9, R12, R34, R37, R64, R67, R69, R76, R78, R79, R96, R105, R109, R111, R114, R120 to R126, R130, R133, R134,
R136, R142, R147, R152, R158, R161, R163: POWER_ON leaves every block at the power-on value that the spec gives it, whatever
stood before; the defaults are those of Table 11-1, which ReadConfigAnswers writes out. The fields whose reset value is the
model's choice (notes/assumptions/11.md) have no clause; that no request is in service and no BUSY reply waits then is read
from R169 (notes/assumptions/14.md). -/
def Obligations.PowerOnState : Prop :=
  ∀ s : State, ∃ t, exec .powerOn s = .next t ∧ t.pending = s.pending ∧ t.cfg = ⟨false, Items.default⟩
    ∧ (∀ v, (t.vol v).state = .idle ∧ (t.vol v).phase = .none ∧ (t.vol v).queue = [] ∧ (t.vol v).current = none
        ∧ (t.vol v).hold = none ∧ (t.vol v).lastEnd = none ∧ (t.vol v).flags = 0#14
        ∧ (t.vol v).counters = ⟨0, 0, 0, 0, 0⟩ ∧ (t.vol v).roughOpen = false ∧ (t.vol v).ventOpen = false
        ∧ t.gateOpen v = false ∧ (t.vol v).limitCount = 0 ∧ (t.vol v).admissionCount = 0 ∧ (t.vol v).dwellCount = 0
        ∧ (t.vol v).retriesLeft = 0 ∧ (t.vol v).stallBaseline = 0 ∧ (t.vol v).stallCount = 0 ∧ (t.vol v).cyclesLeft = 0
        ∧ (t.vol v).overhangCount = 0 ∧ (t.vol v).settleCount = 0 ∧ (t.vol v).window = .none)
    ∧ (∀ g, (t.gauge g).sample = none ∧ (t.gauge g).asserted = false)
    ∧ (∀ c, t.pec.emission.get c = none ∧ t.detector c = ⟨false, 0, 0, none⟩) ∧ (∀ a, t.pec.aux.get a = none)
    ∧ t.rma.grants = [] ∧ t.rma.queue = [] ∧ t.gat.queue = [] ∧ t.hlm = ⟨false, false⟩
    ∧ (∀ c k, t.row c k = ⟨0, 0, false⟩ ∧ (t.gen c k).posted = 0 ∧ (t.gen c k).target = 0 ∧ (t.gen c k).left = 0
        ∧ (t.gen c k).quotient = 0 ∧ (t.gen c k).remainder = 0 ∧ (t.gen c k).accumulator = 0 ∧ t.check c k = ⟨0, 0⟩)
    ∧ (∀ d, t.device d = ⟨false, 0, 0, none, none, none⟩) ∧ t.dbc.inFlight = none ∧ t.dbc.scanPos = 1 ∧ t.dbc.writes = 0
    ∧ (∀ c, t.reuOf c = ⟨false, 0, 0, 0, 0, 0, 0, 0, 0⟩ ∧ t.gat.enable.get c = false ∧ t.tiu.allow.get c = false)
    ∧ t.flu.levels = none ∧ (∀ f, t.fn f = false)
    ∧ (∀ w, t.tiu.slits.get w = false) ∧ (∀ d, t.tiu.doors.get d = false)
    ∧ (∀ l, (t.port l).lost = false ∧ (t.port l).silence = none ∧ (t.port l).slot = none ∧ (t.port l).sequence = 0
        ∧ (t.port l).mask = 127#7 ∧ (t.port l).attention = false ∧ (t.port l).frameErrors = 0
        ∧ (t.port l).linkDowns = 0 ∧ (t.port l).inService = none ∧ (t.port l).busy = none ∧ (t.port l).assembling = false)
    ∧ ∀ o, lineDriven t o = false

/-- Every law of Safety.lean stands at reset. -/
def Obligations.ResetKeepsLaws : Prop :=
  plantLaw State.reset ∧ queueLaw State.reset ∧ noticeLaw State.reset ∧ coverLaw State.reset ∧ busLaw State.reset
    ∧ itemLaw State.reset ∧ Settled State.reset

/-! ## Laws that every step keeps -/

/-- R64: the used load of the rough manifold never passes 4. -/
def Obligations.RoughLoadKept : Prop :=
  ∀ s t : State, roughLoadLaw s → step s = .next t → roughLoadLaw t

/-- R25: no queue ever holds more than its capacity, and the capacities never sum to more than 96. -/
def Obligations.QueueCapacityKept : Prop :=
  ∀ s t : State, queueLaw s → step s = .next t → queueLaw t

/-- R163, R165: sequence counts stay 0 to 7, the attention line follows the unread mark, no notice is left over. -/
def Obligations.NoticePortKept : Prop :=
  ∀ s t : State, noticeLaw s → step s = .next t → noticeLaw t

/-- R148, R149, R151: slits and door permits stand open only where the volumes they join are at rest. -/
def Obligations.OpeningsKept : Prop :=
  ∀ s t : State, openingLaw s → step s = .next t → openingLaw t

/-- R97, R115, R116: the commitment of every channel covers the setpoint its generator posted, and every ramp arrives. -/
def Obligations.CommitmentCoversSetpoint : Prop :=
  ∀ s t : State, coverLaw s → step s = .next t → coverLaw t

/-- R56, R64, R69, R100, R133, R148 together: the manifold is not overloaded, a rough valve stands open only under its grant and
never with its gate, RF is on only in IGNITE, CONFIRM and ETCH, a chamber at rest holds no gas, and no source is promised
beyond its capacity. -/
def Obligations.PlantLawKept : Prop :=
  ∀ s t : State, plantLaw s → step s = .next t → plantLaw t

/-! ## What an event leaves alone -/

/-- What follows within an event (R45, R49, R56, R68, R70, R106) leaves the configuration, the field lines, the TIU, the
samples, the time base and the waiting commands alone; so does each row that the part takes by itself. -/
def Obligations.SettlingFrame : Prop :=
  (∀ s : State, EventFrame s (finish s))
    ∧ (∀ (v : Volume) (c : Chamber) (i : Instr) (s t : State),
        i ∈ [.roughGrant, .roughValveOpen v, .stallCheck v, .stepLimitExpiry v, .admissionLimitExpiry v, .dwellComplete v,
          .overhangEnd v, .settleComplete c, .transitionEnd c, .strikeConfirmed c, .strikeTimeout c, .retryPauseEnd c,
          .dropoutLimitExceeded c, .gatedTimeEnd c, .windDownEnd v, .gasAdmission, .secondTick] →
        exec i s = .next t → EventFrame s t)

/-! ## Ticks and ramps -/

/-- R2, R13, R48, R90, R116, R130, R137 to R140, R142: a STEP_TICK advances each count by the state that stood before it and
takes one ramp step on each ramping generator; then what has fallen due is taken. R50, R51, R86: a SECOND_TICK advances the
admission count of a waiting step, else the limit count of a step that has a limit, and the stall count of a roughing volume
whose step has not reached its limit, and nothing else; then what has fallen due is taken. -/
def Obligations.TicksAdvanceCounts : Prop :=
  (∀ s : State, ∃ u, exec .stepTick s = .next (finish u) ∧ EventFrame u (finish u)
      ∧ (∀ v, u.vol v = { s.vol v with
          dwellCount := (s.vol v).dwellCount
            + (if (s.vol v).state = .running ∧ (s.vol v).phase = .dwell then 1 else 0)
          overhangCount := (s.vol v).overhangCount
            + (if (s.vol v).state = .running ∧ (s.vol v).phase = .overhang then 1 else 0)
          settleCount := (s.vol v).settleCount
            + (if (s.vol v).state = .running ∧ (s.vol v).phase = .settle ∧ (s.vol v).window ≠ .outside then 1 else 0) })
      ∧ (∀ c, (s.vol (.ch c)).state = .running → u.reuOf c = { s.reuOf c with
          strikeTimer := (s.reuOf c).strikeTimer
            + (if (s.vol (.ch c)).phase = .ignite ∨ (s.vol (.ch c)).phase = .confirm then 1 else 0)
          confirmCount := (s.reuOf c).confirmCount + (if (s.vol (.ch c)).phase = .confirm then 1 else 0)
          pauseCount := (s.reuOf c).pauseCount + (if (s.vol (.ch c)).phase = .retryPause then 1 else 0)
          gated := (s.reuOf c).gated
            + (if (s.vol (.ch c)).phase = .etch ∧ s.fn (.plasma c) = true then 1 else 0)
          dropout := (s.reuOf c).dropout
            + (if (s.vol (.ch c)).phase = .etch ∧ s.fn (.plasma c) = false then 1 else 0) })
      ∧ (∀ c, (s.vol (.ch c)).state ≠ .running → u.reuOf c = s.reuOf c)
      ∧ (∀ c, u.detector c = if (s.detector c).armed
          then { s.detector c with blanking := min 65535 ((s.detector c).blanking + 1) } else s.detector c)
      ∧ (∀ n, s.pec.blanking = some n → u.pec.blanking = if n < 99 then some (n + 1) else none)
      ∧ (s.pec.blanking = none → u.pec.blanking = none)
      ∧ (∀ c k, u.gen c k = if (s.gen c k).left = 0 then s.gen c k else (s.gen c k).step)
      ∧ (∀ c k, u.check c k = if ((s.check c k).settle : Int) < s.items.settleTime.get c
          then { s.check c k with settle := (s.check c k).settle + 1 } else s.check c k)
      ∧ u.pec.gauges = s.pec.gauges ∧ u.pec.emission = s.pec.emission ∧ u.pec.aux = s.pec.aux
      ∧ (∀ d, (u.device d).failed = (s.device d).failed ∧ (u.device d).written = (s.device d).written
          ∧ (u.device d).reading = (s.device d).reading)
      ∧ u = { s with vols := u.vols, pec := u.pec, fru := u.fru, dbc := u.dbc, reu := u.reu })
    ∧ (∀ s : State, ∃ u, exec .secondTick s = .next (finish u) ∧ EventFrame u (finish u)
      ∧ (∀ v, u.vol v = { s.vol v with
          admissionCount := (s.vol v).admissionCount
            + (if (s.vol v).state = .running ∧ (s.vol v).current ≠ none ∧ s.waits v = true then 1 else 0)
          limitCount := (s.vol v).limitCount
            + (if (s.vol v).state = .running ∧ (s.vol v).current.map (·.kind.hasLimit) = some true ∧ s.waits v = false
               then 1 else 0)
          stallCount := (s.vol v).stallCount
            + (if roughing s v = true ∧ (u.vol v).limitCount < (s.vol v).effLimit then 1 else 0) })
      ∧ u = { s with vols := u.vols })
    ∧ ∀ (s : State) (v : Volume), roughing s v = true ↔
        (s.vol v).state = .running ∧ ((s.vol v).phase = .rough ∨ (s.vol v).phase = .pumpback)
          ∧ ∃ g, s.grant? v = some g ∧ g.valveOpen = true

/-- R45, R49, R56, R68, R80, R106 with notes/assumptions/2.md and 3.md: an event leaves nothing due behind it. Settling takes
what is due, one thing after another; with the items in their ranges and the queues within their capacities it comes to an
end within its bound, so that a state after `finish` is settled; and every step from a settled state leads to one. In a
settled state no row that the part takes by itself has anything to do. R170: the items stay in their ranges. -/
def Obligations.EventsSettle : Prop :=
  (∀ s t : State, itemLaw s → step s = .next t → itemLaw t)
    ∧ (∀ (n : Nat) (s t : State), nextDue? s = some t → settle (n + 1) s = settle n t)
    ∧ (∀ (n : Nat) (s : State), nextDue? s = none → settle n s = s)
    ∧ (∀ s : State, finish s = flush (settle settleBound s))
    ∧ (∀ s : State, itemLaw s → queueLaw s → Settled (finish s))
    ∧ (∀ s t : State, plantLaw s → queueLaw s → itemLaw s → Settled s → step s = .next t → Settled t)
    ∧ ∀ s : State, nextDue? s = none → ∀ (v : Volume) (c : Chamber),
        turboReady? v s = none ∧ plasmaLit? c s = none ∧ codeReached? v s = none
        ∧ ∀ i ∈ [Instr.roughGrant, .roughValveOpen v, .stallCheck v, .stepLimitExpiry v, .admissionLimitExpiry v,
            .dwellComplete v, .overhangEnd v, .settleComplete c, .transitionEnd c, .strikeConfirmed c, .strikeTimeout c,
            .retryPauseEnd c, .dropoutLimitExceeded c, .gatedTimeEnd c, .windDownEnd v, .gasAdmission], exec i s = .next s

/-- R116, R118: the five parts of a ramp step and its posting, and the law of the ramps (R115): a ramp of N > 0 ticks from S to T
posts only values between S and T, and after N steps it stands at T with its accumulator back at 0. -/
def Obligations.RampArrivesExactly : Prop :=
  (∀ g : Generator, 0 < g.left →
    (g.ticks ≤ g.accumulator + g.remainder →
      g.step.accumulator = g.accumulator + g.remainder - g.ticks ∧ g.increment = g.quotient + 1)
    ∧ (g.accumulator + g.remainder < g.ticks →
      g.step.accumulator = g.accumulator + g.remainder ∧ g.increment = g.quotient)
    ∧ g.step.posted = (if g.up then g.posted + g.increment else g.posted - g.increment)
    ∧ g.step.left + 1 = g.left
    ∧ g.step = { g with accumulator := g.step.accumulator, posted := g.step.posted, left := g.step.left }
    ∧ ∀ (c : Chamber) (k : Chan) (s : State), s.gen c k = g →
        rampTick s (c, k) = (if 0 < g.increment ∨ g.step.left = 0 then postGenerator c k (s.setGen c k g.step)
          else s.setGen c k g.step))
    ∧ (∀ (c : Chamber) (k : Chan) (s : State), (s.gen c k).left = 0 → rampTick s (c, k) = s)
    ∧ (∀ (c : Chamber) (k : Chan) (s : State),
        exec .transactionStart (placeWrite (.mfc c k) (.flow (s.gen c k).posted) (s.gen c k).cls s)
          = .next (postGenerator c k s))
    ∧ ∀ (g : Generator) (T N : Nat) (cls : WriteClass), 0 < N →
      (∀ j, j ≤ N →
        (Generator.step^[j] (g.ramp T N cls)).left = N - j
        ∧ min g.posted T ≤ (Generator.step^[j] (g.ramp T N cls)).posted
        ∧ (Generator.step^[j] (g.ramp T N cls)).posted ≤ max g.posted T)
      ∧ (Generator.step^[N] (g.ramp T N cls)).posted = T
      ∧ (Generator.step^[N] (g.ramp T N cls)).accumulator = 0

/-! ## Samples -/

/-- R5, R7, R8: a pressure sample replaces the channel's count, code and range flags whole, whatever else it leads to; every
other channel's sample stands. What it leads to, in its order: R9, its GAUGE_RANGE entry; R12, its comparator; R66, the load
of its volume's grant; R136, the window state of its chamber's step; R72, R80, R83, R85, R89, R92 to R94, the end of the
phase that waits on its code. R102: at the end of a chamber's FILL the purge channel jumps to 0 in class 2. R71: what the
release of a grant does. -/
def Obligations.PressureSampleHeld : Prop :=
  (∀ (g : Gauge) (n : Nat) (s : State),
    ∃ t x, exec (.pressureSample g n) s = .next t ∧ (t.gauge g).sample = some x
      ∧ x.count = n ∧ x.code = pressureCode (s.items.lo.get g) (s.items.hi.get g) n
      ∧ (x.underFlag = true ↔ n ≤ 15) ∧ (x.overFlag = true ↔ 4080 ≤ n)
      ∧ (∀ h, h ≠ g → t.gauge h = s.gauge h)
      ∧ t.cfg = s.cfg ∧ t.flu = s.flu ∧ t.tiu = s.tiu ∧ t.gat.enable = s.gat.enable
      ∧ t.pec.emission = s.pec.emission ∧ t.pec.aux = s.pec.aux ∧ t.pec.blanking = s.pec.blanking
      ∧ t.base = s.base ∧ t.pending = s.pending
      ∧ ∀ l, (t.port l).besideNotice = (s.port l).besideNotice)
    ∧ (∀ (g : Gauge) (n : Nat) (s : State), ∃ x : GaugeSample,
      x = ⟨n, pressureCode (s.items.lo.get g) (s.items.hi.get g) n, decide (n ≤ 15), decide (4080 ≤ n)⟩
        ∧ exec (.pressureSample g n) s = .next (finish (match g with
          | .vol (.ch c) => sampleWindow c (dropLoad (.ch c) (evalComparator g x.code (takeSample g x s)))
          | .vol v => dropLoad v (evalComparator g x.code (takeSample g x s))
          | _ => evalComparator g x.code (takeSample g x s))))
    ∧ (∀ (g : Gauge) (x : GaugeSample) (s : State),
      (takeSample g x s).gauge g
          = { s.gauge g with sample := some x, prevUnder := x.underFlag, prevOver := x.overFlag }
        ∧ (∀ h, h ≠ g → (takeSample g x s).gauge h = s.gauge h)
        ∧ (∀ v, (takeSample g x s).vol v = { s.vol v with flags := ((takeSample g x s).vol v).flags })
        ∧ (∀ v f, ((takeSample g x s).vol v).hasFlag f = true ↔
            (s.vol v).hasFlag f = true
              ∨ (f = .gaugeRange ∧ s.cfg.serving = true ∧ s.fitted v = true
                ∧ ((x.underFlag = true ∧ (s.gauge g).prevUnder = false) ∨ (x.overFlag = true ∧ (s.gauge g).prevOver = false))
                ∧ (g = .vol v ∨ (g = .manifold ∧ ((s.grant? v).isSome = true ∨ v ∈ s.rma.queue))
                  ∨ (g = .header ∧ v.chamber? ≠ none))))
        ∧ takeSample g x s = { s with vols := (takeSample g x s).vols, pec := (takeSample g x s).pec,
                                      outbox := (takeSample g x s).outbox })
    ∧ (∀ (v : Volume) (p : Int) (s : State), s.code? (.vol v) = some p →
      (p < s.items.heavyLimit → dropLoad v s = { s with rma := { s.rma with
          grants := s.rma.grants.map fun g => if g.holder = v then { g with load := .light } else g } })
        ∧ (s.items.heavyLimit ≤ p → dropLoad v s = s))
    ∧ (∀ (c : Chamber) (s : State),
      (¬((s.vol (.ch c)).state = .running ∧ (s.vol (.ch c)).current.map (·.kind.isGas) = some true) →
          sampleWindow c s = s)
        ∧ ∀ r, (s.vol (.ch c)).state = .running → (s.vol (.ch c)).current = some r → r.kind.isGas = true →
          sampleWindow c s = s.modVol (.ch c) (fun x => { x with
            window := ((sampleWindow c s).vol (.ch c)).window
            settleCount := if ((sampleWindow c s).vol (.ch c)).window = .outside then 0 else x.settleCount })
          ∧ (r.window = 0 → ((sampleWindow c s).vol (.ch c)).window = .none)
          ∧ (0 < r.window → s.code? (.vol (.ch c)) = none → ((sampleWindow c s).vol (.ch c)).window = .outside)
          ∧ (∀ p, 0 < r.window → s.code? (.vol (.ch c)) = some p →
              (r.target - r.window ≤ p → p ≤ r.target + r.window → ((sampleWindow c s).vol (.ch c)).window = .inside)
              ∧ (p < r.target - r.window ∨ r.target + r.window < p →
                  ((sampleWindow c s).vol (.ch c)).window = .outside)))
    ∧ (∀ (v : Volume) (s : State), s.code? (.vol v) = none → codeReached? v s = none)
    ∧ (∀ (v : Volume) (s : State), releaseRough v s
        = { s with rma := ⟨s.rma.grants.filter fun g => g.holder != v, s.rma.queue.filter fun w => w != v⟩ }.modVol v
            fun x => { x with roughOpen := false })
    ∧ ∀ (v : Volume) (r : StepRecord) (p : Int) (s : State), s.code? (.vol v) = some p →
      (inPhase s v .rough = some r →
          (p ≤ roughTarget s v r →
            (handsToTurbo s v r = false → codeReached? v s = some (completeStep v none (releaseRough v s)))
            ∧ (handsToTurbo s v r = true →
              codeReached? v s = some ((releaseRough v s).modVol v fun x => { x with phase := .turboWait })))
          ∧ (roughTarget s v r < p → codeReached? v s = none))
        ∧ (∀ t, v.turbo? = some t → (handsToTurbo s v r = true ↔ r.target < s.items.crossover.getT t)
            ∧ roughTarget s v r = max r.target (s.items.crossover.getT t))
        ∧ (v.turbo? = none → handsToTurbo s v r = false ∧ roughTarget s v r = r.target)
        ∧ (inPhase s v .highPump = some r →
          (p ≤ r.target → codeReached? v s = some (completeStep v none s)) ∧ (r.target < p → codeReached? v s = none))
        ∧ (inPhase s v .venting = some r →
          (r.target ≤ p → codeReached? v s = some (s.modVol v fun x => { x with phase := .overhang, overhangCount := 0 }))
          ∧ (p < r.target → codeReached? v s = none))
        ∧ (inPhase s v .fill = some r →
          (p < r.target → codeReached? v s = none)
          ∧ (r.target ≤ p → r.floor < p → 0 < (s.vol v).cyclesLeft →
            ∃ u, codeReached? v s = some u ∧ (u.vol v).phase = .waitRough ∧ (u.vol v).admissionCount = 0
              ∧ (u.vol v).retriesLeft = (s.items.pumpBackRetries.get v).toNat
              ∧ (u.vol v).cyclesLeft = (s.vol v).cyclesLeft ∧ u.rma.queue = s.rma.queue ++ [v] ∧ u.rma.grants = s.rma.grants
              ∧ (v.chamber? = none → (u.vol v).ventOpen = false)
              ∧ (∀ c, v = .ch c → FillZeroed c r.flows s u)
              ∧ ∀ w, w ≠ v → u.vol w = s.vol w)
          ∧ (r.target ≤ p → p ≤ r.floor →
            ∃ u, codeReached? v s = some (completeStep v none u) ∧ (u.vol v).cyclesLeft = 0 ∧ u.rma = s.rma
              ∧ (v.chamber? = none → (u.vol v).ventOpen = false) ∧ (∀ c, v = .ch c → FillZeroed c r.flows s u)
              ∧ ∀ w, w ≠ v → u.vol w = s.vol w))
        ∧ (inPhase s v .pumpback = some r →
          (r.floor < p → codeReached? v s = none)
          ∧ (p ≤ r.floor → (s.vol v).cyclesLeft ≤ 1 ∨ r.target ≤ p →
            ∃ u, codeReached? v s = some (completeStep v none u) ∧ (u.vol v).cyclesLeft = 0 ∧ u.grant? v = none
              ∧ (u.vol v).roughOpen = false ∧ ∀ w, w ≠ v → u.vol w = s.vol w)
          ∧ (p ≤ r.floor → 1 < (s.vol v).cyclesLeft → p < r.target →
            (v.chamber? = none → ∃ u, codeReached? v s = some u ∧ (u.vol v).phase = .fill ∧ (u.vol v).ventOpen = true
              ∧ (u.vol v).limitCount = 0 ∧ (u.vol v).cyclesLeft + 1 = (s.vol v).cyclesLeft ∧ u.grant? v = none
              ∧ (u.vol v).roughOpen = false)
            ∧ ∀ c, v = .ch c → ∃ u, codeReached? v s = some (requestGas c r.flows u) ∧ (u.vol v).phase = .waitGas
              ∧ (u.vol v).limitCount = 0 ∧ (u.vol v).cyclesLeft + 1 = (s.vol v).cyclesLeft ∧ u.grant? v = none
              ∧ (u.vol v).roughOpen = false))

/-- R7: the code lies in -400 to 600, and inside that range it is the low code plus the exact floor of
count × (hi − lo) / 4095. -/
def Obligations.PressureCodeExact : Prop :=
  ∀ (lo hi : Int) (n : Nat),
    -400 ≤ pressureCode lo hi n ∧ pressureCode lo hi n ≤ 600
    ∧ (-400 < pressureCode lo hi n → pressureCode lo hi n < 600 →
        4095 * (pressureCode lo hi n - lo) ≤ n * (hi - lo)
          ∧ (n : Int) * (hi - lo) < 4095 * (pressureCode lo hi n - lo) + 4095)
    ∧ (pressureCode lo hi n = -400 → (n : Int) * (hi - lo) < 4095 * (-400 - lo) + 4095)
    ∧ (pressureCode lo hi n = 600 → 4095 * (600 - lo) ≤ (n : Int) * (hi - lo))

/-- R12: how a comparator that runs moves at a sample's code, in both directions; one that does not run keeps its state. A
change, and only a change, is handed to the comparator's destination. R14: an assertion of the header comparator sets the
header trip, flags every fitted chamber, and sends exactly those that are RUNNING or ENDING with a commitment above 0 to
SAFING; its clearance clears the trip. R15: a volume gauge's assertion is the fault PRESSURE_TRIP. R16: the manifold's flags
the volumes on the manifold. No other clearance has an effect. -/
def Obligations.TripComparators : Prop :=
  (∀ (g : Gauge) (p : Int) (s : State),
    (comparatorRuns s g = true ↔
      s.cfg.serving = true ∧ s.pec.blanking = none ∧ s.items.tripEnable.get g = 1)
    ∧ (comparatorRuns s g = false → evalComparator g p s = s)
    ∧ (comparatorRuns s g = true → s.items.tripDirection.get g = 0 →
        (((evalComparator g p s).gauge g).asserted = true ↔
          if (s.gauge g).asserted then s.items.tripThreshold.get g - s.items.tripHysteresis.get g < p
          else s.items.tripThreshold.get g < p))
    ∧ (comparatorRuns s g = true → s.items.tripDirection.get g = 1 →
        (((evalComparator g p s).gauge g).asserted = true ↔
          if (s.gauge g).asserted then p < s.items.tripThreshold.get g + s.items.tripHysteresis.get g
          else p < s.items.tripThreshold.get g))
    ∧ (((evalComparator g p s).gauge g).asserted = (s.gauge g).asserted → evalComparator g p s = s)
    ∧ ((s.gauge g).asserted = false → ((evalComparator g p s).gauge g).asserted = true →
        evalComparator g p s = tripAsserted g (s.setGauge g { s.gauge g with asserted := true }))
    ∧ ((s.gauge g).asserted = true → ((evalComparator g p s).gauge g).asserted = false →
        evalComparator g p s = tripCleared g (s.setGauge g { s.gauge g with asserted := false })))
    ∧ (∀ s : State, (tripAsserted .header s).hlm.trip = true
      ∧ (∀ c, s.fitted (.ch c) = true →
          ((tripAsserted .header s).vol (.ch c)).hasFlag .headerTrip = true
          ∧ (if ((s.vol (.ch c)).state = .running ∨ (s.vol (.ch c)).state = .ending) ∧ s.hasCommitment c = true then
              ((tripAsserted .header s).vol (.ch c)).state = .safing
                ∧ ∃ h, ((tripAsserted .header s).vol (.ch c)).hold = some h ∧ h.cause = .headerTrip
            else ((tripAsserted .header s).vol (.ch c)).state = (s.vol (.ch c)).state
              ∧ ((tripAsserted .header s).vol (.ch c)).hold = (s.vol (.ch c)).hold))
      ∧ (∀ c, s.hasCommitment c = true ↔ ∃ k, 0 < (s.row c k).commitment)
      ∧ ∀ v, v.chamber? = none → (tripAsserted .header s).vol v = s.vol v)
    ∧ (∀ (v : Volume) (s : State), tripAsserted (.vol v) s = takeFault v .pressureTrip s ∧ tripCleared (.vol v) s = s)
    ∧ ∀ s : State, tripCleared .header s = { s with hlm := { s.hlm with trip := false } } ∧ tripCleared .manifold s = s
      ∧ (∀ v, (tripAsserted .manifold s).vol v = { s.vol v with flags := ((tripAsserted .manifold s).vol v).flags })
      ∧ (∀ v f, ((tripAsserted .manifold s).vol v).hasFlag f = true ↔ (s.vol v).hasFlag f = true
          ∨ (f = .manifoldTrip ∧ s.fitted v = true ∧ ((s.grant? v).isSome = true ∨ v ∈ s.rma.queue)))
      ∧ tripAsserted .manifold s
          = { s with vols := (tripAsserted .manifold s).vols, outbox := (tripAsserted .manifold s).outbox }

/-- R10, R143, R144: an emission sample is held and a disarmed detector ignores it. What an armed detector does with a sample of
an ETCH in its ETCH phase once blanking and minimum time are over: a counting sample, the confirming sample with its
over-etch, a reset sample, a held sample. -/
def Obligations.EndpointDetection : Prop :=
  (∀ (c : Chamber) (n : Nat) (s : State),
      exec (.emissionSample c n) s = .next (finish
        (examineSample c n { s with pec := { s.pec with emission := s.pec.emission.set c (some n) } }))
      ∧ ∃ t, exec (.emissionSample c n) s = .next t
        ∧ t.pec.emission = s.pec.emission.set c (some n) ∧ t.pec.gauges = s.pec.gauges ∧ t.pec.aux = s.pec.aux
        ∧ t.cfg = s.cfg ∧ t.flu = s.flu ∧ t.tiu = s.tiu ∧ t.gat.enable = s.gat.enable ∧ t.base = s.base
        ∧ t.pending = s.pending)
    ∧ (∀ (c : Chamber) (n : Nat) (s : State), (s.detector c).armed = false → examineSample c n s = s)
    ∧ (∀ (c : Chamber) (n : Nat) (s : State) (r : StepRecord) (p : Endpoint),
      (s.vol (.ch c)).state = .running → (s.vol (.ch c)).phase = .etch → (s.vol (.ch c)).current = some r →
      r.endpoint = some p → (s.detector c).armed = true →
      (((s.detector c).blanking < p.blanking ∨ (s.reuOf c).gated < p.minTime) → examineSample c n s = s)
      ∧ (p.blanking ≤ (s.detector c).blanking → p.minTime ≤ (s.reuOf c).gated →
          (countsSample p n = true → (s.detector c).confirm + 1 < p.confirm →
            examineSample c n s = s.setDetector c { s.detector c with confirm := (s.detector c).confirm + 1 })
          ∧ (countsSample p n = true → p.confirm ≤ (s.detector c).confirm + 1 →
              (examineSample c n s).detector c
                = ⟨false, (s.detector c).blanking, (s.detector c).confirm + 1, some (s.reuOf c).gated⟩
              ∧ (examineSample c n s).reuOf c = { s.reuOf c with
                  endGated := min ((s.reuOf c).gated + (s.reuOf c).gated * p.overEtch / 100) r.duration }
              ∧ (∀ d, d ≠ c → (examineSample c n s).detector d = s.detector d ∧ (examineSample c n s).reuOf d = s.reuOf d)
              ∧ (examineSample c n s).vols = s.vols)
          ∧ (countsSample p n = false → resetsSample p n = true →
              examineSample c n s = s.setDetector c { s.detector c with confirm := 0 })
          ∧ (countsSample p n = false → resetsSample p n = false → examineSample c n s = s))
      ∧ (p.direction = .rise → (countsSample p n = true ↔ p.threshold ≤ n)
          ∧ (resetsSample p n = true ↔ n + p.hysteresis < p.threshold))
      ∧ (p.direction = .fall → (countsSample p n = true ↔ n ≤ p.threshold)
          ∧ (resetsSample p n = true ↔ p.threshold + p.hysteresis < n)))

/-- R10, R13, R120, R158: the rows whose whole effect is one field: AUX_SAMPLE, TRIP_BLANKING_END, STRAY_ANSWER,
FRAME_DISCARD, FRAME_GAP_TIMEOUT, START_CHARACTER. Four of them rest on the model's choices: TRIP_BLANKING_END is a guarded
command (notes/assumptions/2.md); FRAME_DISCARD counts at a hunting port too, and FRAME_GAP_TIMEOUT acts only while a frame is
being assembled (notes/assumptions/6.md); STRAY_ANSWER changes nothing with a transaction in flight either
(notes/assumptions/18.md). -/
def Obligations.SimpleRowsExact : Prop :=
  (∀ (a : Aux) (n : Nat) (s : State), exec (.auxSample a n) s
      = .next { s with pec := { s.pec with aux := s.pec.aux.set a (some n) } })
    ∧ (∀ (k : Nat) (s : State), s.pec.blanking = some k → exec .tripBlankingEnd s
      = .next { s with pec := { s.pec with blanking := if 100 ≤ k then none else some k } })
    ∧ (∀ s : State, s.pec.blanking = none → exec .tripBlankingEnd s = .next s)
    ∧ (∀ s : State, exec .strayAnswer s = .next s)
    ∧ (∀ (l : Link) (s : State), exec (.frameDiscard l) s = .next (s.setPort l
        { s.port l with assembling := false,
                        frameErrors := if (s.port l).frameErrors < 65535 then (s.port l).frameErrors + 1 else 65535 }))
    ∧ (∀ (l : Link) (s : State), (s.port l).assembling = true → exec (.frameGapTimeout l) s
      = .next (s.setPort l { s.port l with assembling := false, frameErrors :=
          if (s.port l).frameErrors < 65535 then (s.port l).frameErrors + 1 else 65535 }))
    ∧ (∀ (l : Link) (s : State), (s.port l).assembling = false → exec (.frameGapTimeout l) s = .next s)
    ∧ ∀ (l : Link) (s : State), exec (.startCharacter l) s = .next (s.setPort l { s.port l with assembling := true })

/-! ## The step engine -/

/-- R49, R31, R32: a completion of a step marked last ends the recipe and keeps the queue; of any other step it starts the
head of the queue, whatever its kind, or is an underflow when the queue is empty. R141, R142: a waiting gas entry of the
completed step leaves the queue and its detector is disarmed. R47: RF is carried from a STRIKE or ETCH into an ETCH alone. -/
def Obligations.CompletionCourse : Prop :=
  ∀ (v : Volume) (o : Option Note) (r : StepRecord) (s : State),
    (s.vol v).state = .running → (s.vol v).current = some r →
    (r.last = true →
      ((completeStep v o s).vol v).state = .ending ∧ ((completeStep v o s).vol v).phase = .none
      ∧ ((completeStep v o s).vol v).queue = (s.vol v).queue
      ∧ ((completeStep v o s).vol v).current = some r
      ∧ ((completeStep v o s).vol v).lastEnd = some ⟨r.tag, r.kind, .completed, none, o⟩)
    ∧ (r.last = false → (s.vol v).queue = [] →
      ((completeStep v o s).vol v).state = .safing ∧ ((completeStep v o s).vol v).current = some r
      ∧ (∃ h, ((completeStep v o s).vol v).hold = some h ∧ h.cause = .underflow ∧ h.tag = r.tag)
      ∧ ((completeStep v o s).vol v).lastEnd = some ⟨r.tag, r.kind, .completed, none, o⟩
      ∧ (s.fitted v = true → ((completeStep v o s).vol v).hasFlag .underflow = true
          ∧ ((completeStep v o s).vol v).counters.underflow = count16 (s.vol v).counters.underflow))
    ∧ (∀ q rest, r.last = false → (s.vol v).queue = q :: rest → q.kind = .dwell →
      ((completeStep v o s).vol v).state = .running ∧ ((completeStep v o s).vol v).phase = .dwell
      ∧ ((completeStep v o s).vol v).current = some q ∧ ((completeStep v o s).vol v).queue = rest
      ∧ ((completeStep v o s).vol v).dwellCount = 0
      ∧ ((completeStep v o s).vol v).lastEnd = some ⟨r.tag, r.kind, .completed, none, o⟩
      ∧ ∀ c, v = .ch c → ((completeStep v o s).reuOf c).rfOn = false ∧ ((completeStep v o s).reuOf c).powerCode = 0)
    ∧ (∀ q rest, r.last = false → (s.vol v).queue = q :: rest →
      (∃ (carry : Bool) (u : State), completeStep v o s = startSteps v (q :: rest) carry u
        ∧ (carry = true ↔ r.kind = .strike ∨ r.kind = .etch)
        ∧ u.vol v = { s.vol v with lastEnd := some ⟨r.tag, r.kind, .completed, none, o⟩ }
        ∧ (∀ w, w ≠ v → u.vol w = s.vol w)
        ∧ (∀ c, u.inGasQueue c = (s.inGasQueue c && decide (v ≠ .ch c))
            ∧ u.detector c = { s.detector c with armed := (s.detector c).armed && decide (v ≠ .ch c) })
        ∧ u.gat = { s.gat with queue := u.gat.queue }
        ∧ u.pec = { s.pec with detectors := u.pec.detectors }
        ∧ u = { s with vols := u.vols, gat := u.gat, pec := u.pec, outbox := u.outbox })
      ∧ (StartStands v q s →
          ((completeStep v o s).vol v).state = .running ∧ ((completeStep v o s).vol v).phase ≠ .none
          ∧ ((completeStep v o s).vol v).current = some q ∧ ((completeStep v o s).vol v).queue = rest
          ∧ ((completeStep v o s).vol v).lastEnd = some ⟨r.tag, r.kind, .completed, none, o⟩)
      ∧ ∀ c, v = .ch c →
        (¬(q.kind = .etch ∧ (r.kind = .strike ∨ r.kind = .etch)) →
          ((completeStep v o s).reuOf c).rfOn = false ∧ ((completeStep v o s).reuOf c).powerCode = 0)
        ∧ (q.kind = .etch → r.kind = .strike ∨ r.kind = .etch → StartStands v q s →
          ((completeStep v o s).vol v).phase = .etch
          ∧ (completeStep v o s).reuOf c = ⟨true, q.power * 4095 / 3000, 0, 0, 0, 0, 0, 0, q.duration⟩
          ∧ (completeStep v o s).inGasQueue c = true
          ∧ ((completeStep v o s).detector c).armed = q.endpoint.isSome))
    ∧ ∀ w, w ≠ v → (completeStep v o s).vol w = s.vol w

/-- R52: a step failure records the end, counts, sets the kind's flag, and follows the record's on-fail field. Outside
RUNNING nothing fails. R53: the flags of the failure kinds. R61: the counter saturates. -/
def Obligations.FailureCourse : Prop :=
  [FailKind.admitTimeout, .limitExceeded, .turboWait, .pumpStall, .lidOpen, .strikeFail, .plasmaLost, .endpointMissed,
      .flowDeviation, .deviceFailed].map FailKind.flag
    = [some .admitTimeout, none, none, none, none, none, none, some .endpointMissed, some .flowDeviation,
      some .deviceFailed]
  ∧ (∀ n, count16 n = if n < 65535 then n + 1 else 65535)
  ∧ ∀ (v : Volume) (f : FailKind) (s : State),
    ((s.vol v).state ≠ .running → failStep v f s = s)
    ∧ ∀ r, (s.vol v).state = .running → (s.vol v).current = some r → s.fitted v = true →
        ((failStep v f s).vol v).lastEnd = some ⟨r.tag, r.kind, .failed, some f, none⟩
        ∧ ((failStep v f s).vol v).counters.failure = count16 (s.vol v).counters.failure
        ∧ (∀ g, f.flag = some g → ((failStep v f s).vol v).hasFlag g = true)
        ∧ ((failStep v f s).vol v).phase = .none ∧ ((failStep v f s).vol v).current = some r
        ∧ (r.onFail = .hold → ((failStep v f s).vol v).state = .safing
            ∧ ((failStep v f s).vol v).queue = (s.vol v).queue
            ∧ ((failStep v f s).vol v).hold = some ⟨.stepFailed, some f, r.tag, (s.vol v).phase⟩)
        ∧ (r.onFail = .abort → ((failStep v f s).vol v).state = .ending ∧ ((failStep v f s).vol v).queue = []
            ∧ ((failStep v f s).vol v).hold = none)
        ∧ ∀ w, w ≠ v → (failStep v f s).vol w = s.vol w

/-- R53: the first-cause rule, state by state, and the flags of the causes. R55: the causes that close the gate. -/
def Obligations.FaultCourse : Prop :=
  [HoldCause.requested, .stepFailed, .underflow, .linkLost, .headerTrip, .permitLost, .emergencyOff, .deviceFailed,
      .pressureTrip, .turboLost].map HoldCause.flag
    = [none, none, some .underflow, some .linkLost, some .headerTrip, some .permitLost, none, some .deviceFailed,
      some .pressureTrip, none]
  ∧ (∀ k : HoldCause, k.closesGate = true ↔ k = .turboLost ∨ k = .emergencyOff)
  ∧ ∀ (v : Volume) (k : HoldCause) (s : State), s.fitted v = true →
    (∀ g, k.flag = some g → ((takeFault v k s).vol v).hasFlag g = true)
    ∧ ((s.vol v).state = .running → ((takeFault v k s).vol v).state = .safing
        ∧ ((takeFault v k s).vol v).hold = some ⟨k, none, (s.vol v).currentTag, (s.vol v).phase⟩
        ∧ ∀ r, (s.vol v).current = some r →
            ((takeFault v k s).vol v).lastEnd = some ⟨r.tag, r.kind, .stopped, none, none⟩)
    ∧ ((s.vol v).state = .ending → ((takeFault v k s).vol v).state = .safing
        ∧ ((takeFault v k s).vol v).hold = some ⟨k, none, (s.vol v).currentTag, .none⟩
        ∧ (k.closesGate = true → (takeFault v k s).gateOpen v = false))
    ∧ ((s.vol v).state = .safing ∨ (s.vol v).state = .hold ∨ (s.vol v).state = .idle →
        takeFault v k s = setFlag? v k.flag s)
    ∧ ∀ w, w ≠ v → (takeFault v k s).vol w = s.vol w

/-- R54, R55, R102: what the start of a wind-down does to the volume, whose counts all stop where they stand, and to every
owner of its plant: every channel not already at rest at 0 jumps there as class 1, and the throttle is posted OPEN. -/
def Obligations.WindDownActions : Prop :=
  ∀ (v : Volume) (h : Option HoldRecord) (s : State),
    (windDown v h s).vol v = { s.vol v with
        state := if h.isSome then .safing else .ending, phase := .none, hold := h, roughOpen := false, ventOpen := false }
    ∧ (windDown v h s).grant? v = none ∧ (windDown v h s).inRoughQueue v = false
    ∧ (windDown v h s).gateOpen v = (s.gateOpen v && !((h.map fun x => x.cause.closesGate).getD false))
    ∧ (∀ w, w ≠ v → (windDown v h s).vol w = s.vol w ∧ (windDown v h s).gateOpen w = s.gateOpen w)
    ∧ (∀ c, v ≠ .ch c → (windDown v h s).reuOf c = s.reuOf c ∧ (windDown v h s).detector c = s.detector c
        ∧ ∀ k, (windDown v h s).row c k = s.row c k ∧ (windDown v h s).gen c k = s.gen c k)
    ∧ ∀ c, v = .ch c →
        (windDown v h s).reuOf c = { s.reuOf c with rfOn := false, powerCode := 0 }
        ∧ (windDown v h s).detector c = { s.detector c with armed := false } ∧ (windDown v h s).inGasQueue c = false
        ∧ (∀ k, ((windDown v h s).row c k).target = 0
            ∧ ((windDown v h s).row c k).commitment = (s.row c k).commitment
            ∧ (((windDown v h s).row c k).inFlight = true ↔ (s.row c k).target ≠ 0 ∨ (s.row c k).inFlight = true)
            ∧ ((s.row c k).target ≠ 0 ∨ (s.row c k).inFlight = true →
                ((windDown v h s).gen c k).posted = 0 ∧ ((windDown v h s).gen c k).target = 0
                ∧ ((windDown v h s).gen c k).left = 0 ∧ ((windDown v h s).gen c k).cls = .urgent
                ∧ ((s.device (.mfc c k)).failed = false → PostStands (.mfc c k) (.flow 0) .urgent (windDown v h s)))
            ∧ ((s.row c k).target = 0 → (s.row c k).inFlight = false → (windDown v h s).gen c k = s.gen c k))
        ∧ ((s.device (.throttle c)).failed = false → PostStands (.throttle c) .opened .urgent (windDown v h s))

/-- R45, R46, R47, R76, R129, R134: what every step start does, whatever the kind: the record becomes current, every count is
0, a chamber's RF is off unless an ETCH carries it over, and its flows and throttle have their step-start treatment. R45, R49:
steps that complete at their starts follow one another. R81, R89, R91 to R94, R135, R136, R141: the first phase of each kind.
R103: what becomes of its flow request. R6, R80, R81: the conditions that these starts test. R32: the underflow of an empty
queue. That a PURGE fill which its entry test ends posts no zero for a chamber's channel, so that DBC and GAT stand, is the
model's choice (notes/assumptions/28.md). That the hold record of the underflow holds the phase in which the completed step
stood is deduced (notes/assumptions/12.md). -/
def Obligations.StepStarts : Prop :=
  (∀ (x : Vol) (u : Reu) (r : StepRecord) (rest : List StepRecord) (d : Nat),
    (x.begin r rest d).current = some r ∧ (x.begin r rest d).queue = rest ∧ (x.begin r rest d).state = .running
    ∧ (x.begin r rest d).hold = none ∧ (x.begin r rest d).limitCount = 0 ∧ (x.begin r rest d).admissionCount = 0
    ∧ (x.begin r rest d).dwellCount = 0 ∧ (x.begin r rest d).stallCount = 0 ∧ (x.begin r rest d).overhangCount = 0
    ∧ (x.begin r rest d).settleCount = 0 ∧ (x.begin r rest d).window = .none
    ∧ (x.begin r rest d).retriesLeft = (if r.kind = .pump then r.retries else 0)
    ∧ (x.begin r rest d).cyclesLeft = (if r.kind = .purge then r.cycles else 0)
    ∧ (r.kind = .pump ∨ r.kind = .vent ∨ r.kind = .purge ∨ r.kind = .gas →
        (x.begin r rest d).effLimit = if 0 < r.limit then r.limit else d)
    ∧ (x.begin r rest d).flags = x.flags ∧ (x.begin r rest d).counters = x.counters
    ∧ (x.begin r rest d).lastEnd = x.lastEnd
    ∧ (u.begin r false).rfOn = false ∧ (u.begin r false).powerCode = 0
    ∧ (u.begin r true).rfOn = u.rfOn ∧ (u.begin r true).powerCode = r.power * 4095 / 3000
    ∧ ∀ b, (u.begin r b).strikeTimer = 0 ∧ (u.begin r b).confirmCount = 0 ∧ (u.begin r b).pauseCount = 0
        ∧ (u.begin r b).gated = 0 ∧ (u.begin r b).dropout = 0 ∧ (u.begin r b).endGated = 0
        ∧ (u.begin r b).retriesLeft = if r.kind = .strike then r.retries else 0)
    ∧ (∀ (v : Volume) (r : StepRecord) (s : State),
      (lidOpen s v = true → startPump v r s = .stands (failStep v .lidOpen s))
      ∧ (lidOpen s v = false → s.atOrBelow (.vol v) r.target = true → startPump v r s = .completes s)
      ∧ (lidOpen s v = false → s.atOrBelow (.vol v) r.target = false →
          belowCrossover s v = true → turboAtSpeed s v = true →
          ∃ t, startPump v r s = .stands t ∧ (t.vol v).phase = .highPump ∧ (t.vol v).ventOpen = false
            ∧ t.gateOpen v = true ∧ t.rma = s.rma)
      ∧ (lidOpen s v = false → s.atOrBelow (.vol v) r.target = false →
          (belowCrossover s v = false ∨ turboAtSpeed s v = false) →
          (s.atOrBelow (.vol v) (roughTarget s v r) = false →
            ∃ t, startPump v r s = .stands t ∧ (t.vol v).phase = .waitRough ∧ (t.vol v).admissionCount = 0
              ∧ (t.vol v).ventOpen = false ∧ t.gateOpen v = false ∧ t.rma.queue = s.rma.queue ++ [v])
          ∧ (s.atOrBelow (.vol v) (roughTarget s v r) = true → handsToTurbo s v r = true →
            ∃ t, startPump v r s = .stands t ∧ (t.vol v).phase = .turboWait ∧ t.gateOpen v = false ∧ t.rma = s.rma)))
    ∧ (∀ (v : Volume) (r : StepRecord) (rest : List StepRecord) (carry : Bool) (s t : State),
      (∀ c, v = .ch c → startStep v r rest carry s = enterKind v r (carry && r.kind == .etch)
          (startChamberPlant c r (carry && r.kind == .etch)
            (s.modVol v fun x => x.begin r rest (s.items.stepLimit.get v).toNat)))
      ∧ (v.chamber? = none → startStep v r rest carry s = enterKind v r (carry && r.kind == .etch)
          (s.modVol v fun x => x.begin r rest (s.items.stepLimit.get v).toNat))
      ∧ (startStep v r rest carry s = .stands t ∨ startStep v r rest carry s = .completes t →
          (t.vol v).current = some r ∧ ((t.vol v).state = .running → (t.vol v).queue = rest ∧ (t.vol v).hold = none)
          ∧ ∀ w, w ≠ v → t.vol w = s.vol w)
      ∧ startSteps v [] carry s = underflow v s
      ∧ (s.fitted v = true → underflow v s
          = windDown v (some ⟨.underflow, none, (s.vol v).currentTag, (s.vol v).phase⟩)
              ((setFlag v .underflow s).modVol v fun x =>
                { x with counters := { x.counters with underflow := count16 x.counters.underflow } }))
      ∧ (startStep v r rest carry s = .stands t → startSteps v (r :: rest) carry s = t)
      ∧ (startStep v r rest carry s = .completes t → startSteps v (r :: rest) carry s =
          if r.last = true then windDown v none (recordEnd v .completed none none t)
          else startSteps v rest false (recordEnd v .completed none none t)))
    ∧ (∀ (c : Chamber) (r : StepRecord) (b : Bool) (s : State),
      (startChamberPlant c r b s).reuOf c = (s.reuOf c).begin r b ∧ (startChamberPlant c r b s).vols = s.vols
      ∧ (startChamberPlant c r b s).rma = s.rma ∧ (startChamberPlant c r b s).gates = s.gates
      ∧ (∀ k, ((startChamberPlant c r b s).row c k).commitment = (s.row c k).commitment)
      ∧ (r.kind = .pump ∨ r.kind = .vent ∨ r.kind = .purge →
        (∀ k, ((startChamberPlant c r b s).row c k).target = 0
          ∧ (((startChamberPlant c r b s).row c k).inFlight = true ↔ (s.row c k).target ≠ 0 ∨ (s.row c k).inFlight = true)
          ∧ ((s.row c k).target ≠ 0 ∨ (s.row c k).inFlight = true →
              ((startChamberPlant c r b s).gen c k).posted = 0 ∧ ((startChamberPlant c r b s).gen c k).target = 0
              ∧ ((startChamberPlant c r b s).gen c k).left = 0 ∧ ((startChamberPlant c r b s).gen c k).cls = .normal
              ∧ ((s.device (.mfc c k)).failed = false →
                  PostStands (.mfc c k) (.flow 0) .normal (startChamberPlant c r b s)))
          ∧ ((s.row c k).target = 0 → (s.row c k).inFlight = false →
              (startChamberPlant c r b s).gen c k = s.gen c k))
        ∧ ((s.device (.throttle c)).failed = false →
            PostStands (.throttle c) .opened .normal (startChamberPlant c r b s)))
      ∧ (r.kind = .dwell → (startChamberPlant c r b s).dbc = s.dbc ∧ (startChamberPlant c r b s).gat = s.gat
          ∧ (startChamberPlant c r b s).fru = s.fru)
      ∧ (r.kind.isGas = true → (startChamberPlant c r b s).gat = s.gat ∧ (startChamberPlant c r b s).fru = s.fru
          ∧ ((s.device (.throttle c)).failed = false →
              PostStands (.throttle c) (if r.window = 0 then .opened else .code r.target) .normal
                (startChamberPlant c r b s))))
    ∧ (∀ (v : Volume) (r : StepRecord) (b : Bool) (s : State),
      (r.kind = .pump → enterKind v r b s = startPump v r s)
      ∧ (r.kind = .dwell → enterKind v r b s = .stands (s.modVol v fun x => { x with phase := .dwell }))
      ∧ (r.kind = .vent → enterKind v r b s
          = .stands ((s.setGate v false).modVol v fun x => { x with phase := .venting, ventOpen := true }))
      ∧ (r.kind = .purge → s.atOrAbove (.vol v) r.target = false →
        (v.chamber? = none → enterKind v r b s = .stands ((s.setGate v false).modVol v fun x =>
            { x with phase := .fill, ventOpen := true, limitCount := 0 }))
        ∧ ∀ c, v = .ch c → enterKind v r b s = .stands (requestGas c r.flows
            ((s.setGate v false).modVol v fun x => { x with phase := .waitGas, limitCount := 0 })))
      ∧ (r.kind = .purge → s.atOrAbove (.vol v) r.target = true → s.atOrBelow (.vol v) r.floor = false →
          0 < (s.vol v).cyclesLeft →
          enterKind v r b s = .stands { (s.setGate v false).modVol v fun x => { x with
              phase := .waitRough, limitCount := 0, admissionCount := 0,
              retriesLeft := (s.items.pumpBackRetries.get v).toNat } with
            rma := { s.rma with queue := s.rma.queue ++ [v] } })
      ∧ (r.kind = .purge → s.atOrAbove (.vol v) r.target = true → s.atOrBelow (.vol v) r.floor = true →
          ∃ t, enterKind v r b s = .completes t ∧ (t.vol v).cyclesLeft = 0 ∧ t.rma = s.rma ∧ t.gat = s.gat
            ∧ ∀ w, w ≠ v → t.vol w = s.vol w)
      ∧ ∀ c, r.kind.isGas = true → v = .ch c → enterKind v r b s = .stands (startGasKind c r b s))
    ∧ (∀ (s : State) (g : Gauge) (x : Int) (v : Volume) (k : Kind),
      (s.atOrAbove g x = true ↔ ∃ p, s.code? g = some p ∧ x ≤ p)
      ∧ (s.atOrBelow g x = true ↔ ∃ p, s.code? g = some p ∧ p ≤ x)
      ∧ (lidOpen s v = true ↔ ∃ c, v = .ch c ∧ s.fn (.lid c) = false)
      ∧ (belowCrossover s v = true ↔ ∃ t, v.turbo? = some t ∧ s.atOrBelow (.vol v) (s.items.crossover.getT t) = true)
      ∧ (turboAtSpeed s v = true ↔ ∃ t, v.turbo? = some t ∧ s.fn (.turbo t) = true)
      ∧ (k.isGas = true ↔ k = .gas ∨ k = .strike ∨ k = .etch))
    ∧ ∀ (c : Chamber) (r : StepRecord) (s : State),
      (∃ w, startGasKind c r false s
          = requestGas c r.flows (s.modVol (.ch c) fun x => { x with window := w, phase := .waitGas })
        ∧ startGasKind c r true s
          = requestGas c r.flows (enterEtch c r (s.modVol (.ch c) fun x => { x with window := w }))
        ∧ (r.window = 0 → w = .none) ∧ (0 < r.window → s.code? (.vol (.ch c)) = none → w = .outside)
        ∧ ∀ p, 0 < r.window → s.code? (.vol (.ch c)) = some p →
          (r.target - r.window ≤ p → p ≤ r.target + r.window → w = .inside)
          ∧ (p < r.target - r.window ∨ r.target + r.window < p → w = .outside))
      ∧ ((enterEtch c r s).vol (.ch c)).phase = .etch
      ∧ (enterEtch c r s).reuOf c = { s.reuOf c with
          rfOn := true, powerCode := r.power * 4095 / 3000, gated := 0, dropout := 0, endGated := r.duration }
      ∧ (enterEtch c r s).detector c = (if r.endpoint.isSome then ⟨true, 0, 0, none⟩ else s.detector c)
      ∧ ((∃ f ∈ r.flows, s.source c f.chan = 0 ∨ (s.device (.mfc c f.chan)).failed = true) →
          requestGas c r.flows s = failStep (.ch c) .deviceFailed s)
      ∧ ((∀ f ∈ r.flows, s.source c f.chan ≠ 0 ∧ (s.device (.mfc c f.chan)).failed = false) →
          ∃ e : GasEntry, e.chamber = c
            ∧ requestGas c r.flows s = { s.modVol (.ch c) fun x => { x with admissionCount := 0 } with
                gat := { s.gat with queue := s.gat.queue ++ [e] } }
            ∧ ((r.flows.map (·.chan)).Nodup →
                (∀ f ∈ r.flows, e.aims.get f.chan = ⟨min f.target (s.fullScale c f.chan), f.ticks⟩)
                ∧ ∀ k, (∀ f ∈ r.flows, f.chan ≠ k) → e.aims.get k = ⟨0, 0⟩))

/-! ## Rows that the part takes by itself -/

/-- R64, R65: the load units, the used load and the prospective load. R68, R70: the head of the rough queue is granted when its
load fits, and not before; a WAITING holder's rough valve opens when the manifold is at or below it and its gate is closed. A
volume without a grant, one whose grant is OPEN, and one whose own or manifold gauge has no sample opens none. The opening
leads to PUMPBACK in a PURGE, to ROUGH in any other kind. -/
def Obligations.RoughRowsAct : Prop :=
  (∀ (s : State) (v : Volume) (rest : List Volume), s.rma.queue = v :: rest →
      s.rma.used + (prospectiveLoad s v).units ≤ 4 →
      ∃ u, exec .roughGrant s = .next (finish u)
        ∧ u.rma.grants = s.rma.grants ++ [⟨v, prospectiveLoad s v, false⟩] ∧ u.rma.queue = rest
        ∧ (u.vol v).phase = .valveWait ∧ (∀ w, w ≠ v → u.vol w = s.vol w)
        ∧ u = { s with rma := u.rma, vols := u.vols })
    ∧ (∀ (s : State), (∀ v rest, s.rma.queue = v :: rest → 4 < s.rma.used + (prospectiveLoad s v).units) →
        exec .roughGrant s = .next s)
    ∧ (∀ (s : State) (v : Volume), (s.grant? v = none ∨ (∃ g, s.grant? v = some g ∧ g.valveOpen = true)
          ∨ s.code? .manifold = none ∨ s.code? (.vol v) = none) →
        exec (.roughValveOpen v) s = .next s)
    ∧ (∀ (s : State) (v : Volume),
      (prospectiveLoad s v = .light ↔ ∃ p, s.code? (.vol v) = some p ∧ p < s.items.heavyLimit)
      ∧ (prospectiveLoad s v = .heavy ↔ ∀ p, s.code? (.vol v) = some p → s.items.heavyLimit ≤ p)
      ∧ (∀ g, s.code? g = (s.gauge g).sample.map (·.code))
      ∧ (s.vol v).roughingPhase = (if (s.vol v).current.map (·.kind) = some .purge then .pumpback else .rough)
      ∧ (s.grant? v = none ↔ ∀ g ∈ s.rma.grants, g.holder ≠ v)
      ∧ ∀ g, s.grant? v = some g → g ∈ s.rma.grants ∧ g.holder = v)
    ∧ Load.heavy.units = 4 ∧ Load.light.units = 1
    ∧ (∀ r : Rma, r.used = (r.grants.map fun g => if g.load = .heavy then 4 else 1).sum)
    ∧ ∀ (s : State) (v : Volume) (g : Grant) (m p : Int), s.grant? v = some g → g.valveOpen = false →
        s.code? .manifold = some m → s.code? (.vol v) = some p →
        (m ≤ p → s.gateOpen v = false →
          ∃ u, exec (.roughValveOpen v) s = .next (finish u) ∧ (u.vol v).roughOpen = true
            ∧ u.grant? v = some { g with valveOpen := true }
            ∧ (u.vol v).stallBaseline = p ∧ (u.vol v).stallCount = 0
            ∧ (u.vol v).phase = (s.vol v).roughingPhase ∧ (∀ w, w ≠ v → u.vol w = s.vol w)
            ∧ u.rma.queue = s.rma.queue ∧ u.rma.used = s.rma.used)
        ∧ (p < m ∨ s.gateOpen v = true → exec (.roughValveOpen v) s = .next s)

/-- R50, R51, R86, R87: STEP_LIMIT_EXPIRY, ADMISSION_LIMIT_EXPIRY and STALL_CHECK act when their counts have reached their
limits, and change nothing below them or where the count does not run: a kind without a step limit, a step that waits or
does not, a volume that is in no roughing stage with an open valve or has no sample. -/
def Obligations.LimitRowsAct : Prop :=
  (∀ (s : State) (v : Volume) (r : StepRecord), (s.vol v).state = .running → (s.vol v).current = some r →
      r.kind.hasLimit = true → s.waits v = false → (s.vol v).effLimit ≤ (s.vol v).limitCount →
      exec (.stepLimitExpiry v) s = .next (finish
        (failStep v (if (s.vol v).phase = .turboWait then .turboWait else .limitExceeded) s)))
    ∧ (∀ (s : State) (v : Volume) (r : StepRecord), (s.vol v).state = .running → (s.vol v).current = some r →
      s.waits v = true → s.items.admissionLimit.get v ≤ ((s.vol v).admissionCount : Int) →
      exec (.admissionLimitExpiry v) s = .next (finish (failStep v .admitTimeout s)))
    ∧ (∀ (s : State) (v : Volume) (r : StepRecord), (s.vol v).state = .running → (s.vol v).current = some r →
      (r.kind.hasLimit = false ∨ s.waits v = true ∨ (s.vol v).limitCount < (s.vol v).effLimit →
        exec (.stepLimitExpiry v) s = .next s)
      ∧ (s.waits v = false ∨ ((s.vol v).admissionCount : Int) < s.items.admissionLimit.get v →
        exec (.admissionLimitExpiry v) s = .next s))
    ∧ (∀ k : Kind, k.hasLimit = true ↔ k = .pump ∨ k = .vent ∨ k = .purge ∨ k = .gas)
    ∧ (∀ (s : State) (v : Volume),
      (roughing s v = false ∨ s.code? (.vol v) = none ∨ ((s.vol v).stallCount : Int) < s.items.stallWindow.get v) →
      exec (.stallCheck v) s = .next s)
    ∧ ∀ (s : State) (v : Volume) (p : Int), roughing s v = true → s.code? (.vol v) = some p →
      s.items.stallWindow.get v ≤ ((s.vol v).stallCount : Int) →
      (s.items.minFall.get v ≤ (s.vol v).stallBaseline - p →
        exec (.stallCheck v) s
          = .next (finish (s.modVol v fun x => { x with stallBaseline := p, stallCount := 0 })))
      ∧ ((s.vol v).stallBaseline - p < s.items.minFall.get v → (s.vol v).retriesLeft = 0 →
        exec (.stallCheck v) s = .next (finish (failStep v .pumpStall s)))
      ∧ ((s.vol v).stallBaseline - p < s.items.minFall.get v → 0 < (s.vol v).retriesLeft → s.fitted v = true →
        ∃ u, exec (.stallCheck v) s = .next (finish u)
          ∧ (u.vol v).retriesLeft + 1 = (s.vol v).retriesLeft ∧ (u.vol v).phase = .waitRough
          ∧ (u.vol v).admissionCount = 0 ∧ (u.vol v).roughOpen = false
          ∧ (u.vol v).counters.pumpRetry = count16 (s.vol v).counters.pumpRetry
          ∧ (u.vol v).hasFlag .pumpRetry = true
          ∧ u.grant? v = none ∧ u.rma.queue = (s.rma.queue.filter fun w => w != v) ++ [v])

/-- R48, R90, R137, R138: DWELL_COMPLETE, OVERHANG_END, SETTLE_COMPLETE and STRIKE_CONFIRMED complete the step in its phase
when its count has reached the duration. A row that belongs to a running step changes nothing while the volume is not RUNNING
(R49 to R52, R54). -/
def Obligations.CountedEndsComplete : Prop :=
  (∀ (s : State) (v : Volume) (r : StepRecord), inPhase s v .dwell = some r →
      (max 1 r.duration ≤ (s.vol v).dwellCount →
        exec (.dwellComplete v) s = .next (finish (completeStep v none s)))
      ∧ ((s.vol v).dwellCount < max 1 r.duration → exec (.dwellComplete v) s = .next s))
    ∧ (∀ (s : State) (v : Volume) (r : StepRecord), inPhase s v .overhang = some r →
      (r.duration ≤ (s.vol v).overhangCount →
        exec (.overhangEnd v) s
          = .next (finish (completeStep v none (s.modVol v fun x => { x with ventOpen := false }))))
      ∧ ((s.vol v).overhangCount < r.duration → exec (.overhangEnd v) s = .next s))
    ∧ (∀ (s : State) (c : Chamber) (r : StepRecord), inPhase s (.ch c) .settle = some r →
      (r.duration ≤ (s.vol (.ch c)).settleCount → (s.vol (.ch c)).window ≠ .outside →
        exec (.settleComplete c) s = .next (finish (completeStep (.ch c) none s)))
      ∧ ((s.vol (.ch c)).settleCount < r.duration ∨ (s.vol (.ch c)).window = .outside →
        exec (.settleComplete c) s = .next s))
    ∧ (∀ (s : State) (c : Chamber) (r : StepRecord), inPhase s (.ch c) .confirm = some r →
      (r.duration ≤ (s.reuOf c).confirmCount →
        exec (.strikeConfirmed c) s = .next (finish (completeStep (.ch c) none s)))
      ∧ ((s.reuOf c).confirmCount < r.duration → exec (.strikeConfirmed c) s = .next s))
    ∧ (∀ (s : State) (v : Volume) (p : Phase) (r : StepRecord), inPhase s v p = some r ↔
        (s.vol v).state = .running ∧ (s.vol v).phase = p ∧ (s.vol v).current = some r)
    ∧ ∀ (s : State) (v : Volume) (c : Chamber) (i : Instr),
      ((s.vol v).state ≠ .running →
        i ∈ [.stallCheck v, .stepLimitExpiry v, .admissionLimitExpiry v, .dwellComplete v, .overhangEnd v] →
        exec i s = .next s)
      ∧ ((s.vol (.ch c)).state ≠ .running →
        i ∈ [.settleComplete c, .transitionEnd c, .strikeConfirmed c, .strikeTimeout c, .retryPauseEnd c,
          .dropoutLimitExceeded c, .gatedTimeEnd c] →
        exec i s = .next s)

/-- R139, R140, R144, R145: STRIKE_TIMEOUT makes a strike retry or fails the step, in IGNITE and, with the confirm count below
the duration (R138), in CONFIRM; RETRY_PAUSE_END lights RF again; DROPOUT_LIMIT_EXCEEDED fails an ETCH; GATED_TIME_END ends
one by its endpoint. Below their limits they change nothing. That an end gated time of 0 stands only from the phase's first
step tick, or at a confirming sample before it, is notes/assumptions/15.md. -/
def Obligations.PlasmaRowsAct : Prop :=
  (∀ (s : State) (c : Chamber) (r : StepRecord),
      inPhase s (.ch c) .ignite = some r
        ∨ (inPhase s (.ch c) .confirm = some r ∧ (s.reuOf c).confirmCount < r.duration) →
      (((s.reuOf c).strikeTimer : Int) < s.items.strikeTimeout.get c → exec (.strikeTimeout c) s = .next s)
      ∧ (s.items.strikeTimeout.get c ≤ ((s.reuOf c).strikeTimer : Int) →
        ((s.reuOf c).retriesLeft = 0 →
          exec (.strikeTimeout c) s = .next (finish (failStep (.ch c) .strikeFail s)))
        ∧ (0 < (s.reuOf c).retriesLeft → s.fitted (.ch c) = true →
          ∃ u, exec (.strikeTimeout c) s = .next (finish u)
            ∧ (u.vol (.ch c)).phase = .retryPause ∧ (u.reuOf c).rfOn = false ∧ (u.reuOf c).powerCode = 0
            ∧ (u.reuOf c).retriesLeft + 1 = (s.reuOf c).retriesLeft ∧ (u.reuOf c).confirmCount = 0
            ∧ (u.reuOf c).pauseCount = 0
            ∧ (u.vol (.ch c)).counters.strikeRetry = count16 (s.vol (.ch c)).counters.strikeRetry
            ∧ (u.vol (.ch c)).hasFlag .strikeRetry = true)))
    ∧ (∀ (s : State) (c : Chamber) (r : StepRecord), inPhase s (.ch c) .confirm = some r →
      r.duration ≤ (s.reuOf c).confirmCount → exec (.strikeTimeout c) s = .next s)
    ∧ (∀ (s : State) (c : Chamber) (r : StepRecord), inPhase s (.ch c) .retryPause = some r →
      (20 ≤ (s.reuOf c).pauseCount →
        ∃ u, exec (.retryPauseEnd c) s = .next (finish u) ∧ (u.vol (.ch c)).phase = .ignite
          ∧ (u.reuOf c).rfOn = true ∧ (u.reuOf c).powerCode = r.power * 4095 / 3000 ∧ (u.reuOf c).strikeTimer = 0)
      ∧ ((s.reuOf c).pauseCount < 20 → exec (.retryPauseEnd c) s = .next s))
    ∧ (∀ (s : State) (c : Chamber) (r : StepRecord), inPhase s (.ch c) .etch = some r →
      (s.items.dropoutLimit.get c < ((s.reuOf c).dropout : Int) →
        exec (.dropoutLimitExceeded c) s = .next (finish (failStep (.ch c) .plasmaLost s))
        ∧ exec (.gatedTimeEnd c) s = .next s)
      ∧ (((s.reuOf c).dropout : Int) ≤ s.items.dropoutLimit.get c →
        exec (.dropoutLimitExceeded c) s = .next s
        ∧ ((s.reuOf c).gated < (s.reuOf c).endGated → exec (.gatedTimeEnd c) s = .next s)
        ∧ ((s.reuOf c).endGated = 0 → (s.reuOf c).gated = 0 → (s.reuOf c).dropout = 0 →
            r.endpoint = none ∨ (s.detector c).endpointAt = none → exec (.gatedTimeEnd c) s = .next s)
        ∧ ((s.reuOf c).endGated ≤ (s.reuOf c).gated →
          0 < (s.reuOf c).gated ∨ 0 < (s.reuOf c).dropout
            ∨ (r.endpoint.isSome = true ∧ (s.detector c).endpointAt.isSome = true) →
          (r.endpoint = none → exec (.gatedTimeEnd c) s = .next (finish (completeStep (.ch c) none s)))
          ∧ (∀ p e, r.endpoint = some p → (s.detector c).endpointAt = some e →
            exec (.gatedTimeEnd c) s = .next (finish (completeStep (.ch c)
              (if r.duration < e + e * p.overEtch / 100 then some .cut else none) s)))
          ∧ (∀ p, r.endpoint = some p → (s.detector c).endpointAt = none → p.required = false →
            exec (.gatedTimeEnd c) s = .next (finish (completeStep (.ch c) (some .noEndpoint) s)))
          ∧ (∀ p, r.endpoint = some p → (s.detector c).endpointAt = none → p.required = true →
            exec (.gatedTimeEnd c) s = .next (finish (failStep (.ch c) .endpointMissed s))))))

/-- R56: WIND_DOWN_END moves a drained volume from ENDING to IDLE, or from SAFING to HOLD, with its notice; R135:
TRANSITION_END leaves TRANSITION when no listed channel has a transition in flight. -/
def Obligations.WindDownAndTransitionEnd : Prop :=
  (∀ (s : State) (v : Volume), s.drained v = true →
      ((s.vol v).state = .ending →
        ∃ u, exec (.windDownEnd v) s = .next (finish u) ∧ (u.vol v).state = .idle ∧ (u.vol v).current = none
          ∧ (u.vol v).queue = (s.vol v).queue ∧ (∀ w, w ≠ v → u.vol w = s.vol w)
          ∧ u.outbox = s.outbox ++ [⟨[v.master], ⟨.volumeIdle, v.num, (s.vol v).currentTag, 0, 0, 0⟩⟩])
      ∧ (∀ h, (s.vol v).state = .safing → (s.vol v).hold = some h →
        ∃ u, exec (.windDownEnd v) s = .next (finish u) ∧ (u.vol v).state = .hold
          ∧ (u.vol v).hold = some h ∧ (u.vol v).current = (s.vol v).current ∧ (∀ w, w ≠ v → u.vol w = s.vol w)
          ∧ u.outbox = s.outbox
              ++ [⟨[v.master], ⟨.volumeHold, v.num, h.tag, h.cause.code, failCode h.failure, 0⟩⟩]))
    ∧ (∀ (s : State) (v : Volume), s.drained v = false → exec (.windDownEnd v) s = .next s)
    ∧ (∀ (s : State) (v : Volume), s.drained v = true ↔ ∀ c k, v = .ch c → (s.row c k).commitment = 0)
    ∧ failCode none = 0 ∧ (∀ f : FailKind, failCode (some f) = f.code)
    ∧ ∀ (s : State) (c : Chamber) (r : StepRecord), inPhase s (.ch c) .transition = some r →
      ((∃ f ∈ r.flows, (s.row c f.chan).inFlight = true) → exec (.transitionEnd c) s = .next s)
      ∧ ((∀ f ∈ r.flows, (s.row c f.chan).inFlight = false) →
        ∃ u, exec (.transitionEnd c) s = .next (finish u)
          ∧ (r.kind = .gas → (u.vol (.ch c)).phase = .settle ∧ (u.vol (.ch c)).settleCount = 0)
          ∧ (r.kind = .strike → (u.vol (.ch c)).phase = .ignite ∧ (u.reuOf c).rfOn = true
              ∧ (u.reuOf c).powerCode = r.power * 4095 / 3000 ∧ (u.reuOf c).strikeTimer = 0)
          ∧ (r.kind = .etch → (u.vol (.ch c)).phase = .etch ∧ (u.reuOf c).rfOn = true
              ∧ (u.reuOf c).powerCode = r.power * 4095 / 3000
              ∧ (u.reuOf c).gated = 0 ∧ (u.reuOf c).dropout = 0 ∧ (u.reuOf c).endGated = r.duration
              ∧ (r.endpoint.isSome = true → u.detector c = ⟨true, 0, 0, none⟩)))

/-- R104, R106, R107: GAS_ADMISSION admits the oldest entry that passes the test, unless the oldest of all fails with its age
above the overtake limit; the admitted channels start their transitions, at once for a jump and from the next step tick for a
ramp (R115), and the chamber's step leaves WAIT_GAS (R92, R135). R100, R104, R111: the increases and totals that the test
reads. R98: when a completion is the final write. R111: the header state is tested at each change of
the total, at an admission, a final write and a release; a change of it posts HEADER_CHANGED with the total to the masters of
the fitted chambers. -/
def Obligations.GasAdmissionOrder : Prop :=
  (∀ (s : State) (e : GasEntry) (rest : List GasEntry), s.gat.queue = e :: rest →
    (admissible s e = true → exec .gasAdmission s = .next (finish (admitEntry e s)))
    ∧ (admissible s e = false → s.items.overtakeLimit < ((s.vol (.ch e.chamber)).admissionCount : Int) →
        exec .gasAdmission s = .next s)
    ∧ (∀ pre f post, admissible s e = false → ((s.vol (.ch e.chamber)).admissionCount : Int) ≤ s.items.overtakeLimit →
        rest = pre ++ f :: post → (∀ g ∈ pre, admissible s g = false) → admissible s f = true →
        exec .gasAdmission s = .next (finish (admitEntry f s))))
    ∧ (∀ s : State, (∀ e ∈ s.gat.queue, admissible s e = false) → exec .gasAdmission s = .next s)
    ∧ (∀ (s : State) (e : GasEntry),
      (admissible s e = true ↔
          (∀ n, 1 ≤ n → n ≤ 10 → s.sourceTotal n + sourceIncrease s e n ≤ s.sourceCapacity n)
          ∧ (s.hlm.held = true → totalIncrease s e = 0) ∧ s.permit e.chamber = true ∧ s.hlm.trip = false)
      ∧ (∀ k, increase s e k = max (s.row e.chamber k).commitment (e.aims.get k).target - (s.row e.chamber k).commitment)
      ∧ totalIncrease s e = ([Chan.k1, .k2, .k3, .k4, .k5, .k6].map (increase s e)).sum
      ∧ (∀ n, sourceIncrease s e n = ([Chan.k1, .k2, .k3, .k4, .k5, .k6].map fun k =>
          if s.source e.chamber k = n then increase s e k else 0).sum)
      ∧ (∀ k, ((admitEntry e s).row e.chamber k).target = (e.aims.get k).target
          ∧ ((admitEntry e s).row e.chamber k).commitment
              = (if (s.row e.chamber k).target = (e.aims.get k).target ∧ (s.row e.chamber k).inFlight = false
                 then (s.row e.chamber k).commitment else max (s.row e.chamber k).commitment (e.aims.get k).target))
      ∧ (∀ c k, c ≠ e.chamber → (admitEntry e s).row c k = s.row c k ∧ (admitEntry e s).gen c k = s.gen c k)
      ∧ (∀ k,
        ((s.row e.chamber k).target = (e.aims.get k).target → (s.row e.chamber k).inFlight = false →
          (admitEntry e s).row e.chamber k = s.row e.chamber k ∧ (admitEntry e s).gen e.chamber k = s.gen e.chamber k)
        ∧ ((s.row e.chamber k).target ≠ (e.aims.get k).target ∨ (s.row e.chamber k).inFlight = true → ∀ g,
          g = (admitEntry e s).gen e.chamber k →
          ((admitEntry e s).row e.chamber k).inFlight = true ∧ ((admitEntry e s).check e.chamber k).deviation = 0
          ∧ g.target = (e.aims.get k).target ∧ g.ticks = (e.aims.get k).ticks ∧ g.left = (e.aims.get k).ticks
          ∧ g.cls = .normal ∧ (g.up = true ↔ (s.gen e.chamber k).posted ≤ (e.aims.get k).target)
          ∧ ((e.aims.get k).ticks = 0 → g.posted = (e.aims.get k).target
              ∧ ((s.device (.mfc e.chamber k)).failed = false →
                  PostStands (.mfc e.chamber k) (.flow (e.aims.get k).target) .normal (admitEntry e s)))
          ∧ (0 < (e.aims.get k).ticks → g.posted = (s.gen e.chamber k).posted ∧ g.accumulator = 0
              ∧ ∀ d, d = ((s.gen e.chamber k).posted : Int) - (e.aims.get k).target →
                g.quotient = d.natAbs / (e.aims.get k).ticks ∧ g.quotient * g.ticks + g.remainder = d.natAbs)))
      ∧ (admitEntry e s).vol (.ch e.chamber) = { s.vol (.ch e.chamber) with
          phase := if (s.vol (.ch e.chamber)).phase ≠ .waitGas then (s.vol (.ch e.chamber)).phase
            else if (s.vol (.ch e.chamber)).current.map (·.kind) = some .purge then .fill else .transition }
      ∧ (∀ v, v ≠ .ch e.chamber → (admitEntry e s).vol v = s.vol v)
      ∧ admitEntry e s = { s with
          vols := (admitEntry e s).vols, gat := (admitEntry e s).gat, fru := (admitEntry e s).fru, dbc := (admitEntry e s).dbc,
          hlm := (admitEntry e s).hlm, outbox := (admitEntry e s).outbox }
      ∧ (admitEntry e s).gat.queue = s.gat.queue.filter fun f => f.chamber != e.chamber)
    ∧ (∀ s : State,
      s.headerTotal = ([Chamber.c1, .c2, .c3, .c4].map fun c => ([Chan.k1, .k2, .k3, .k4, .k5, .k6].map fun k =>
        (s.row c k).commitment).sum).sum
      ∧ (∀ n, s.sourceTotal n = ([Chamber.c1, .c2, .c3, .c4].map fun c => ([Chan.k1, .k2, .k3, .k4, .k5, .k6].map fun k =>
        if s.source c k = n then (s.row c k).commitment else 0).sum).sum)
      ∧ (∀ n, 1 ≤ n → s.sourceCapacity n = (s.items.sourceCapacity[n - 1]?.getD 0).toNat)
      ∧ (∀ c k, s.source c k = (s.items.sourceMap.getK c k).toNat)
      ∧ (∀ c, s.permit c = true ↔ s.fn .facilityGasOk = true ∧ s.fn .exhaustOk = true ∧ s.gat.enable.get c = true
          ∧ s.fn .emergencyOff = false)
      ∧ (∀ c, s.inGasQueue c = true ↔ ∃ e ∈ s.gat.queue, e.chamber = c)
      ∧ ∀ c k, isFinalWrite s c k = true ↔ (s.row c k).inFlight = true ∧ (s.gen c k).left = 0
          ∧ (s.gen c k).posted = (s.row c k).target ∧ (s.device (.mfc c k)).pending = none)
    ∧ (∀ s : State,
      (heldAt s.items s.hlm.held s.headerTotal = s.hlm.held → headerTest s = s)
      ∧ (heldAt s.items s.hlm.held s.headerTotal ≠ s.hlm.held → headerTest s = { s with
          hlm := { s.hlm with held := !s.hlm.held }
          outbox := s.outbox ++ [⟨(Chamber.all.filter fun c => s.fitted (.ch c)).map Link.cc,
            ⟨.headerChanged, 0, 0, if s.hlm.held then 0 else 1, 0, s.headerTotal⟩⟩] }))
    ∧ ∀ (e : GasEntry) (c : Chamber) (k : Chan) (s : State),
      (admitEntry e s).hlm.held = heldAt s.items s.hlm.held (admitEntry e s).headerTotal
      ∧ (isFinalWrite s c k = true →
          (finalWrite c k s).hlm.held = heldAt s.items s.hlm.held (finalWrite c k s).headerTotal)
      ∧ (releaseChannel c k s).hlm.held = heldAt s.items s.hlm.held (releaseChannel c k s).headerTotal

/-! ## The device bus -/

/-- R122, R123: what TRANSACTION_START leads to on a free bus, line by line of the arbiter's table, and on a busy one. The most
urgent write is a pending one that no other goes before: class 1 before class 2, oldest first within a class. R123: the poll
is made in SERVING alone, and takes the first entry from the scan position onward, wrapping, whose device is OK. -/
def Obligations.ArbiterChoice : Prop :=
  (∀ s : State,
    (s.dbc.inFlight.isSome = true → exec .transactionStart s = .next s)
    ∧ (s.dbc.inFlight = none → mostUrgent s = none → nextPoll s = none → exec .transactionStart s = .next s)
    ∧ (∀ d w, s.dbc.inFlight = none → mostUrgent s = some (d, w) → (s.dbc.writes ≠ 8 ∨ nextPoll s = none) →
        ∃ t, exec .transactionStart s = .next t ∧ t.dbc.inFlight = some ⟨d, .set w, 0, false⟩
          ∧ (t.device d).pending = none ∧ (∀ e, e ≠ d → t.device e = s.device e)
          ∧ t.dbc.writes = min 8 (s.dbc.writes + 1) ∧ t.dbc.scanPos = s.dbc.scanPos
          ∧ t = { s with dbc := t.dbc })
    ∧ (∀ n e, s.dbc.inFlight = none → nextPoll s = some (n, e) →
        (mostUrgent s = none ∨ (mostUrgent s).isSome = true ∧ s.dbc.writes = 8) →
        ∃ t, exec .transactionStart s = .next t ∧ t.dbc.inFlight = some ⟨e, .read, 0, false⟩ ∧ t.dbc.writes = 0
          ∧ t.dbc.scanPos = (if n < s.scanList.length then n + 1 else 1) ∧ (∀ d, t.device d = s.device d)
          ∧ t = { s with dbc := t.dbc }))
    ∧ (∀ (s : State) (d : Device) (w : PendingWrite), mostUrgent s = some (d, w) →
        (s.device d).pending = some w
        ∧ ∀ e x, (s.device e).pending = some x →
            (w.cls = .urgent ∨ x.cls = .normal) ∧ (w.cls = x.cls → w.age ≤ x.age))
    ∧ (∀ s : State, mostUrgent s = none ↔ ∀ d, (s.device d).pending = none)
    ∧ ∀ s : State, (s.cfg.serving = false → nextPoll s = none)
      ∧ (s.cfg.serving = true → (nextPoll s = none ↔ ∀ d ∈ s.scanList, (s.device d).failed = true))
      ∧ (s.cfg.serving = true → 1 ≤ s.dbc.scanPos → s.dbc.scanPos ≤ s.scanList.length → ∀ n e,
          (nextPoll s = some (n, e) ↔ ∃ i, i < s.scanList.length ∧ n = (s.dbc.scanPos - 1 + i) % s.scanList.length + 1
            ∧ s.scanList[n - 1]? = some e ∧ (s.device e).failed = false
            ∧ ∀ j, j < i → ∀ d, s.scanList[(s.dbc.scanPos - 1 + j) % s.scanList.length]? = some d →
                (s.device d).failed = true))
      ∧ (s.items.scanEntry.length = 32 → (∀ a ∈ s.items.scanEntry, 1 ≤ a ∧ a ≤ 28) → 0 ≤ s.items.scanLength →
          s.items.scanLength ≤ 32 → (s.scanList.length : Int) = s.items.scanLength
            ∧ ∀ (i : Nat) (d : Device), s.scanList[i]? = some d ↔
                (i : Int) < s.items.scanLength ∧ s.items.scanEntry[i]? = some (d.addr : Int))

/-- R121: the three results of a post. -/
def Obligations.PostTable : Prop :=
  ∀ (d : Device) (x : BusValue) (k : WriteClass) (s : State),
    ((s.device d).failed = true → placeWrite d x k s = s)
    ∧ ((s.device d).failed = false → (s.device d).pending = none →
        ((placeWrite d x k s).device d).pending = some ⟨x, k, s.dbc.nextAge⟩
        ∧ (placeWrite d x k s).dbc.nextAge = s.dbc.nextAge + 1)
    ∧ (∀ w, (s.device d).failed = false → (s.device d).pending = some w →
        ∃ c, ((placeWrite d x k s).device d).pending = some ⟨x, c, w.age⟩
          ∧ (c = .urgent ↔ w.cls = .urgent ∨ k = .urgent) ∧ (placeWrite d x k s).dbc.nextAge = s.dbc.nextAge)
    ∧ (∀ e, e ≠ d → (placeWrite d x k s).device e = s.device e)
    ∧ placeWrite d x k s = { s with dbc := (placeWrite d x k s).dbc }

/-- R124, R125: a good answer sets the written value, or stores the reading, and clears the consecutive count; an MFC's written
value is then tested as the final write of its transition (R98), and its reading checked for deviation (R130), and the
completion's event ends with the bus free and the arbiter's next choice (R120, R122). That everything the completion leads to
has settled before the bus is free and the arbiter chooses is deduced (notes/assumptions/16.md). R131: the outcome of a
transaction that a RESTART met is discarded, whatever answers it: the bus is free, and no written value, reading or count
changes. The model's choices: with nothing in flight an answer row, and an answer that fits another kind of transaction,
changes nothing (notes/assumptions/18.md), and RESPONSE_TIMEOUT changes nothing then (notes/assumptions/4.md). -/
def Obligations.GoodAnswersTaken : Prop :=
  (∀ (s : State) (d : Device) (w : PendingWrite) (n : Nat), s.dbc.inFlight = some ⟨d, .set w, n, false⟩ →
      ∃ t, exec .setGoodAnswer s = .next t ∧ (t.device d).written = some w.value ∧ (t.device d).consecutive = 0
        ∧ (t.device d).noAnswers = (s.device d).noAnswers ∧ (t.device d).failed = (s.device d).failed
        ∧ EventFrame s t
        ∧ ∀ u, u = s.setDevice d { s.device d with written := some w.value, consecutive := 0 } →
          t = finishBus (match d with | .mfc c k => finalWrite c k u | .throttle _ => u))
    ∧ (∀ (s : State) (d : Device) (r : Reading) (n : Nat), s.dbc.inFlight = some ⟨d, .read, n, false⟩ →
      readingFits d r = true →
      ∃ t, exec (.readGoodAnswer r) s = .next t ∧ (t.device d).reading = some r ∧ (t.device d).consecutive = 0
        ∧ (t.device d).written = (s.device d).written ∧ (t.device d).noAnswers = (s.device d).noAnswers
        ∧ EventFrame s t
        ∧ ∀ u, u = s.setDevice d { s.device d with reading := some r, consecutive := 0 } →
          (∀ c, d = .throttle c → t = finishBus u)
          ∧ ∀ c k f, d = .mfc c k → r = .flow f → t = finishBus (deviationCheck c k f u))
    ∧ (∀ (d : Device) (r : Reading), readingFits d r = true ↔
        (∃ c k f, d = .mfc c k ∧ r = .flow f) ∨ ∃ c x b, d = .throttle c ∧ r = .throttle x b)
    ∧ (∀ (s : State) (d : Device) (op : BusOp) (n : Nat), s.dbc.inFlight = some ⟨d, op, n, true⟩ →
      exec .busBadAnswer s = .next (finishBus s) ∧ exec .responseTimeout s = .next (finishBus s)
      ∧ (∀ w, op = .set w → exec .setGoodAnswer s = .next (finishBus s))
      ∧ (∀ r, op = .read → readingFits d r = true → exec (.readGoodAnswer r) s = .next (finishBus s)))
    ∧ (∀ s : State, finishBus s = flush (arbitrate { settle settleBound s with
          dbc := { (settle settleBound s).dbc with inFlight := none } })
        ∧ EventFrame s (finishBus s)
        ∧ (nextDue? s = none → s.outbox = [] →
            finishBus s = arbitrate { s with dbc := { s.dbc with inFlight := none } })
        ∧ ∀ e, (finishBus s).device e = { s.device e with pending := ((finishBus s).device e).pending })
    ∧ (∀ (s : State) (d : Device) (op : BusOp) (n : Nat) (b : Bool), s.dbc.inFlight = some ⟨d, op, n, b⟩ →
      (op = .read → exec .setGoodAnswer s = .next s)
      ∧ ∀ r, (op ≠ .read ∨ readingFits d r = false) → exec (.readGoodAnswer r) s = .next s)
    ∧ ∀ (s : State) (r : Reading), s.dbc.inFlight = none →
      exec .setGoodAnswer s = .next s ∧ exec (.readGoodAnswer r) s = .next s
        ∧ exec .busBadAnswer s = .next s ∧ exec .responseTimeout s = .next s

/-- R120, R124, R126, R127: a bad answer and a response timeout count a no-answer, and a value that was being written waits
again with its age; the third in a row makes the device FAILED, with its pending entry and written value dropped and an MFC's
channel released (stages 1 and 2), the step of a chamber whose waiting request lists the channel failed (stage 2, R99), the
chamber faulted by the table of stage 3 or only flagged, and DEVICE_FAILED posted (stage 4). Then the completion's event ends,
as GoodAnswersTaken states its end (notes/assumptions/16.md). That RESPONSE_TIMEOUT ends the transaction whatever its count is
the model's choice (notes/assumptions/4.md), and so is the tag of DEVICE_FAILED where the failure ends a wind-down in ENDING
(notes/assumptions/29.md). -/
def Obligations.NoAnswersCounted : Prop :=
  ∀ (s : State) (d : Device) (op : BusOp) (n : Nat) (i : Instr), i ∈ [.busBadAnswer, .responseTimeout] →
    s.dbc.inFlight = some ⟨d, op, n, false⟩ →
    ∃ u, exec i s = .next (finishBus u) ∧ EventFrame s (finishBus u)
      ∧ (u.device d).noAnswers = (if (s.device d).noAnswers < 255 then (s.device d).noAnswers + 1 else 255)
      ∧ (∀ e, e ≠ d → (u.device e).noAnswers = (s.device e).noAnswers ∧ (u.device e).failed = (s.device e).failed
          ∧ (u.device e).consecutive = (s.device e).consecutive ∧ (u.device e).written = (s.device e).written
          ∧ (u.device e).reading = (s.device e).reading)
      ∧ (u.device d).reading = (s.device d).reading
      ∧ ((s.device d).consecutive < 2 → (u.device d).consecutive = (s.device d).consecutive + 1
          ∧ (u.device d).failed = (s.device d).failed ∧ (u.device d).written = (s.device d).written
          ∧ (op = .read → (u.device d).pending = (s.device d).pending)
          ∧ (∀ w, op = .set w → (s.device d).pending = none → (u.device d).pending = some w)
          ∧ (∀ w x, op = .set w → (s.device d).pending = some x →
              ∃ k, (u.device d).pending = some ⟨x.value, k, w.age⟩
                ∧ (k = .urgent ↔ w.cls = .urgent ∨ x.cls = .urgent))
          ∧ u.vols = s.vols ∧ u.gat = s.gat ∧ u.fru = s.fru ∧ u.reu = s.reu ∧ u.outbox = s.outbox)
      ∧ (2 ≤ (s.device d).consecutive → (u.device d).failed = true ∧ (u.device d).consecutive = 3
          ∧ (u.device d).pending = none ∧ (u.device d).written = none
          ∧ (s.fitted (.ch d.chamber) = true → (u.vol (.ch d.chamber)).hasFlag .deviceFailed = true)
          ∧ (∀ c k, d = .mfc c k → u.row c k = ⟨0, 0, false⟩ ∧ (u.gen c k).posted = 0 ∧ (u.gen c k).left = 0)
          ∧ (∀ v, v ≠ .ch d.chamber → u.vol v = s.vol v)
          ∧ (∀ c k r, d = .mfc c k → (s.vol (.ch c)).state = .running → (s.vol (.ch c)).current = some r →
              s.inGasQueue c = true → (∃ f ∈ r.flows, f.chan = k) →
              (u.vol (.ch c)).lastEnd = some ⟨r.tag, r.kind, .failed, some .deviceFailed, none⟩
              ∧ u.inGasQueue c = false
              ∧ (r.onFail = .hold → (u.vol (.ch c)).state = .safing
                  ∧ (u.vol (.ch c)).hold = some ⟨.stepFailed, some .deviceFailed, r.tag, (s.vol (.ch c)).phase⟩)
              ∧ (r.onFail = .abort → (u.vol (.ch c)).state = .ending ∧ (u.vol (.ch c)).hold = none))
          ∧ (s.fitted (.ch d.chamber) = true → (s.vol (.ch d.chamber)).state = .running →
              ((∃ c k, d = .mfc c k ∧ 0 < (s.row c k).commitment
                  ∧ ∀ r, (s.vol (.ch c)).current = some r → s.inGasQueue c = true → ∀ f ∈ r.flows, f.chan ≠ k)
                ∨ (∃ c r, d = .throttle c ∧ (s.vol (.ch c)).current = some r ∧ r.kind.isGas = true)) →
              (u.vol (.ch d.chamber)).state = .safing
              ∧ (u.vol (.ch d.chamber)).hold
                  = some ⟨.deviceFailed, none, (s.vol (.ch d.chamber)).currentTag, (s.vol (.ch d.chamber)).phase⟩)
          ∧ ((s.vol (.ch d.chamber)).state ≠ .running
                ∨ (∃ c k, d = .mfc c k ∧ (s.row c k).commitment = 0
                  ∧ ∀ r, (s.vol (.ch c)).current = some r → s.inGasQueue c = true → ∀ f ∈ r.flows, f.chan ≠ k)
                ∨ (∃ c, d = .throttle c ∧ ∀ r, (s.vol (.ch c)).current = some r → r.kind.isGas = false) →
              u.vol (.ch d.chamber) = { s.vol (.ch d.chamber) with flags := (u.vol (.ch d.chamber)).flags })
          ∧ (s.fitted (.ch d.chamber) = true → ∃ q, u.outbox = q ++ [⟨[.cc d.chamber],
              ⟨.deviceFailed, d.chamber.num, (s.vol (.ch d.chamber)).currentTag, 0, d.addr, 0⟩⟩]))

/-- R98: the final-write test and what it does; any other completion changes nothing in GAT. R130: when the deviation check is
made and what a reading does to the deviation count. -/
def Obligations.AnswersOfMfcs : Prop :=
  (∀ (c : Chamber) (k : Chan) (s : State),
    (((s.row c k).inFlight = true ∧ (s.gen c k).left = 0 ∧ (s.gen c k).posted = (s.row c k).target
        ∧ (s.device (.mfc c k)).pending = none) →
      (finalWrite c k s).row c k = ⟨(s.row c k).target, (s.row c k).target, false⟩
      ∧ ((finalWrite c k s).check c k).settle = 0
      ∧ (∀ d j, (d, j) ≠ (c, k) → (finalWrite c k s).row d j = s.row d j)
      ∧ (finalWrite c k s).dbc.devices = s.dbc.devices ∧ (finalWrite c k s).vols = s.vols)
    ∧ (((s.row c k).inFlight = false ∨ (s.gen c k).left ≠ 0 ∨ (s.gen c k).posted ≠ (s.row c k).target
        ∨ (s.device (.mfc c k)).pending.isSome = true) → finalWrite c k s = s))
    ∧ ∀ (c : Chamber) (k : Chan) (f : Nat) (s : State),
      (¬((s.vol (.ch c)).state = .running ∧ (s.row c k).inFlight = false ∧ 0 < (s.row c k).target
          ∧ s.items.settleTime.get c ≤ ((s.check c k).settle : Int)) → deviationCheck c k f s = s)
      ∧ (((s.vol (.ch c)).state = .running ∧ (s.row c k).inFlight = false ∧ 0 < (s.row c k).target
          ∧ s.items.settleTime.get c ≤ ((s.check c k).settle : Int)) →
        (tolerance s c (s.row c k).target
            = max (s.items.toleranceFloor.get c).toNat ((s.row c k).target * (s.items.tolerancePercent.get c).toNat / 100))
        ∧ (((f : Int) - (s.row c k).target).natAbs ≤ tolerance s c (s.row c k).target →
            deviationCheck c k f s = s.setCheck c k { s.check c k with deviation := 0 })
        ∧ (tolerance s c (s.row c k).target < ((f : Int) - (s.row c k).target).natAbs →
            (((s.check c k).deviation : Int) + 1 < s.items.debounce.get c →
              deviationCheck c k f s = s.setCheck c k { s.check c k with deviation := (s.check c k).deviation + 1 })
            ∧ (s.items.debounce.get c ≤ ((s.check c k).deviation : Int) + 1 →
              deviationCheck c k f s
                = failStep (.ch c) .flowDeviation (s.setCheck c k { s.check c k with deviation := 0 }))))

/-! ## Field lines -/

/-- R152, R153: after INPUT_LINE_READ every input function has the value its lines give, by AND, or by OR for
EMERGENCY_OFF. Each function that changes is an event of its own, taken in ascending number (the order is the model's choice,
notes/assumptions/8.md). What the changes do: R110, the loss of FACILITY_GAS_OK or EXHAUST_OK; R88 and R84, TURBO; R134, R138
and R140, PLASMA; a change of LID or DOOR and the end of EMERGENCY_OFF change nothing but the function. -/
def Obligations.InputLinesRead : Prop :=
  (∀ (x : BitVec 24) (s : State), ∃ t, exec (.inputLineRead x) s = .next t ∧ t.flu.levels = some x
      ∧ (∀ f, t.fn f = functionValue s.items (some x) f)
      ∧ t.cfg = s.cfg ∧ t.tiu = s.tiu ∧ t.pec.gauges = s.pec.gauges ∧ t.base = s.base ∧ t.pending = s.pending
      ∧ t.gat.enable = s.gat.enable)
    ∧ (∀ (t : Items) (x : BitVec 24) (n : Nat), lineAsserted t (some x) n = true ↔
        (x.getLsbD (n - 1) = true ↔ atPlace t.inputPolarity n = 0))
    ∧ (∀ (t : Items) (n : Nat), lineAsserted t none n = false)
    ∧ (∀ (p : List Int) (n : Nat), 1 ≤ n → atPlace p n = p[n - 1]?.getD 0)
    ∧ (∀ (t : Items) (x : Option (BitVec 24)) (f : InputFn), f ≠ .emergencyOff →
        (functionValue t x f = true ↔
          (∃ n, 1 ≤ n ∧ n ≤ 24 ∧ atPlace t.inputMap n = f.num)
          ∧ ∀ n, 1 ≤ n → n ≤ 24 → atPlace t.inputMap n = f.num → lineAsserted t x n = true))
    ∧ (∀ (t : Items) (x : Option (BitVec 24)), functionValue t x .emergencyOff = true ↔
        ∃ n, 1 ≤ n ∧ n ≤ 24 ∧ atPlace t.inputMap n = 3 ∧ lineAsserted t x n = true)
    ∧ (∀ (x : BitVec 24) (s : State), exec (.inputLineRead x) s
        = .next (InputFn.all.foldl updateFunction { s with flu := { s.flu with levels := some x } }))
    ∧ InputFn.all.map InputFn.num = [1, 2, 3, 4, 5, 6, 7, 8, 9, 10, 11, 12, 13, 14, 15, 16, 17, 18]
    ∧ (∀ (f : InputFn) (s : State),
        (functionValue s.items s.flu.levels f = s.fn f → updateFunction s f = s)
        ∧ (functionValue s.items s.flu.levels f = !s.fn f → updateFunction s f = finish (functionChanged f (!s.fn f) s)))
    ∧ (∀ (f : InputFn) (x : Bool) (s : State), ∃ u,
        u = { s with flu := { s.flu with fns := u.flu.fns } } ∧ u.fn f = x ∧ (∀ g, g ≠ f → u.fn g = s.fn g)
        ∧ (functionChanged f x s).flu = u.flu
        ∧ ((∃ c, f = .lid c) ∨ (∃ d, f = .door d) ∨ (f = .emergencyOff ∧ x = false) → functionChanged f x s = u)
        ∧ (f = .facilityGasOk ∨ f = .exhaustOk →
          (x = true → functionChanged f x s = u)
          ∧ (x = false → s.fn f = true → ∀ v,
            (v.chamber? = none → (functionChanged f x s).vol v = s.vol v)
            ∧ ∀ c, v = .ch c →
              (s.permit c = false → (functionChanged f x s).vol v = s.vol v)
              ∧ (s.permit c = true → s.fitted v = true →
                ((functionChanged f x s).vol v).hasFlag .permitLost = true
                ∧ (((s.vol v).state = .running ∨ (s.vol v).state = .ending) → s.hasCommitment c = true →
                    ((functionChanged f x s).vol v).state = .safing
                    ∧ ∃ h, ((functionChanged f x s).vol v).hold = some h ∧ h.cause = .permitLost)
                ∧ ((s.vol v).state = .safing ∨ (s.vol v).state = .hold ∨ (s.vol v).state = .idle
                      ∨ s.hasCommitment c = false →
                    (functionChanged f x s).vol v = { s.vol v with flags := ((functionChanged f x s).vol v).flags }))))
        ∧ (∀ t, f = .turbo t →
          (x = true ∨ s.gateOpen t.volume = false → functionChanged f x s = u)
          ∧ (x = false → s.gateOpen t.volume = true →
            ((s.vol t.volume).state = .running ∨ (s.vol t.volume).state = .ending → s.fitted t.volume = true →
                ((functionChanged f x s).vol t.volume).state = .safing ∧ (functionChanged f x s).gateOpen t.volume = false
                ∧ ∃ h, ((functionChanged f x s).vol t.volume).hold = some h ∧ h.cause = .turboLost)
            ∧ ((s.vol t.volume).state = .safing ∨ (s.vol t.volume).state = .hold ∨ (s.vol t.volume).state = .idle →
                functionChanged f x s = u.setGate t.volume false)))
        ∧ ∀ c, f = .plasma c →
          (∀ r, inPhase s (.ch c) .confirm = some r → x = false → functionChanged f x s
            = (u.modVol (.ch c) fun y => { y with phase := .ignite }).modReu c fun y => { y with confirmCount := 0 })
          ∧ (∀ r, inPhase s (.ch c) .etch = some r → x = true →
              functionChanged f x s = u.modReu c fun y => { y with dropout := 0 })
          ∧ ((inPhase s (.ch c) .confirm = none ∨ x = true) → (inPhase s (.ch c) .etch = none ∨ x = false) →
              functionChanged f x s = u))
    ∧ ∀ (s : State),
      (∀ t : Turbo, ∀ r, inPhase s t.volume .turboWait = some r →
        (s.fn (.turbo t) = true → turboReady? t.volume s
          = some ((s.modVol t.volume fun x => { x with phase := .highPump }).setGate t.volume true))
        ∧ (s.fn (.turbo t) = false → turboReady? t.volume s = none))
      ∧ ∀ (c : Chamber) (r : StepRecord), inPhase s (.ch c) .ignite = some r →
        (s.fn (.plasma c) = true → plasmaLit? c s = some
          ((s.modVol (.ch c) fun x => { x with phase := .confirm }).modReu c fun u => { u with confirmCount := 0 }))
        ∧ (s.fn (.plasma c) = false → plasmaLit? c s = none)

/-- R59, R101, R110, R154: the assertion of EMERGENCY_OFF winds down every fitted volume that is RUNNING or ENDING, closes
every gate and vent, and while it stands no source valve and no overridden line is open. R155: in SERVING a line that the
override does not act on carries its owner's command through its polarity; in CONFIGURING every line is closed or off. R101,
R156: when a source valve and a final valve are commanded open. The 45 lines are those of R155's table, in its order. -/
def Obligations.EmergencyOffAssertion : Prop :=
  (∀ s : State, s.fn .emergencyOff = false →
      (∀ v, ((functionChanged .emergencyOff true s).vol v).ventOpen = false
        ∧ (functionChanged .emergencyOff true s).gateOpen v = false)
      ∧ (∀ v, s.fitted v = true → (s.vol v).state = .running ∨ (s.vol v).state = .ending →
          ((functionChanged .emergencyOff true s).vol v).state = .safing
          ∧ ∃ h, ((functionChanged .emergencyOff true s).vol v).hold = some h ∧ h.cause = .emergencyOff)
      ∧ (∀ v, (s.vol v).state = .safing ∨ (s.vol v).state = .hold ∨ (s.vol v).state = .idle →
          ((functionChanged .emergencyOff true s).vol v).state = (s.vol v).state
          ∧ ((functionChanged .emergencyOff true s).vol v).hold = (s.vol v).hold)
      ∧ (∀ c, s.fitted (.ch c) = true → s.permit c = true →
          ((functionChanged .emergencyOff true s).vol (.ch c)).hasFlag .permitLost = true)
      ∧ (functionChanged .emergencyOff true s).tiu = s.tiu)
    ∧ (∀ s : State, s.fn .emergencyOff = true →
      (∀ c, s.permit c = false) ∧ (∀ n, s.sourceOpen n = false)
      ∧ ∀ o, lineDriven s o = true → (∃ w, o = .slit w) ∨ (∃ c, o = .rfEn c) ∨ ∃ d, o = .doorPermit d)
    ∧ (∀ s : State, s.cfg.serving = false → ∀ n o, lineDriven s o = false
        ∧ (lineEnergised s n o = true ↔ atPlace s.items.outputPolarity n ≠ 0))
    ∧ (∀ s : State, s.cfg.serving = true → ∀ n o,
        (s.fn .emergencyOff = false ∨ (∃ w, o = .slit w) ∨ (∃ c, o = .rfEn c) ∨ (∃ d, o = .doorPermit d) →
          lineDriven s o = lineCommand s o)
        ∧ (lineEnergised s n o = true ↔ (lineDriven s o = true ↔ atPlace s.items.outputPolarity n = 0)))
    ∧ (∀ s : State, (∀ v, lineCommand s (.rough v) = (s.vol v).roughOpen ∧ lineCommand s (.vent v) = (s.vol v).ventOpen)
        ∧ (∀ t : Turbo, lineCommand s (.gate t) = s.gateOpen t.volume ∧ s.gateOpen t.volume = s.gates.getT t)
        ∧ (∀ d, s.gateOpen (.ll d) = false) ∧ (∀ c, lineCommand s (.final c) = s.finalOpen c)
        ∧ (∀ n, lineCommand s (.src n) = s.sourceOpen n)
        ∧ (∀ c, (lineCommand s (.final c) = true ↔
              (s.vol (.ch c)).state = .running ∧ ∃ k, 0 < (s.row c k).commitment)
            ∧ lineCommand s (.rfEn c) = (s.reuOf c).rfOn)
        ∧ (∀ w, lineCommand s (.slit w) = s.tiu.slits.get w) ∧ (∀ d, lineCommand s (.doorPermit d) = s.tiu.doors.get d)
        ∧ ∀ n, lineCommand s (.src n) = true ↔
            (∃ c k, s.source c k = n ∧ 0 < (s.row c k).commitment) ∧ s.fn .emergencyOff = false)
    ∧ outLines.length = 45
    ∧ (∀ c : Chamber, (outLines.drop (6 * (c.num - 1))).take 6
        = [.rough (.ch c), .gate (.ch c), .vent (.ch c), .final c, .slit (.ch c), .rfEn c])
    ∧ (outLines.drop 24).take 11 = [.rough .tc, .gate .tc, .vent .tc,
        .rough (.ll .a), .vent (.ll .a), .slit (.ll .a), .doorPermit .a,
        .rough (.ll .b), .vent (.ll .b), .slit (.ll .b), .doorPermit .b]
    ∧ outLines.drop 35 = [.src 1, .src 2, .src 3, .src 4, .src 5, .src 6, .src 7, .src 8, .src 9, .src 10]

/-! ## Master links -/

/-- R158 to R161: a frame with a wrong length or check is discarded and counted. A good one restarts the silence timer and
returns a LOST link to UP; with none in service it is taken, by its request's form, and its reply becomes the one in
service; else it is answered BUSY or dropped. REPLY_SENT: the reply in service leaves service and a waiting BUSY is sent
next; a BUSY being sent ends and the reply in service follows it. R158: replies use the framing of requests: A5, the length,
the body, the check high character first; every reply's frame is one that the check takes for good, and it is what the port
sends. R160, Tables 10-1, 10-4 and 10-5: a body has a request's form exactly when it is the layout of that request under its
code, and a request whose fixed bits are not what its layout fixes is refused FORMAT. R158: the check is the CRC-16 of length
and body, x^16 + x^12 + x^5 + 1, most significant bit first, from FFFF. -/
def Obligations.FramesTaken : Prop :=
  (∀ (l : Link) (body : List Byte) (k : Word16) (s : State),
      (body.length < 2 ∨ 60 < body.length ∨ frameCheck body ≠ k) →
      exec (.frameReceived l body k) s = .next (s.setPort l
        { s.port l with assembling := false,
                        frameErrors := if (s.port l).frameErrors < 65535 then (s.port l).frameErrors + 1 else 65535 }))
    ∧ (∀ (l : Link) (kind tag : Byte) (rest : List Byte) (s : State), rest.length ≤ 58 →
      (s.port l).inService = none →
      (readRequest kind.toNat rest = none →
        ∃ t, exec (.frameReceived l (kind :: tag :: rest) (frameCheck (kind :: tag :: rest))) s = .next t
          ∧ (t.port l).inService = some ⟨kind, tag, .refused, some .format, []⟩
          ∧ ((s.port l).busy = none → t.transmitted l = some (frame [kind, tag, 3#8, 7#8]))
          ∧ (∀ v, t.vol v = s.vol v) ∧ (∀ m, m ≠ l → t.port m = s.port m) ∧ t.cfg = s.cfg)
      ∧ (∀ req, readRequest kind.toNat rest = some req →
        ∃ t, exec (.frameReceived l (kind :: tag :: rest) (frameCheck (kind :: tag :: rest))) s = .next t
          ∧ (t.port l).inService = some ((take l req (hear l s)).2.reply kind tag)
          ∧ ((s.port l).busy = none → t.transmitted l = some (frame ((take l req (hear l s)).2.reply kind tag).body))
          ∧ (∀ m, m ≠ l → t.port m = (take l req (hear l s)).1.port m)
          ∧ t = { (take l req (hear l s)).1 with ports := t.ports }))
    ∧ (∀ (l : Link) (kind tag : Byte) (rest : List Byte) (r : Reply) (s : State), rest.length ≤ 58 →
      (s.port l).inService = some r →
      ((s.port l).busy = none →
        exec (.frameReceived l (kind :: tag :: rest) (frameCheck (kind :: tag :: rest))) s
          = .next ((hear l s).setPort l { (hear l s).port l with busy := some ⟨kind, tag, false⟩ }))
      ∧ (∀ b, (s.port l).busy = some b →
        exec (.frameReceived l (kind :: tag :: rest) (frameCheck (kind :: tag :: rest))) s = .next (hear l s)))
    ∧ (∃ f : Word16 → Word16, (∀ c, f c = if c.msb then (c <<< 1) ^^^ 0x1021#16 else c <<< 1)
        ∧ ∀ body, frameCheck body
          = (BitVec.ofNat 8 body.length :: body).foldl (fun (c : Word16) (b : Byte) =>
              f^[8] (c ^^^ ((b.setWidth 16 : Word16) <<< (8 : Nat)))) 0xFFFF#16)
    ∧ (∀ (l : Link) (r : Reply) (s : State),
        ((s.port l).lastReply = some r → s.transmitted l = some (frame r.body))
        ∧ hear l s = s.setPort l { s.port l with
            assembling := false, lost := false, silence := ((hear l s).port l).silence })
    ∧ (∀ (l : Link) (s : State), ((hear l s).port l).lost = false ∧ ((hear l s).port l).assembling = false
      ∧ (∀ n, (s.port l).silence = some n → (s.port l).lost = false → ((hear l s).port l).silence = some 0)
      ∧ ((s.port l).silence = none → (s.port l).lost = false → ((hear l s).port l).silence = none)
      ∧ ((s.port l).lost = true → s.cfg.serving = true → ((hear l s).port l).silence = some 0)
      ∧ ((s.port l).lost = true → s.cfg.serving = false → ((hear l s).port l).silence = (s.port l).silence))
    ∧ (∀ (l : Link) (s : State),
      ((s.port l).busy = none → exec (.replySent l) s = .next (s.setPort l { s.port l with inService := none }))
      ∧ (∀ b r, (s.port l).busy = some b → b.sending = false → (s.port l).inService = some r →
          ∃ t, exec (.replySent l) s = .next t ∧ (t.port l).inService = none
            ∧ (t.port l).busy = some ⟨b.kind, b.tag, true⟩ ∧ (t.port l).lastReply = some ⟨b.kind, b.tag, .busy, none, []⟩
            ∧ t.transmitted l = some (frame [b.kind, b.tag, 2#8, 0#8])
            ∧ t = s.setPort l (t.port l))
      ∧ (∀ b, (s.port l).busy = some b → b.sending = true →
          ∃ t, exec (.replySent l) s = .next t ∧ (t.port l).busy = none ∧ (t.port l).inService = (s.port l).inService
            ∧ (∀ r, (s.port l).inService = some r → (t.port l).lastReply = some r ∧ t.transmitted l = some (frame r.body))
            ∧ t = s.setPort l (t.port l)))
    ∧ (∀ body : List Byte, ∃ hi lo : Byte,
        frame body = 0xA5#8 :: BitVec.ofNat 8 body.length :: (body ++ [hi, lo])
        ∧ (hi ++ lo : Word16) = frameCheck body)
    ∧ (∀ (l : Link) (tag : Byte) (req : Request) (a : Answer) (u s : State),
        (answered l tag req a u).transmitted l = some (frame (a.reply req.char tag).body)
        ∧ frameGood ((take l req s).2.reply req.char tag).body (frameCheck ((take l req s).2.reply req.char tag).body) = true)
    ∧ (∀ (kind tag : Byte) (x : Reason) (data : List Byte),
        Reply.body ⟨kind, tag, .ok, none, data⟩ = kind :: tag :: 0#8 :: 0#8 :: data
        ∧ Reply.body ⟨kind, tag, .clamped, none, data⟩ = kind :: tag :: 1#8 :: 0#8 :: data
        ∧ Reply.body ⟨kind, tag, .refused, some x, data⟩ = kind :: tag :: 3#8 :: BitVec.ofNat 8 x.code :: data
        ∧ [Reason.state, .owner, .full, .short, .empty, .kind, .format, .range, .notFitted, .permit, .interlock,
            .config].map Reason.code = [1, 2, 3, 4, 5, 6, 7, 8, 9, 10, 11, 12])
    ∧ (∀ (kind : Nat) (rest : List Byte) (req : Request), readRequest kind rest = some req → kind = req.code ∧ rest = req.body)
    ∧ (∀ req : Request, req.wf = true → readRequest req.code req.body = some req)
    ∧ (∀ (v p n k : Nat) (x : Bool) (m : Word16) (b : Byte) (y : Int) (r : RawRecord),
        [Request.load v r, .run v, .hold v, .resume v, .clear v, .abort v, .gasEnable v x, .transferAllow v x, .openSlit v,
          .closeSlit v, .openDoor v, .closeDoor v, .readVolume v p, .readQueue v n p, .readSource p, .readChannel v k p,
          .readDevice v p, .readCounters v p, .readNotice, .readConfig n v p, .clearConditions v m, .resetCounters v,
          .clearDevice v, .setNoticeMask b, .writeConfig n v y, .closeConfiguration, .reopenConfiguration, .restart,
          .alive].map Request.code = (List.range 29).map (· + 1))
    ∧ (∀ (l : Link) (req : Request) (s : State), req.formed = false ∨ 58 < req.body.length →
        take l req s = (s, refuse .format))
    ∧ (∀ req : Request, req.formed = true ↔
        (∀ n r, req = .load n r → (∀ i, 3 ≤ i → r.flags.getLsbD i = false) ∧ r.flags.getLsbD 2 = r.endpoint.isSome
            ∧ ∀ e, r.endpoint = some e → ∀ i, 2 ≤ i → e.mode.getLsbD i = false)
        ∧ (∀ n m, req = .clearConditions n m → m.getLsbD 14 = false ∧ m.getLsbD 15 = false)
        ∧ ∀ m, req = .setNoticeMask m → m.getLsbD 7 = false)

/-- R161, R58: an expiry makes the link LOST, stops its timer and counts; no fitted volume of its master is left RUNNING or
ENDING, each is flagged, and its queue is discarded unless it was IDLE. A stopped timer expires nothing. That LINK_EXPIRY
expires a running timer whatever its count, and that it does nothing on a stopped one, is the model's choice
(notes/assumptions/4.md); the sample tick makes the test of R161. -/
def Obligations.LinkExpiryCourse : Prop :=
  (∀ (l : Link) (s : State), (s.port l).silence = none → exec (.linkExpiry l) s = .next s)
    ∧ ∀ (l : Link) (n : Nat) (s : State), (s.port l).silence = some n →
      ∃ t, exec (.linkExpiry l) s = .next t ∧ (t.port l).lost = true ∧ (t.port l).silence = none
        ∧ (t.port l).linkDowns = (if (s.port l).linkDowns < 255 then (s.port l).linkDowns + 1 else 0)
        ∧ (t.port l).mask = (s.port l).mask
        ∧ (∀ v, v.master = l → s.fitted v = true →
            (t.vol v).hasFlag .linkLost = true
            ∧ ((s.vol v).state = .idle → (t.vol v).state = .idle ∧ (t.vol v).queue = (s.vol v).queue)
            ∧ ((s.vol v).state ≠ .idle → (t.vol v).queue = []
                ∧ ((t.vol v).state = .safing ∨ (t.vol v).state = .hold))
            ∧ ((s.vol v).state = .running ∨ (s.vol v).state = .ending →
                ∃ h, (t.vol v).hold = some h ∧ h.cause = .linkLost)
            ∧ ((s.vol v).state = .safing ∨ (s.vol v).state = .hold → (t.vol v).hold = (s.vol v).hold))
        ∧ t.cfg = s.cfg ∧ t.flu = s.flu ∧ t.tiu = s.tiu ∧ t.gat.enable = s.gat.enable ∧ t.pec.gauges = s.pec.gauges

/-- R163: a notice is written, marked unread and counted modulo 8 where its kind is enabled, and dropped where it is not.
R60, R62: the notices of a newly set flag and of a step end. R62, R127: at the end of an event its notices are written, each
to its addressees, in an order in which none stands before one that must precede it: DEVICE_FAILED first; volume by volume in
ascending number, STEP_DONE, CONDITION by flag number, VOLUME_HOLD or VOLUME_IDLE; HEADER_CHANGED and SLIT_CHANGED last.
Notices that no rule orders stay as they arose (the model's choice, notes/assumptions/9.md). Table 10-2: the codes that notices
carry. -/
def Obligations.NoticesWrittenInOrder : Prop :=
  (∀ (n : Notice) (p : Port), p.mask.getLsbD (n.kind.code - 1) = true →
      (writeNotice n p).slot = some ⟨n, true⟩ ∧ (writeNotice n p).sequence = (p.sequence + 1) % 8
        ∧ (writeNotice n p).attention = true ∧ (writeNotice n p).besideNotice = p.besideNotice)
    ∧ (∀ (n : Notice) (p : Port), p.mask.getLsbD (n.kind.code - 1) = false → writeNotice n p = p)
    ∧ (∀ (v : Volume) (f : Flag) (s : State), s.fitted v = true → ∀ u,
      u = s.modVol v (fun x => { x with flags := x.flags ||| 1#14 <<< f.num }) →
      ((s.vol v).hasFlag f = true → setFlag v f s = u)
      ∧ ((s.vol v).hasFlag f = false → setFlag v f s = { u with
          outbox := s.outbox ++ [⟨[v.master], ⟨.condition, v.num, (s.vol v).currentTag, f.num, 0, 0⟩⟩] }))
    ∧ (∀ (v : Volume) (o : StepOutcome) (f : Option FailKind) (n : Option Note) (r : StepRecord) (s : State),
      (s.vol v).current = some r → ∀ u,
      u = s.modVol v (fun x => { x with lastEnd := some ⟨r.tag, r.kind, o, f, n⟩ }) →
      recordEnd v o f n s = { u with outbox := s.outbox
        ++ [⟨[v.master], ⟨.stepDone, v.num, r.tag, o.code, failCode f + (n.map Note.code).getD 0, 0⟩⟩] })
    ∧ [NoticeKind.stepDone, .volumeIdle, .volumeHold, .condition, .slitChanged, .deviceFailed, .headerChanged].map
        NoticeKind.code = [1, 2, 3, 4, 5, 6, 7]
    ∧ [StepOutcome.completed, .failed, .stopped].map StepOutcome.code = [1, 2, 3]
    ∧ [Note.cut, .noEndpoint].map Note.code = [1, 2]
    ∧ [FailKind.admitTimeout, .limitExceeded, .pumpStall, .turboWait, .lidOpen, .strikeFail, .plasmaLost, .endpointMissed,
        .flowDeviation, .deviceFailed].map FailKind.code = [1, 2, 3, 4, 5, 6, 7, 8, 9, 10]
    ∧ [HoldCause.requested, .stepFailed, .underflow, .linkLost, .headerTrip, .permitLost, .emergencyOff, .deviceFailed,
        .pressureTrip, .turboLost].map HoldCause.code = [1, 2, 3, 4, 5, 6, 7, 8, 9, 10]
    ∧ [Flag.stepOverflow, .underflow, .admitTimeout, .pumpRetry, .strikeRetry, .flowDeviation, .deviceFailed, .linkLost,
        .headerTrip, .pressureTrip, .permitLost, .endpointMissed, .manifoldTrip, .gaugeRange].map Flag.num = List.range 14
    ∧ (∀ (x : Vol) (f : Flag), x.hasFlag f = x.flags.getLsbD f.num
        ∧ x.currentTag = (match x.current with | some r => r.tag | none => 0))
    ∧ ∀ s : State, (∀ p ∈ s.outbox, p.addressees.Nodup ∧ p.notice.volume ≤ 7
          ∧ (p.notice.kind = .condition → p.notice.code ≤ 13)) →
      ∃ q : List Posting, q.Perm s.outbox ∧ (q.Pairwise fun a b => ¬ b.notice.mustPrecede a.notice)
        ∧ (∀ l, (flush s).port l
            = (q.filter fun p => p.addressees.contains l).foldl (fun x p => writeNotice p.notice x) (s.port l))
        ∧ (∀ pre a mid b post, s.outbox = pre ++ a :: mid ++ b :: post →
            ¬ a.notice.mustPrecede b.notice → ¬ b.notice.mustPrecede a.notice →
            ∃ pre' mid' post', q = pre' ++ a :: mid' ++ b :: post')
        ∧ flush s = { s with outbox := [], ports := (flush s).ports }

/-! ## Requests -/

/-- R38, R23, R160: LOAD, RUN, HOLD, RESUME, CLEAR and ABORT are refused RANGE, NOT_FITTED or OWNER, in that order, before any
test of their own, and change no state. R1, R28: the volumes by number with their masters, and which are fitted. -/
def Obligations.VolumeRequestChecks : Prop :=
  [Volume.ch .c1, .ch .c2, .ch .c3, .ch .c4, .tc, .ll .a, .ll .b].map Volume.num = [1, 2, 3, 4, 5, 6, 7]
  ∧ (∀ n v, Volume.ofNum n = some v ↔ n = v.num)
  ∧ (∀ c d, (Volume.ch c).master = .cc c ∧ Volume.tc.master = .txc ∧ (Volume.ll d).master = .txc)
  ∧ (∀ (s : State) (v : Volume), s.capacity v = (s.items.capacity.get v).toNat
      ∧ (s.fitted v = true ↔ 0 < s.items.capacity.get v))
  ∧ ∀ (l : Link) (tag : Byte) (n : Nat) (i : Instr) (req : Request) (s : State),
    (i, req) ∈ [(.run l tag n, .run n), (.hold l tag n, .hold n), (.resume l tag n, .resume n),
      (.clear l tag n, .clear n), (.abort l tag n, .abort n)] ∨
      (∃ r : RawRecord, (i, req) = (.load l tag n r, .load n r) ∧ (Request.load n r).fits = true
        ∧ (Request.load n r).formed = true) →
    (n = 0 ∨ 7 < n → exec i s = .next (answered l tag req (refuse .range) (hear l s)))
    ∧ ∀ v, Volume.ofNum n = some v →
        (s.fitted v = false → exec i s = .next (answered l tag req (refuse .notFitted) (hear l s)))
        ∧ (s.fitted v = true → v.master ≠ l → exec i s = .next (answered l tag req (refuse .owner) (hear l s)))

/-- R22, R24, R26: a LOAD that passes its checks appends the stored record at the tail and answers OK, or CLAMPED where a clamp
changed a value, with the new count; nothing else changes. R23: one that fails checks 4 to 14 is refused with the reason of
the first that fails, in the order of R23's table, and changes nothing. R27: one that passes them and finds no room is refused
FULL, counted and flagged, and the queue stands. No clamp changes a value exactly when every field that the kind uses is
stored as it was sent. -/
def Obligations.LoadCourse : Prop :=
  (∀ (l : Link) (tag : Byte) (n : Nat) (r : RawRecord) (v : Volume) (s : State),
    Volume.ofNum n = some v → s.fitted v = true → v.master = l →
    (Request.load n r).fits = true → (Request.load n r).formed = true →
    (∀ e, recordCheck v r s = .error e →
      exec (.load l tag n r) s = .next (answered l tag (.load n r) (refuse e) (hear l s)))
    ∧ (∀ k, recordCheck v r s = .ok k → (s.vol v).queue.length < s.capacity v → s.stored < 96 →
      exec (.load l tag n r) s
        = .next (answered l tag (.load n r)
            ⟨if clampChanges s v k r then .clamped else .ok, none, enc1 ((s.vol v).queue.length + 1)⟩
            ((hear l s).modVol v fun x => { x with queue := x.queue ++ [storeRecord s v k r] })))
    ∧ (∀ k, recordCheck v r s = .ok k → s.capacity v ≤ (s.vol v).queue.length ∨ 96 ≤ s.stored →
      ∃ u, exec (.load l tag n r) s = .next (answered l tag (.load n r) (refuse .full) (finish u))
        ∧ u.vol v = { s.vol v with
            flags := (u.vol v).flags
            counters := { (s.vol v).counters with overflow :=
              if (s.vol v).counters.overflow < 65535 then (s.vol v).counters.overflow + 1 else 65535 } }
        ∧ (∀ f, (u.vol v).hasFlag f = ((s.vol v).hasFlag f || f == .stepOverflow))
        ∧ (∀ w, w ≠ v → u.vol w = s.vol w)
        ∧ u = { hear l s with vols := u.vols, outbox := u.outbox }))
    ∧ (∀ s : State, s.stored = ([Volume.ch .c1, .ch .c2, .ch .c3, .ch .c4, .tc, .ll .a, .ll .b].map fun v =>
        (s.vol v).queue.length).sum)
    ∧ [Kind.pump, .vent, .purge, .dwell, .gas, .strike, .etch].map Kind.code = [1, 2, 3, 4, 5, 6, 7]
    ∧ (∀ (v : Volume) (r : RawRecord) (s : State),
      (r.kind = 0 ∨ 7 < r.kind → recordCheck v r s = .error .kind)
      ∧ ∀ k, k.code = r.kind →
        ((∀ p ∈ loadChecks s v k r, ¬p.1) → recordCheck v r s = .ok k)
        ∧ ∀ pre p post, loadChecks s v k r = pre ++ p :: post → (∀ q ∈ pre, ¬q.1) → p.1 →
          recordCheck v r s = .error p.2)
    ∧ ∀ (v : Volume) (r : RawRecord) (k : Kind) (x : StepRecord) (s : State), recordCheck v r s = .ok k →
      x = storeRecord s v k r →
      (clampChanges s v k r = false ↔
        (k = .pump ∨ k = .vent ∨ k = .purge ∨ k = .gas → x.limit = r.limit)
        ∧ (k = .pump ∨ k = .vent ∨ k = .purge ∨ (k.isGas = true ∧ r.window ≠ 0) → x.target = r.target)
        ∧ (k = .purge → x.floor = r.floor ∧ x.cycles = r.cycles)
        ∧ (k = .strike ∨ k = .etch → x.power = r.power) ∧ (k = .pump ∨ k = .strike → x.retries = r.retries)
        ∧ x.flows.map (fun f => (f.chan.num, f.target, f.ticks)) = r.flows.map (fun f => (f.chan, f.target, f.ticks)))

/-- R18 to R21, R23, R24: what every field of a stored record holds: where its kind uses it, what was sent, brought into range
by the clamps of R24; where it does not, its fixed value. So every field of a record that a body can carry lies in its range
of R18, R20 and R21. -/
def Obligations.StoredRecordInRange : Prop :=
  ∀ (v : Volume) (r : RawRecord) (k : Kind) (x : StepRecord) (s : State), recordCheck v r s = .ok k →
    x = storeRecord s v k r →
    x.kind = k ∧ x.tag = r.tag ∧ x.last = r.flags.getLsbD 0
    ∧ x.onFail = (if r.flags.getLsbD 1 then .abort else .hold)
    ∧ x.duration = (if k = .vent ∨ k = .dwell ∨ k = .gas ∨ k = .strike ∨ k = .etch then r.duration else 0)
    ∧ x.limit = (if k = .pump ∨ k = .vent ∨ k = .purge ∨ k = .gas then min r.limit 3600 else 0)
    ∧ x.target = (if k = .pump ∨ k = .vent ∨ k = .purge ∨ ((k = .gas ∨ k = .strike ∨ k = .etch) ∧ r.window ≠ 0)
        then max (-400) (min 600 r.target) else 0)
    ∧ x.floor = (if k = .purge then max (-400) (min 600 r.floor) else 0)
    ∧ x.window = (if k = .gas ∨ k = .strike ∨ k = .etch then r.window else 0)
    ∧ x.retries = (if k = .pump ∨ k = .strike then min r.retries 3 else 0)
    ∧ x.cycles = (if k = .purge then max 1 (min 32 r.cycles) else 1)
    ∧ (k = .pump ∨ k = .vent ∨ k = .purge ∨ k = .dwell ∨ k = .gas → x.power = 0)
    ∧ (k = .gas ∨ k = .strike ∨ k = .etch → ∃ c, v = .ch c)
    ∧ (∀ c, v = .ch c →
        (k = .strike ∨ k = .etch → x.power = min r.power (s.items.maxPower.get c).toNat)
        ∧ (∀ j, s.fullScale c j = (s.items.fullScale.getK c j).toNat ∧ s.source c j = (s.items.sourceMap.getK c j).toNat)
        ∧ x.flows.length = r.flows.length
        ∧ ∀ (i : Nat) (f : RawFlow), r.flows[i]? = some f → ∃ j, Chan.ofNum f.chan = some j
            ∧ x.flows[i]? = some ⟨j, min f.target (s.fullScale c j), f.ticks⟩ ∧ s.source c j ≠ 0)
    ∧ (k = .pump ∨ k = .vent ∨ k = .dwell ∨ v.chamber? = none → x.flows = [])
    ∧ (k = .purge → ∀ c, v = .ch c → x.flows.length = 1)
    ∧ (k ≠ .etch → r.endpoint = none) ∧ (r.endpoint = none → x.endpoint = none)
    ∧ (∀ e, r.endpoint = some e → x.endpoint = some
        ⟨e.threshold, if e.mode.getLsbD 0 then .fall else .rise, e.hysteresis, e.confirm, e.blanking, e.minTime, e.overEtch,
          e.mode.getLsbD 1⟩)
    ∧ (r.wf = true →
        x.tag ≤ 255 ∧ x.duration ≤ 65535 ∧ x.limit ≤ 3600 ∧ -400 ≤ x.target ∧ x.target ≤ 600 ∧ -400 ≤ x.floor
        ∧ x.floor ≤ 600 ∧ x.window ≤ 200 ∧ x.retries ≤ 3 ∧ 1 ≤ x.cycles ∧ x.cycles ≤ 32 ∧ x.flows.length ≤ 6
        ∧ (x.flows.map (·.chan)).Nodup ∧ (∀ f ∈ x.flows, f.ticks ≤ 6000)
        ∧ (∀ c, v = .ch c → x.power ≤ (s.items.maxPower.get c).toNat
            ∧ ∀ f ∈ x.flows, f.target ≤ s.fullScale c f.chan ∧ s.source c f.chan ≠ 0)
        ∧ ∀ e, x.endpoint = some e → e.threshold ≤ 4095 ∧ e.hysteresis ≤ 255 ∧ 1 ≤ e.confirm ∧ e.confirm ≤ 15
            ∧ e.blanking ≤ 65535 ∧ e.minTime ≤ 65535 ∧ e.overEtch ≤ 200)

/-- R39, R42, R41: the tests of RUN and of RESUME in order, with the interlock test, and their start of the head record: a step
that neither completes nor fails at its start leaves the volume RUNNING with the head as its current step and the rest of the
queue waiting (R30, R45), before what follows within the event. -/
def Obligations.RunAndResumeCourse : Prop :=
  (∀ (l : Link) (tag : Byte) (n : Nat) (v : Volume) (s : State),
    Volume.ofNum n = some v → s.fitted v = true → v.master = l →
    ((s.cfg.serving = false → exec (.run l tag n) s = .next (answered l tag (.run n) (refuse .config) (hear l s)))
      ∧ (s.cfg.serving = true →
        ((s.vol v).state ≠ .idle → exec (.run l tag n) s = .next (answered l tag (.run n) (refuse .state) (hear l s)))
        ∧ ((s.vol v).state = .idle →
          (s.fn .emergencyOff = true →
            exec (.run l tag n) s = .next (answered l tag (.run n) (refuse .permit) (hear l s)))
          ∧ (s.fn .emergencyOff = false →
            (interlockPasses s v = false →
              exec (.run l tag n) s = .next (answered l tag (.run n) (refuse .interlock) (hear l s)))
            ∧ (interlockPasses s v = true →
              ((s.vol v).queue.length < s.startDepth v →
                exec (.run l tag n) s = .next (answered l tag (.run n) (refuse .short) (hear l s)))
              ∧ (∀ r rest, (s.vol v).queue = r :: rest → s.startDepth v ≤ (s.vol v).queue.length →
                exec (.run l tag n) s = .next (answered l tag (.run n) (okWith (enc1 r.tag))
                  (finish (startSteps v (r :: rest) false (hear l s))))
                ∧ EventFrame (hear l s) (finish (startSteps v (r :: rest) false (hear l s)))))))))
    ∧ s.startDepth v = (s.items.startDepth.get v).toNat
    ∧ ((s.vol v).state ≠ .hold →
        exec (.resume l tag n) s = .next (answered l tag (.resume n) (refuse .state) (hear l s)))
      ∧ ((s.vol v).state = .hold →
        (s.fn .emergencyOff = true →
          exec (.resume l tag n) s = .next (answered l tag (.resume n) (refuse .permit) (hear l s)))
        ∧ (s.fn .emergencyOff = false →
          (interlockPasses s v = false →
            exec (.resume l tag n) s = .next (answered l tag (.resume n) (refuse .interlock) (hear l s)))
          ∧ (interlockPasses s v = true →
            ((s.vol v).queue = [] →
              exec (.resume l tag n) s = .next (answered l tag (.resume n) (refuse .empty) (hear l s)))
            ∧ (∀ r rest, (s.vol v).queue = r :: rest →
              exec (.resume l tag n) s = .next (answered l tag (.resume n) (okWith (enc1 r.tag))
                (finish (startSteps v (r :: rest) false (hear l s))))
              ∧ EventFrame (hear l s) (finish (startSteps v (r :: rest) false (hear l s)))))))
      ∧ (interlockPasses s v = true ↔
          (∀ c, v = .ch c → s.tiu.slits.get (.ch c) = false) ∧ (v = .tc → ∀ w, s.tiu.slits.get w = false)
          ∧ ∀ d, v = .ll d → s.tiu.slits.get (.ll d) = false ∧ s.tiu.doors.get d = false ∧ s.fn (.door d) = true))
    ∧ ∀ (v : Volume) (r : StepRecord) (rest : List StepRecord) (s : State),
      StartStands v r s →
      ∃ t, startSteps v (r :: rest) false s = t ∧ (t.vol v).state = .running ∧ (t.vol v).current = some r
        ∧ (t.vol v).queue = rest ∧ (t.vol v).hold = none ∧ (t.vol v).lastEnd = (s.vol v).lastEnd
        ∧ (t.vol v).phase ≠ .none ∧ ∀ w, w ≠ v → t.vol w = s.vol w

/-- R40, R44: HOLD and ABORT stop a RUNNING volume, the one toward HOLD with its queue kept, the other toward IDLE with its
queue discarded; in any other state both are refused STATE. R43: CLEAR in HOLD empties the queue, drops hold record and
current step, makes the volume IDLE and posts VOLUME_IDLE, and changes nothing else; in IDLE it only empties the queue; in any
other state it is refused STATE. -/
def Obligations.HoldClearAndAbortCourse : Prop :=
  ∀ (l : Link) (tag : Byte) (n : Nat) (v : Volume) (s : State),
    Volume.ofNum n = some v → s.fitted v = true → v.master = l →
    ((s.vol v).state ≠ .running →
      exec (.hold l tag n) s = .next (answered l tag (.hold n) (refuse .state) (hear l s))
      ∧ exec (.abort l tag n) s = .next (answered l tag (.abort n) (refuse .state) (hear l s)))
    ∧ (∀ r, (s.vol v).state = .running → (s.vol v).current = some r →
      (∃ u, exec (.hold l tag n) s = .next (answered l tag (.hold n) ok u)
        ∧ ((u.vol v).state = .safing ∨ (u.vol v).state = .hold)
        ∧ (u.vol v).hold = some ⟨.requested, none, r.tag, (s.vol v).phase⟩
        ∧ (u.vol v).queue = (s.vol v).queue
        ∧ (u.vol v).lastEnd = some ⟨r.tag, r.kind, .stopped, none, none⟩ ∧ EventFrame (hear l s) u)
      ∧ (∃ u, exec (.abort l tag n) s = .next (answered l tag (.abort n) ok u)
        ∧ ((u.vol v).state = .ending ∨ (u.vol v).state = .idle) ∧ (u.vol v).queue = []
        ∧ (u.vol v).lastEnd = some ⟨r.tag, r.kind, .stopped, none, none⟩ ∧ EventFrame (hear l s) u))
    ∧ ((s.vol v).state = .running ∨ (s.vol v).state = .ending ∨ (s.vol v).state = .safing →
      exec (.clear l tag n) s = .next (answered l tag (.clear n) (refuse .state) (hear l s)))
    ∧ ((s.vol v).state = .idle →
      exec (.clear l tag n) s
        = .next (answered l tag (.clear n) ok ((hear l s).modVol v fun x => { x with queue := [] })))
    ∧ ((s.vol v).state = .hold →
      ∃ u, exec (.clear l tag n) s = .next (answered l tag (.clear n) ok (finish u))
        ∧ u.vol v = { s.vol v with state := .idle, queue := [], hold := none, current := none }
        ∧ (∀ w, w ≠ v → u.vol w = s.vol w)
        ∧ u.outbox = s.outbox ++ [⟨[v.master], ⟨.volumeIdle, v.num, (s.vol v).currentTag, 0, 0, 0⟩⟩]
        ∧ u = { hear l s with vols := u.vols, outbox := u.outbox } ∧ EventFrame u (finish u))

/-- R97, R119: where the plant's laws and the law of the generators stand, every step keeps the law of the bus: every value
that waits for an MFC, is on its way to it or has been written to it is a flow that the channel's commitment covers, the
commitment lies within the full scale, what was posted last is the generator's posted setpoint, and a FAILED MFC has its
channel released. -/
def Obligations.SetpointsCovered : Prop :=
  ∀ s t : State, plantLaw s → coverLaw s → busLaw s → step s = .next t → busLaw t

/-- R109, R110, R147: GAS ENABLE and TRANSFER ALLOW are refused RANGE, NOT_FITTED or OWNER in that order, else set their flag;
the gas permit follows. A GAS ENABLE of the value already held changes nothing; one that takes no permit sets the flag and
nothing else before what follows within the event. A permit that a chamber's master takes is a permit loss: a RUNNING or ENDING
chamber with a commitment above 0 enters SAFING with cause PERMIT_LOST, any other is flagged alone. -/
def Obligations.ChamberConsents : Prop :=
  ∀ (l : Link) (tag : Byte) (n : Nat) (x : Bool) (s : State),
    (n = 0 ∨ 4 < n →
      exec (.gasEnable l tag n x) s = .next (answered l tag (.gasEnable n x) (refuse .range) (hear l s))
      ∧ exec (.transferAllow l tag n x) s = .next (answered l tag (.transferAllow n x) (refuse .range) (hear l s)))
    ∧ (∀ c, Chamber.ofNum n = some c ↔ n = (Volume.ch c).num)
    ∧ (∀ c, Chamber.ofNum n = some c →
      (s.fitted (.ch c) = false →
        exec (.gasEnable l tag n x) s = .next (answered l tag (.gasEnable n x) (refuse .notFitted) (hear l s))
        ∧ exec (.transferAllow l tag n x) s
          = .next (answered l tag (.transferAllow n x) (refuse .notFitted) (hear l s)))
      ∧ (s.fitted (.ch c) = true → l ≠ .cc c →
        exec (.gasEnable l tag n x) s = .next (answered l tag (.gasEnable n x) (refuse .owner) (hear l s))
        ∧ exec (.transferAllow l tag n x) s = .next (answered l tag (.transferAllow n x) (refuse .owner) (hear l s)))
      ∧ (s.fitted (.ch c) = true → l = .cc c →
        exec (.transferAllow l tag n x) s = .next (answered l tag (.transferAllow n x) ok
          { hear l s with tiu := { s.tiu with allow := s.tiu.allow.set c x } })
        ∧ (s.gat.enable.get c = x →
          exec (.gasEnable l tag n x) s = .next (answered l tag (.gasEnable n x) ok (hear l s)))
        ∧ (s.gat.enable.get c ≠ x → s.permit c = false ∨ x = true →
          exec (.gasEnable l tag n x) s = .next (answered l tag (.gasEnable n x) ok
            (finish { hear l s with gat := { s.gat with enable := s.gat.enable.set c x } })))
        ∧ ∃ u, exec (.gasEnable l tag n x) s = .next (answered l tag (.gasEnable n x) ok u)
          ∧ u.gat.enable = s.gat.enable.set c x
          ∧ (u.permit c = true ↔ s.fn .facilityGasOk = true ∧ s.fn .exhaustOk = true ∧ x = true
              ∧ s.fn .emergencyOff = false)
          ∧ (s.permit c = true → x = false → (u.vol (.ch c)).hasFlag .permitLost = true
            ∧ ∃ w, u = finish w
              ∧ ((s.vol (.ch c)).state = .running ∨ (s.vol (.ch c)).state = .ending → s.hasCommitment c = true →
                  (w.vol (.ch c)).state = .safing
                  ∧ ∃ h, (w.vol (.ch c)).hold = some h ∧ h.cause = .permitLost ∧ h.tag = (s.vol (.ch c)).currentTag)
              ∧ ((s.vol (.ch c)).state = .safing ∨ (s.vol (.ch c)).state = .hold ∨ (s.vol (.ch c)).state = .idle
                    ∨ s.hasCommitment c = false →
                  w.vol (.ch c) = { s.vol (.ch c) with flags := (w.vol (.ch c)).flags })
              ∧ ∀ v, v ≠ .ch c → w.vol v = s.vol v)
          ∧ u.cfg = s.cfg ∧ u.flu = s.flu ∧ u.tiu = s.tiu ∧ u.pec.gauges = s.pec.gauges))

/-- R148, R149, R150: OPEN SLIT and CLOSE SLIT are refused RANGE, NOT_FITTED or OWNER in that order; a slit already there is
answered OK with no change; OPEN SLIT is then refused by the first of its tests that fails, CONFIG, PERMIT, STATE or
INTERLOCK; accepted, it opens the slit it names, as CLOSE SLIT closes it, with its SLIT_CHANGED notice and no other change.
R151: OPEN DOOR and CLOSE DOOR likewise; OPEN DOOR asserts the permit of a loadlock at rest, vented, with its slit closed;
CLOSE DOOR deasserts it in every state; nothing else changes. -/
def Obligations.SlitAndDoorRequests : Prop :=
  (∀ (l : Link) (tag : Byte) (n : Nat) (i : Instr) (req : Request) (s : State),
    (i, req) ∈ [(.openSlit l tag n, .openSlit n), (.closeSlit l tag n, .closeSlit n)] →
    (n = 0 ∨ n = 5 ∨ 7 < n → exec i s = .next (answered l tag req (refuse .range) (hear l s)))
    ∧ ∀ w : Slit, Volume.ofNum n = some w.volume →
      (s.fitted w.volume = false → exec i s = .next (answered l tag req (refuse .notFitted) (hear l s)))
      ∧ (s.fitted w.volume = true → l ≠ .txc → exec i s = .next (answered l tag req (refuse .owner) (hear l s))))
    ∧ (∀ (l : Link) (tag : Byte) (n : Nat) (i : Instr) (req : Request) (s : State),
      (i, req) ∈ [(.openDoor l tag n, .openDoor n), (.closeDoor l tag n, .closeDoor n)] →
      (n < 6 ∨ 7 < n → exec i s = .next (answered l tag req (refuse .range) (hear l s)))
      ∧ ∀ d : Loadlock, Volume.ofNum n = some (.ll d) →
        (s.fitted (.ll d) = false → exec i s = .next (answered l tag req (refuse .notFitted) (hear l s)))
        ∧ (s.fitted (.ll d) = true → l ≠ .txc → exec i s = .next (answered l tag req (refuse .owner) (hear l s))))
    ∧ (∀ (l : Link) (tag : Byte) (n : Nat) (w : Slit) (s : State),
      Volume.ofNum n = some w.volume → s.fitted w.volume = true → l = .txc →
      (s.tiu.slits.get w = true →
        exec (.openSlit l tag n) s = .next (answered l tag (.openSlit n) ok (hear l s))
        ∧ exec (.closeSlit l tag n) s = .next (answered l tag (.closeSlit n) ok (finish { hear l s with
            tiu := { s.tiu with slits := s.tiu.slits.set w false }
            outbox := s.outbox ++ [⟨match w with | .ch c => [.txc, .cc c] | .ll _ => [.txc],
              ⟨.slitChanged, n, 0, 0, 0, 0⟩⟩] })))
      ∧ (s.tiu.slits.get w = false →
        exec (.closeSlit l tag n) s = .next (answered l tag (.closeSlit n) ok (hear l s))
        ∧ (∀ e, slitTest s w = some e →
          exec (.openSlit l tag n) s = .next (answered l tag (.openSlit n) (refuse e) (hear l s)))
        ∧ (slitTest s w = none →
          exec (.openSlit l tag n) s = .next (answered l tag (.openSlit n) ok (finish { hear l s with
            tiu := { s.tiu with slits := s.tiu.slits.set w true }
            outbox := s.outbox ++ [⟨match w with | .ch c => [.txc, .cc c] | .ll _ => [.txc],
              ⟨.slitChanged, n, 0, 1, 0, 0⟩⟩] }))))
      ∧ (s.cfg.serving = false → slitTest s w = some .config)
      ∧ (s.cfg.serving = true → s.fn .emergencyOff = true → slitTest s w = some .permit)
      ∧ (s.cfg.serving = true → s.fn .emergencyOff = false →
          ¬(((s.vol w.volume).state = .idle ∨ (s.vol w.volume).state = .hold)
            ∧ ((s.vol .tc).state = .idle ∨ (s.vol .tc).state = .hold)) → slitTest s w = some .state)
      ∧ (s.cfg.serving = true → s.fn .emergencyOff = false →
          ((s.vol w.volume).state = .idle ∨ (s.vol w.volume).state = .hold) →
          ((s.vol .tc).state = .idle ∨ (s.vol .tc).state = .hold) →
          slitTest s w = none ∨ slitTest s w = some .interlock)
      ∧ (slitTest s w = none ↔ s.cfg.serving = true ∧ s.fn .emergencyOff = false
          ∧ ((s.vol w.volume).state = .idle ∨ (s.vol w.volume).state = .hold)
          ∧ ((s.vol .tc).state = .idle ∨ (s.vol .tc).state = .hold)
          ∧ (∀ c, w = .ch c → s.tiu.allow.get c = true ∧ (∀ k, (s.row c k).commitment = 0) ∧ (s.reuOf c).rfOn = false)
          ∧ (∀ d, w = .ll d → s.tiu.doors.get d = false ∧ s.fn (.door d) = true)
          ∧ ∃ p q, s.code? (.vol w.volume) = some p ∧ s.code? (.vol .tc) = some q
              ∧ ((p - q).natAbs : Int) ≤ s.items.matchWindow))
    ∧ ∀ (l : Link) (tag : Byte) (n : Nat) (d : Loadlock) (s : State),
      Volume.ofNum n = some (.ll d) → s.fitted (.ll d) = true → l = .txc →
      exec (.closeDoor l tag n) s = .next (answered l tag (.closeDoor n) ok
        { hear l s with tiu := { s.tiu with doors := s.tiu.doors.set d false } })
      ∧ (s.tiu.doors.get d = true → exec (.openDoor l tag n) s = .next (answered l tag (.openDoor n) ok (hear l s)))
      ∧ (s.tiu.doors.get d = false →
        (∀ e, doorTest s d = some e →
          exec (.openDoor l tag n) s = .next (answered l tag (.openDoor n) (refuse e) (hear l s)))
        ∧ (doorTest s d = none → exec (.openDoor l tag n) s = .next (answered l tag (.openDoor n) ok
            { hear l s with tiu := { s.tiu with doors := s.tiu.doors.set d true } })))
      ∧ (s.cfg.serving = false → doorTest s d = some .config)
      ∧ (s.cfg.serving = true → s.fn .emergencyOff = true → doorTest s d = some .permit)
      ∧ (s.cfg.serving = true → s.fn .emergencyOff = false →
          ¬((s.vol (.ll d)).state = .idle ∨ (s.vol (.ll d)).state = .hold) → doorTest s d = some .state)
      ∧ (s.cfg.serving = true → s.fn .emergencyOff = false →
          ((s.vol (.ll d)).state = .idle ∨ (s.vol (.ll d)).state = .hold) →
          doorTest s d = none ∨ doorTest s d = some .interlock)
      ∧ (doorTest s d = none ↔ s.cfg.serving = true ∧ s.fn .emergencyOff = false
          ∧ ((s.vol (.ll d)).state = .idle ∨ (s.vol (.ll d)).state = .hold) ∧ s.tiu.slits.get (.ll d) = false
          ∧ ∃ p, s.code? (.vol (.ll d)) = some p ∧ 588 - s.items.ventMargin ≤ p)

/-- R17, R35, R63, R75, R95, R113, R132, R146, R157, R168: the reads change no state beside the port they came on, any link may
send them, and they answer the page asked for or RANGE, NOT_FITTED or EMPTY. Their fields stand in rule order and within each
rule in its order, by the encodings of Table 10-3; the widths and marks that the table leaves open, the order of TC's slit
commands, and which character stands for a high input line, are the model's choice (notes/assumptions/10.md). Table 10-2: the
codes of states, kinds, phases and windows. -/
def Obligations.ReadsAnswerAndChangeNothing : Prop :=
  (∀ (l : Link) (tag : Byte) (n m p : Nat) (s : State),
    exec (.readVolume l tag n p) s = .next (answered l tag (.readVolume n p)
      (match Volume.ofNum n with
        | none => refuse .range
        | some v => if s.fitted v then pageAnswer (volumeFields (hear l s) v) p else refuse .notFitted) (hear l s))
    ∧ exec (.readSource l tag p) s = .next (answered l tag (.readSource p) (pageAnswer (sourceFields (hear l s)) p) (hear l s))
    ∧ exec (.readChannel l tag n m p) s = .next (answered l tag (.readChannel n m p)
      (match Chamber.ofNum n, Chan.ofNum m with
        | some c, some k => pageAnswer (channelFields (hear l s) c k) p
        | _, _ => refuse .range) (hear l s))
    ∧ exec (.readDevice l tag n p) s = .next (answered l tag (.readDevice n p)
      (match Device.ofAddr n with
        | some d => pageAnswer (deviceR132 (hear l s) d) p
        | none => refuse .range) (hear l s))
    ∧ (n = 0 ∨ 7 < n →
        exec (.readQueue l tag n m p) s = .next (answered l tag (.readQueue n m p) (refuse .range) (hear l s)))
    ∧ (∀ v, Volume.ofNum n = some v → s.fitted v = false →
        exec (.readQueue l tag n m p) s = .next (answered l tag (.readQueue n m p) (refuse .notFitted) (hear l s)))
    ∧ ∀ v, Volume.ofNum n = some v → s.fitted v = true →
      ((∀ r, (s.vol v).current = some r → exec (.readQueue l tag n 0 p) s
          = .next (answered l tag (.readQueue n 0 p) (pageAnswer (queueFields (hear l s) v r) p) (hear l s)))
      ∧ ((s.vol v).current = none →
          exec (.readQueue l tag n 0 p) s = .next (answered l tag (.readQueue n 0 p) (refuse .empty) (hear l s)))
      ∧ (∀ r, 1 ≤ m → (s.vol v).queue[m - 1]? = some r → exec (.readQueue l tag n m p) s
          = .next (answered l tag (.readQueue n m p) (pageAnswer (queueFields (hear l s) v r) p) (hear l s)))
      ∧ (1 ≤ m → (s.vol v).queue.length < m →
          exec (.readQueue l tag n m p) s = .next (answered l tag (.readQueue n m p) (refuse .range) (hear l s)))))
    -- Table 10-3
    ∧ (∀ n : Nat, enc1 n = [BitVec.ofNat 8 n] ∧ enc2 n = [BitVec.ofNat 8 (n / 256), BitVec.ofNat 8 n]
        ∧ enc4 n = enc2 (n / 65536) ++ enc2 n)
    ∧ (∀ x : Int, encS2 x = enc2 (x % 65536).toNat ∧ encS4 x = enc4 (x % 4294967296).toNat)
    ∧ encB false = [0] ∧ encB true = [1]
    ∧ (∀ (α : Type) (w : Nat) (f : α → List Byte), encOpt w f none = 0 :: List.replicate w 0
        ∧ (∀ x, encOpt w f (some x) = 1 :: f x) ∧ ∀ l, encList f l = enc1 l.length ++ l.flatMap f)
    -- Table 10-2
    ∧ [VolState.idle, .running, .ending, .safing, .hold].map VolState.code = [0, 1, 2, 3, 4]
    ∧ [Phase.none, .waitRough, .valveWait, .rough, .turboWait, .highPump, .venting, .overhang, .waitGas, .fill, .pumpback,
        .dwell, .transition, .settle, .ignite, .confirm, .retryPause, .etch].map Phase.code = List.range 18
    ∧ [WindowState.none, .inside, .outside].map WindowState.code = [0, 1, 2]
    -- READ VOLUME
    ∧ (∀ (s : State) (v : Volume), volumeFields s v
        = volumeR17 s v ++ volumeR63 s v ++ volumeR75 s v ++ volumeR95 s v ++ volumeR113 s v ++ volumeR146 s v ++ volumeR157 s v)
    ∧ (∀ g : GaugeChannel, (g.sample = none → encGauge g = [1, 0, 0, 0, 0, 0, 0] ++ encB g.asserted)
        ∧ ∀ x, g.sample = some x → encGauge g
            = [0] ++ enc2 x.count ++ encS2 x.code ++ encB x.underFlag ++ encB x.overFlag ++ encB g.asserted)
    ∧ encRaw none = [1, 0, 0] ∧ (∀ n, encRaw (some n) = 0 :: enc2 n)
    ∧ (∀ (s : State) (v : Volume), volumeR17 s v = encGauge (s.gauge (.vol v)) ++ encGauge (s.gauge .manifold)
        ++ (match v with | .ch c => encRaw (s.pec.emission.get c) | _ => [])
        ++ encRaw (s.pec.aux.get .aux1) ++ encRaw (s.pec.aux.get .aux2) ++ encRaw (s.pec.aux.get .aux3))
    ∧ (∀ (s : State) (v : Volume) (x : Vol), x = s.vol v → volumeR63 s v = enc1 x.state.code ++ enc1 x.phase.code
        ++ encOpt 2 (fun r : StepRecord => enc1 r.tag ++ enc1 r.kind.code) x.current
        ++ enc2 x.limitCount ++ enc2 x.effLimit ++ enc2 x.admissionCount ++ enc2 (s.items.admissionLimit.get v).toNat
        ++ encOpt 5 (fun h : HoldRecord => enc1 h.cause.code ++ encOpt 1 (fun k : FailKind => enc1 k.code) h.failure
            ++ enc1 h.tag ++ enc1 h.phase.code) x.hold
        ++ encOpt 6 (fun e : StepEnd => enc1 e.tag ++ enc1 e.kind.code ++ enc1 e.outcome.code
            ++ encOpt 1 (fun k : FailKind => enc1 k.code) e.failure ++ enc1 ((e.note.map Note.code).getD 0)) x.lastEnd
        ++ (List.range 14).flatMap (fun n => encB (x.flags.getLsbD n)) ++ encB (s.waits v) ++ encB (s.grant? v).isSome)
    ∧ (∀ (s : State) (v : Volume),
        (s.waits v = true ↔ v ∈ s.rma.queue ∨ ∃ c, v = .ch c ∧ ∃ e ∈ s.gat.queue, e.chamber = c)
        ∧ volumeR75 s v = enc1 (if v ∈ s.rma.queue then s.rma.queue.idxOf v + 1 else 0)
          ++ encOpt 2 (fun g : Grant => enc1 g.load.units ++ encB g.valveOpen) (s.grant? v) ++ encB (s.vol v).roughOpen)
    ∧ (∀ (s : State) (v : Volume) (x : Vol), x = s.vol v → volumeR95 s v
        = (match v.turbo? with | some _ => encB (s.gateOpen v) | none => []) ++ encB x.ventOpen
          ++ (match v with | .ch c => encB (s.fn (.lid c)) | _ => [])
          ++ (match v.turbo? with | some t => encB (s.fn (.turbo t)) | none => [])
          ++ enc2 x.retriesLeft ++ encS2 x.stallBaseline ++ enc2 x.stallCount ++ enc2 x.cyclesLeft ++ enc2 x.overhangCount)
    ∧ (∀ (s : State) (v : Volume), v.chamber? = none → volumeR113 s v = [] ∧ volumeR146 s v = [])
    ∧ (∀ (s : State) (c : Chamber), ∃ place : Nat, volumeR113 s (.ch c)
          = encB (s.gat.enable.get c) ++ encB (s.permit c) ++ enc1 place
            ++ encOpt 36 (fun e : GasEntry => Chan.all.flatMap fun k =>
                enc4 (e.aims.get k).target ++ enc2 (e.aims.get k).ticks) (s.gat.queue.find? fun e => e.chamber == c)
        ∧ (place = 0 ↔ s.inGasQueue c = false)
        ∧ (0 < place → ∃ e, s.gat.queue[place - 1]? = some e ∧ e.chamber = c
            ∧ ∀ f ∈ s.gat.queue.take (place - 1), f.chamber ≠ c))
    ∧ (∀ (s : State) (c : Chamber) (u : Reu) (d : Detector) (x : Vol), u = s.reuOf c → d = s.detector c → x = s.vol (.ch c) →
        volumeR146 s (.ch c) = encB u.rfOn ++ enc2 u.powerCode ++ encB (s.fn (.plasma c)) ++ enc1 x.window.code
          ++ enc2 x.settleCount ++ enc2 u.strikeTimer ++ enc2 u.confirmCount ++ enc2 u.retriesLeft ++ enc2 u.pauseCount
          ++ enc2 u.gated ++ enc2 u.dropout ++ enc2 u.endGated
          ++ encB d.armed ++ enc2 d.blanking ++ enc2 d.confirm ++ encOpt 2 enc2 d.endpointAt)
    ∧ (∀ s : State,
        (∀ c, volumeR157 s (.ch c) = encB (s.tiu.allow.get c) ++ encB (s.tiu.slits.get (.ch c))
            ++ encB (s.finalOpen c) ++ encB (lineEnergised s (6 * c.num) (.rfEn c)))
        ∧ volumeR157 s .tc
          = [Slit.ch .c1, .ch .c2, .ch .c3, .ch .c4, .ll .a, .ll .b].flatMap (fun w => encB (s.tiu.slits.get w))
        ∧ ∀ d, volumeR157 s (.ll d) = encB (s.tiu.slits.get (.ll d)) ++ encB (s.tiu.doors.get d) ++ encB (s.fn (.door d)))
    -- READ SOURCE
    ∧ (∀ s : State, sourceFields s = encGauge (s.gauge .header)
        ++ enc1 s.rma.used
        ++ encList (fun g : Grant => enc1 g.holder.num ++ enc1 g.load.units ++ encB g.valveOpen) s.rma.grants
        ++ encList (fun v : Volume => enc1 v.num) s.rma.queue ++ encS2 s.items.heavyLimit
        ++ [1, 2, 3, 4, 5, 6, 7, 8, 9, 10].flatMap (fun n =>
            enc4 (s.sourceCapacity n) ++ enc4 (s.sourceTotal n) ++ encB (s.sourceOpen n))
        ++ enc4 s.headerTotal ++ encB s.hlm.held ++ enc4 s.items.holdThreshold.toNat ++ enc4 s.items.releaseThreshold.toNat
        ++ encB s.hlm.trip
        ++ encList (fun e : GasEntry => enc1 e.chamber.num ++ enc2 (s.vol (.ch e.chamber)).admissionCount) s.gat.queue
        ++ enc2 s.items.overtakeLimit.toNat
        ++ (List.range 24).flatMap (fun n => encB (match s.flu.levels with
            | some x => x.getLsbD n | none => atPlace s.items.inputPolarity (n + 1) != 0))
        ++ InputFn.all.flatMap (fun f => encB (s.fn f)) ++ outLines.flatMap (fun o => encB (lineCommand s o))
        ++ (List.range 45).flatMap (fun n =>
            match outLines[n]? with | some o => encB (lineEnergised s (n + 1) o) | none => [])
        ++ encB (s.fn .emergencyOff) ++ enc2 s.items.matchWindow.toNat ++ enc2 s.items.ventMargin.toNat)
    -- READ CHANNEL and READ DEVICE
    ∧ (∀ (p : Int) (f : Nat) (b : Bool), encValue (.flow f) = enc4 f ∧ encValue .opened = [1, 0, 0]
        ∧ encValue (.code p) = 0 :: encS2 p ∧ encReading (.flow f) = enc4 f
        ∧ ∀ x, encReading (.throttle x b) = encValue x ++ encB b)
    ∧ (∀ (d : Device) (x : DeviceRow) (w : Nat), w = (match d with | .mfc _ _ => 4 | .throttle _ => 3) →
        encPending d x = encOpt (w + 1) (fun y : PendingWrite => encValue y.value ++ enc1 (if y.cls = .urgent then 1 else 2))
            x.pending
        ∧ encHeld d x = encOpt w encValue x.written ++ encOpt 4 encReading x.reading ++ enc2 x.consecutive ++ enc2 x.noAnswers)
    ∧ (∀ (s : State) (c : Chamber) (k : Chan) (g : Generator) (x : DeviceRow), g = s.gen c k → x = s.device (.mfc c k) →
        channelFields s c k = enc1 (s.source c k) ++ enc4 (s.row c k).commitment ++ enc4 (s.row c k).target
          ++ encB (s.row c k).inFlight
          ++ enc4 g.posted ++ enc4 g.target ++ encB (!g.up) ++ enc2 g.ticks ++ enc4 g.quotient ++ enc4 g.remainder
          ++ enc4 g.accumulator ++ enc2 g.left ++ enc1 (if g.cls = .urgent then 1 else 2)
          ++ encB x.failed ++ encPending (.mfc c k) x ++ encHeld (.mfc c k) x
          ++ enc2 (s.check c k).settle ++ enc2 (s.check c k).deviation)
    ∧ (∀ (s : State) (d : Device), ∃ b : Bool, (b = true ↔ ∃ op n x, s.dbc.inFlight = some ⟨d, op, n, x⟩)
        ∧ deviceR132 s d = encB (s.device d).failed ++ encPending d (s.device d) ++ encB b ++ encHeld d (s.device d)
          ++ (match d with
              | .mfc c k => enc2 (s.check c k).settle ++ enc2 (s.check c k).deviation
              | .throttle _ => []))
    -- READ QUEUE, with a record in the layout of Table 10-5
    ∧ ∀ (s : State) (v : Volume) (q : StepRecord), ∃ flags : Nat,
        flags = (if q.last then 1 else 0) + (if q.onFail = .abort then 2 else 0) + (if q.endpoint.isSome then 4 else 0)
        ∧ queueFields s v q = enc1 (s.vol v).queue.length ++ enc1 (s.capacity v) ++ enc1 (s.startDepth v)
          ++ enc1 q.kind.code ++ enc1 q.tag ++ enc1 flags ++ enc2 q.duration ++ enc2 q.limit ++ encS2 q.target ++ encS2 q.floor
          ++ enc1 q.window ++ enc2 q.power ++ enc1 q.retries ++ enc1 q.cycles
          ++ encList (fun f : FlowEntry => enc1 f.chan.num ++ enc2 f.target ++ enc2 f.ticks) q.flows
          ++ (match q.endpoint with
              | some e => enc2 e.threshold
                  ++ enc1 ((if e.direction = .fall then 1 else 0) + (if e.required then 2 else 0))
                  ++ enc1 e.hysteresis ++ enc1 e.confirm ++ enc2 e.blanking ++ enc2 e.minTime ++ enc1 e.overEtch
              | none => [])

/-- R168: the pages of an answer hold its characters in order, 54 to a page, and a page beyond the last is refused RANGE. R160:
the answers of a request, OK with data or without, and REFUSED with its reason. -/
def Obligations.PagesHoldTheAnswer : Prop :=
  ∀ f : List Byte,
    (∀ p, pageCount f ≤ p → pageData f p = none)
    ∧ (∀ p, p < pageCount f → ∃ chars, pageData f p = some (BitVec.ofNat 8 p :: BitVec.ofNat 8 (pageCount f) :: chars)
        ∧ chars.length ≤ 54 ∧ chars ≠ [] ∧ chars = (f.drop (54 * p)).take 54)
    ∧ ((List.range (pageCount f)).flatMap fun p => ((pageData f p).getD []).drop 2) = f
    ∧ (∀ p, (pageData f p = none → pageAnswer f p = refuse .range)
        ∧ ∀ d, pageData f p = some d → pageAnswer f p = okWith d)
    ∧ okWith f = ⟨.ok, none, f⟩ ∧ ok = ⟨.ok, none, []⟩ ∧ ∀ e, refuse e = ⟨.refused, some e, []⟩

/-- R165: READ NOTICE returns the slot, the unread mark and the count, marks the notice read and deasserts the attention line;
SET NOTICE MASK writes the seven enables of the requesting port; neither changes anything else. That an empty slot's fields but
kind NONE and the count are 0 is the model's choice (notes/assumptions/10.md). -/
def Obligations.NoticeRequests : Prop :=
  ∀ (l : Link) (tag : Byte) (m : Byte) (s : State),
    (exec (.readNotice l tag) s = .next (answered l tag .readNotice
      (okWith (match (s.port l).slot with
        | some x => encB x.unread ++ enc1 (s.port l).sequence ++ enc1 x.notice.kind.code ++ enc1 x.notice.volume
            ++ enc1 x.notice.tag ++ enc1 x.notice.code ++ enc1 x.notice.detail ++ enc4 x.notice.value
        | none => encB false ++ enc1 (s.port l).sequence ++ List.replicate 9 0))
      ((hear l s).setPort l { (hear l s).port l with
        slot := (s.port l).slot.map fun x => { x with unread := false }, attention := false })))
    ∧ (m >>> 7 = 0 → exec (.setNoticeMask l tag m) s = .next (answered l tag (.setNoticeMask m) ok
        ((hear l s).setPort l { (hear l s).port l with mask := m.setWidth 7 })))
    ∧ (m >>> 7 ≠ 0 → exec (.setNoticeMask l tag m) s
        = .next (answered l tag (.setNoticeMask m) (refuse .format) (hear l s)))

/-- R171: READ CONFIG, from any link in either state, answers the configuration state, the item's value, its range and its
default, changes nothing, and is refused RANGE for a number or index out of range. Table 11-1: the index range, the range and
the defaults of every item, with the range of item 8 by R25, and which item each number and index is. -/
def Obligations.ReadConfigAnswers : Prop :=
  (∀ (l : Link) (tag : Byte) (i x p : Nat) (s : State),
    (s.items.get? i x = none →
      exec (.readConfig l tag i x p) s = .next (answered l tag (.readConfig i x p) (refuse .range) (hear l s)))
    ∧ (∀ y z, s.items.get? i x = some y → Items.default.get? i x = some z →
      exec (.readConfig l tag i x p) s = .next (answered l tag (.readConfig i x p)
        (pageAnswer (encB s.cfg.serving ++ encS4 y ++ encS4 (s.items.range i x).1 ++ encS4 (s.items.range i x).2
          ++ encS4 z) p) (hear l s)))
    ∧ ((s.items.get? i x).isSome = true ↔ (Items.default.get? i x).isSome = true))
    ∧ itemTable.map (·.number) = (List.range 37).map (· + 1)
    ∧ (∀ (t : Items) (n i : Nat), (t.get? n i).isSome = true ↔ ∃ r ∈ itemTable, r.number = n ∧ r.has i)
    ∧ (∀ (r : ItemRow) (i : Nat), r ∈ itemTable → r.has i → Items.default.get? r.number i = r.defaults[i - 1]?)
    ∧ (∀ (t : Items) (r : ItemRow) (i : Nat), r ∈ itemTable → r.number ≠ 8 → t.range r.number i = (r.low, r.high))
    ∧ (∀ (t : Items) (v : Volume), t.range 8 v.num = (1, max 1 (t.capacity.get v)))
    ∧ ∀ t : Items,
      (∀ (n : Nat) (p : Per9 Int), (n, p) ∈ [(1, t.lo), (2, t.hi), (3, t.tripEnable), (4, t.tripThreshold),
          (5, t.tripDirection), (6, t.tripHysteresis)] →
        (∀ v, t.get? n v.num = some (p.get (.vol v))) ∧ t.get? n 8 = some (p.get .manifold)
          ∧ t.get? n 9 = some (p.get .header))
      ∧ (∀ (n : Nat) (p : Per7 Int), (n, p) ∈ [(7, t.capacity), (8, t.startDepth), (9, t.stepLimit),
          (10, t.admissionLimit), (13, t.stallWindow), (14, t.minFall), (15, t.pumpBackRetries)] →
        ∀ v, t.get? n v.num = some (p.get v))
      ∧ (∀ u : Turbo, t.get? 12 u.volume.num = some (t.crossover.getT u))
      ∧ (∀ (n : Nat) (p : Per24 Int), (n, p) ∈ [(16, t.sourceMap), (21, t.fullScale)] →
        ∀ c k, t.get? n (6 * (c.num - 1) + k.num) = some (p.getK c k))
      ∧ (∀ (n : Nat) (p : Per4 Int), (n, p) ∈ [(25, t.tolerancePercent), (26, t.toleranceFloor), (27, t.settleTime),
          (28, t.debounce), (29, t.maxPower), (30, t.strikeTimeout), (31, t.dropoutLimit)] →
        ∀ c, t.get? n c.num = some (p.get c))
      ∧ (∀ (n : Nat) (y : Int), (n, y) ∈ [(11, t.heavyLimit), (18, t.overtakeLimit), (19, t.holdThreshold),
          (20, t.releaseThreshold), (22, t.responseTimeout), (23, t.scanLength), (32, t.matchWindow), (33, t.ventMargin)] →
        t.get? n 0 = some y)
      ∧ (∀ (n m : Nat) (p : List Int), (n, m, p) ∈ [(17, 10, t.sourceCapacity), (24, 32, t.scanEntry),
          (34, 24, t.inputPolarity), (35, 24, t.inputMap), (36, 45, t.outputPolarity)] →
        ∀ i, 1 ≤ i → i ≤ m → t.get? n i = some (p[i - 1]?.getD 0))
      ∧ ∀ c, t.get? 37 c.num = some (t.linkTimeout.get (.cc c)) ∧ t.get? 37 5 = some (t.linkTimeout.get .txc)
        ∧ [Chamber.c1, .c2, .c3, .c4].map Chamber.num = [1, 2, 3, 4]
        ∧ [Chan.k1, .k2, .k3, .k4, .k5, .k6].map Chan.num = [1, 2, 3, 4, 5, 6]

/-- R166: CLEAR CONDITIONS makes the checks of R38; accepted, it clears exactly the flags its mask names, in every volume state
and both configuration states, and posts nothing. -/
def Obligations.ClearConditionsCourse : Prop :=
  ∀ (l : Link) (tag : Byte) (n : Nat) (m : Word16) (s : State), m >>> 14 = 0 →
    (n = 0 ∨ 7 < n → exec (.clearConditions l tag n m) s
      = .next (answered l tag (.clearConditions n m) (refuse .range) (hear l s)))
    ∧ ∀ v, Volume.ofNum n = some v →
      (s.fitted v = false → exec (.clearConditions l tag n m) s
        = .next (answered l tag (.clearConditions n m) (refuse .notFitted) (hear l s)))
      ∧ (s.fitted v = true → v.master ≠ l → exec (.clearConditions l tag n m) s
        = .next (answered l tag (.clearConditions n m) (refuse .owner) (hear l s)))
      ∧ (s.fitted v = true → v.master = l →
        ∃ u, exec (.clearConditions l tag n m) s = .next (answered l tag (.clearConditions n m) ok u)
          ∧ (∀ f : Flag, (u.vol v).hasFlag f = ((s.vol v).hasFlag f && !m.getLsbD f.num))
          ∧ u = (hear l s).modVol v fun x => { x with flags := (u.vol v).flags })

/-- R167: RESET COUNTERS sets the requesting port's own counters, or after the checks of R38 a volume's five counters and a
chamber's seven device counters, to 0, and nothing else; READ COUNTERS answers them, from any link. -/
def Obligations.ResetCountersCourse : Prop :=
  ∀ (l : Link) (tag : Byte) (n p : Nat) (s : State),
    (exec (.resetCounters l tag 0) s = .next (answered l tag (.resetCounters 0) ok
      ((hear l s).setPort l { (hear l s).port l with frameErrors := 0, linkDowns := 0 })))
    ∧ (7 < n → exec (.resetCounters l tag n) s = .next (answered l tag (.resetCounters n) (refuse .range) (hear l s)))
    ∧ (n = 0 ∨ 7 < n → exec (.readCounters l tag n p) s
        = .next (answered l tag (.readCounters n p) (refuse .range) (hear l s)))
    ∧ ∀ v, Volume.ofNum n = some v →
      (s.fitted v = false →
        exec (.resetCounters l tag n) s = .next (answered l tag (.resetCounters n) (refuse .notFitted) (hear l s))
        ∧ exec (.readCounters l tag n p) s = .next (answered l tag (.readCounters n p) (refuse .notFitted) (hear l s)))
      ∧ (s.fitted v = true → v.master ≠ l →
        exec (.resetCounters l tag n) s = .next (answered l tag (.resetCounters n) (refuse .owner) (hear l s)))
      ∧ (s.fitted v = true → exec (.readCounters l tag n p) s = .next (answered l tag (.readCounters n p)
          (pageAnswer (enc2 (s.vol v).counters.overflow ++ enc2 (s.vol v).counters.underflow
            ++ enc2 (s.vol v).counters.pumpRetry ++ enc2 (s.vol v).counters.strikeRetry ++ enc2 (s.vol v).counters.failure
            ++ (match v with
              | .ch c => (Chan.all.flatMap fun k => enc2 (s.device (.mfc c k)).noAnswers)
                  ++ enc2 (s.device (.throttle c)).noAnswers
              | _ => [])
            ++ enc2 (s.port v.master).frameErrors ++ enc2 (s.port v.master).linkDowns) p) (hear l s)))
      ∧ (s.fitted v = true → v.master = l →
        ∃ u, exec (.resetCounters l tag n) s = .next (answered l tag (.resetCounters n) ok u)
          ∧ u.vol v = { s.vol v with counters := ⟨0, 0, 0, 0, 0⟩ }
          ∧ (∀ w, w ≠ v → u.vol w = s.vol w)
          ∧ (∀ d, u.device d = if v = .ch d.chamber then { s.device d with noAnswers := 0 } else s.device d)
          ∧ u = { hear l s with vols := u.vols, dbc := { s.dbc with devices := u.dbc.devices } })

/-- R124, R128: CLEAR DEVICE is refused RANGE, NOT_FITTED or OWNER in that order; it sets the written value absent and the
consecutive count to 0, and returns a FAILED device to OK with a class-1 post of 0 to an MFC, of OPEN to a throttle controller
(R129). An OK device gets no post. The other devices stand, but for a write that the arbiter takes into flight on a free bus
(R122). That the arbiter is asked for an OK device too is the model's choice (notes/assumptions/16.md). R119: the
addresses. -/
def Obligations.ClearDeviceCourse : Prop :=
  (∀ c k, (Device.mfc c k).addr = 6 * (c.num - 1) + k.num ∧ (Device.throttle c).addr = 24 + c.num
    ∧ safeValue (.mfc c k) = .flow 0 ∧ safeValue (.throttle c) = .opened)
  ∧ (∀ a d, Device.ofAddr a = some d ↔ a = d.addr)
  ∧ ∀ (l : Link) (tag : Byte) (a : Nat) (s : State),
    (a = 0 ∨ 28 < a →
      exec (.clearDevice l tag a) s = .next (answered l tag (.clearDevice a) (refuse .range) (hear l s)))
    ∧ ∀ d, Device.ofAddr a = some d →
      (s.fitted (.ch d.chamber) = false →
        exec (.clearDevice l tag a) s = .next (answered l tag (.clearDevice a) (refuse .notFitted) (hear l s)))
      ∧ (s.fitted (.ch d.chamber) = true → l ≠ .cc d.chamber →
        exec (.clearDevice l tag a) s = .next (answered l tag (.clearDevice a) (refuse .owner) (hear l s)))
      ∧ (s.fitted (.ch d.chamber) = true → l = .cc d.chamber →
        ∃ u, exec (.clearDevice l tag a) s = .next (answered l tag (.clearDevice a) ok u)
          ∧ (u.device d).failed = false ∧ (u.device d).consecutive = 0 ∧ (u.device d).written = none
          ∧ (u.device d).noAnswers = (s.device d).noAnswers ∧ (u.device d).reading = (s.device d).reading
          ∧ ((s.device d).failed = true → PostStands d (safeValue d) .urgent u)
          ∧ (∀ x, x = (hear l s).setDevice d
                { s.device d with failed := false, consecutive := 0, written := none } →
              exec .transactionStart (if (s.device d).failed then placeWrite d (safeValue d) .urgent x else x) = .next u)
          ∧ (∀ e w, (e ≠ d ∨ (s.device d).failed = false) → (s.device e).pending = some w →
              (u.device e).pending = some w
                ∨ (s.dbc.inFlight = none ∧ u.dbc.inFlight = some ⟨e, .set w, 0, false⟩ ∧ (u.device e).pending = none))
          ∧ (∀ e, (e ≠ d ∨ (s.device d).failed = false) → (s.device e).pending = none → (u.device e).pending = none)
          ∧ (∀ e, e ≠ d → u.device e = { s.device e with pending := (u.device e).pending })
          ∧ u = { hear l s with dbc := u.dbc })

/-- R170, R25: the checks of WRITE CONFIG in order, checks 2 to 5 of one reason as one conjunction, and the value that stands
after a write that passes. Table 11-1, whose ranges ReadConfigAnswers writes out: an item written is the item read back, and no
other item changes, but for the start depth that a capacity takes along in its own volume. The lists hold as many entries as
the part has lines, sources and positions. -/
def Obligations.WriteConfigCourse : Prop :=
  (∀ (l : Link) (tag : Byte) (i x : Nat) (y : Int) (s : State),
    (s.cfg.serving = true →
      exec (.writeConfig l tag i x y) s = .next (answered l tag (.writeConfig i x y) (refuse .config) (hear l s)))
    ∧ (s.cfg.serving = false →
      (s.items.get? i x = none ∨ y < (s.items.range i x).1 ∨ (s.items.range i x).2 < y →
        exec (.writeConfig l tag i x y) s = .next (answered l tag (.writeConfig i x y) (refuse .range) (hear l s)))
      ∧ (∀ v, i = 7 → Volume.ofNum x = some v →
          (y < ((s.vol v).queue.length : Int) ∨ 96 < s.items.capacitySum - s.items.capacity.get v + y) →
        exec (.writeConfig l tag i x y) s = .next (answered l tag (.writeConfig i x y) (refuse .range) (hear l s)))
      ∧ (itemAccepts s i x y = true → i ≠ 34 → i ≠ 35 →
        exec (.writeConfig l tag i x y) s = .next (answered l tag (.writeConfig i x y) ok
          { hear l s with cfg := { s.cfg with items := s.items.put i x y } }))
      ∧ (itemAccepts s i x y = true → i = 34 ∨ i = 35 →
        ∃ u, exec (.writeConfig l tag i x y) s = .next (answered l tag (.writeConfig i x y) ok u)
          ∧ u.cfg = { s.cfg with items := s.items.put i x y }
          ∧ ∀ f, u.fn f = functionValue (s.items.put i x y) s.flu.levels f)))
    ∧ (∀ (s : State) (i x : Nat) (y : Int), itemAccepts s i x y = true ↔
        (s.items.get? i x).isSome = true ∧ (s.items.range i x).1 ≤ y ∧ y ≤ (s.items.range i x).2
        ∧ ∀ v, i = 7 → Volume.ofNum x = some v →
            ((s.vol v).queue.length : Int) ≤ y ∧ s.items.capacitySum - s.items.capacity.get v + y ≤ 96)
    ∧ (∀ t : Items, t.capacitySum = ([Volume.ch .c1, .ch .c2, .ch .c3, .ch .c4, .tc, .ll .a, .ll .b].map fun v =>
        t.capacity.get v).sum)
    ∧ ∀ (t : Items) (i x j z : Nat) (y : Int),
      t.sourceCapacity.length = 10 → t.scanEntry.length = 32 → t.inputPolarity.length = 24 → t.inputMap.length = 24 →
      t.outputPolarity.length = 45 → (t.get? i x).isSome = true →
      (t.put i x y).get? i x = some y
      ∧ ((j, z) ≠ (i, x) → (i = 7 → j ≠ 8 ∨ z ≠ x) → (t.put i x y).get? j z = t.get? j z)
      ∧ (∀ v, Volume.ofNum x = some v →
          (t.put 7 x y).startDepth.get v = (if y < t.startDepth.get v then max 1 y else t.startDepth.get v))

/-- R129, R131, R161, R172: CLOSE CONFIGURATION is refused STATE in SERVING and RANGE with the item of the first check that fails;
accepted, it enters SERVING, blanks the comparators, takes the range flags as clear, sets scan position and consecutive-write
count before the bus's first choice, starts every UP link's timer, and posts 0 to mapped MFCs and OPEN to the throttles. No
closing post goes to an unmapped MFC or a FAILED device; a write that the free bus takes up was pending or is a closing post. -/
def Obligations.CloseConfigurationCourse : Prop :=
  (∀ (l : Link) (tag : Byte) (s : State),
    (s.cfg.serving = true → exec (.closeConfiguration l tag) s
        = .next (answered l tag .closeConfiguration (refuse .state) (hear l s)))
    ∧ (∀ n, s.cfg.serving = false → closeFault s.items = some n → exec (.closeConfiguration l tag) s
        = .next (answered l tag .closeConfiguration ⟨.refused, some .range, enc2 n⟩ (hear l s)))
    ∧ (s.cfg.serving = false → closeFault s.items = none →
      ∃ u, exec (.closeConfiguration l tag) s = .next (answered l tag .closeConfiguration ok u)
        ∧ u.cfg = ⟨true, s.cfg.items⟩ ∧ u.pec.blanking = some 0
        ∧ (∀ g, (u.gauge g).prevUnder = false ∧ (u.gauge g).prevOver = false ∧ (u.gauge g).asserted = false
            ∧ (u.gauge g).sample = (s.gauge g).sample)
        ∧ (∀ m, ((hear l s).port m).lost = false → (u.port m).silence = some 0)
        ∧ (∀ m, ((hear l s).port m).lost = true → u.port m = (hear l s).port m)
        ∧ (∀ v, u.vol v = s.vol v) ∧ u.gat = s.gat ∧ u.fru = s.fru ∧ u.rma = s.rma ∧ u.tiu = s.tiu ∧ u.flu = s.flu
        ∧ u.gates = s.gates
        ∧ (s.dbc.inFlight.isSome = true → u.dbc.scanPos = 1 ∧ u.dbc.writes = 0 ∧ u.dbc.inFlight = s.dbc.inFlight)
        ∧ (s.dbc.inFlight = none →
            (u.dbc.inFlight = none ∧ u.dbc.scanPos = 1 ∧ u.dbc.writes = 0)
            ∨ (∃ d w, u.dbc.inFlight = some ⟨d, .set w, 0, false⟩ ∧ u.dbc.scanPos = 1 ∧ u.dbc.writes = 1
                ∧ ((s.device d).pending = some w
                  ∨ (s.device d).failed = false ∧ (∀ c k, d = .mfc c k → s.source c k ≠ 0)
                    ∧ w.value = safeValue d ∧ w.cls = .urgent))
            ∨ (∃ n e, nextPoll { s with cfg := u.cfg, dbc := { s.dbc with scanPos := 1 } } = some (n, e)
                ∧ u.dbc.inFlight = some ⟨e, .read, 0, false⟩ ∧ u.dbc.writes = 0
                ∧ u.dbc.scanPos = (if n < s.scanList.length then n + 1 else 1)))
        ∧ (∀ d, (s.device d).failed = false → (∀ c k, d = .mfc c k → s.source c k ≠ 0) →
            ∃ w, w.value = safeValue d ∧ w.cls = .urgent ∧ ((u.device d).pending = some w
              ∨ u.dbc.inFlight = some ⟨d, .set w, 0, false⟩))
        ∧ (∀ d, (s.device d).failed = true ∨ (∃ c k, d = .mfc c k ∧ s.source c k = 0) →
            (u.device d).pending = (s.device d).pending
              ∨ ((u.device d).pending = none ∧ s.dbc.inFlight = none
                ∧ ∃ w, (s.device d).pending = some w ∧ u.dbc.inFlight = some ⟨d, .set w, 0, false⟩))
        ∧ ∀ d, u.device d = { s.device d with pending := (u.device d).pending }))
    ∧ (∀ c k, safeValue (.mfc c k) = .flow 0 ∧ safeValue (.throttle c) = .opened)
    ∧ ∀ t : Items,
      (96 < t.capacitySum → closeFault t = some 7)
      ∧ (t.capacitySum ≤ 96 → t.holdThreshold ≤ t.releaseThreshold → closeFault t = some 20)
      ∧ (t.capacitySum ≤ 96 → t.releaseThreshold < t.holdThreshold → (∃ g, t.hi.get g ≤ t.lo.get g) →
          closeFault t = some 2)
      ∧ (t.capacitySum ≤ 96 → t.releaseThreshold < t.holdThreshold → (∀ g, t.lo.get g < t.hi.get g) →
          (t.scanLength < 1 → closeFault t = some 23)
          ∧ (1 ≤ t.scanLength →
            ((∃ c k, 0 < t.sourceMap.getK c k ∧ t.fullScale.getK c k < 100) → closeFault t = some 21)
            ∧ ((∀ c k, 0 < t.sourceMap.getK c k → 100 ≤ t.fullScale.getK c k) →
              t.heavyLimit < -400 ∨ 600 < t.heavyLimit → closeFault t = some 11)))
      ∧ (closeFault t = none ↔ t.capacitySum ≤ 96 ∧ t.releaseThreshold < t.holdThreshold
          ∧ (∀ g, t.lo.get g < t.hi.get g) ∧ 1 ≤ t.scanLength
          ∧ (∀ c k, 0 < t.sourceMap.getK c k → 100 ≤ t.fullScale.getK c k)
          ∧ -400 ≤ t.heavyLimit ∧ t.heavyLimit ≤ 600)

/-- R173: the tests of REOPEN CONFIGURATION in their order, STATE, STATE, INTERLOCK, which RESTART makes too (R174); and what
REOPEN CONFIGURATION leaves: CONFIGURING, every queue discarded, comparators INACTIVE, gates and vents closed, timers stopped;
the items, the device states and all else of every volume (counters, flags, state, last step end), gauge and port stand. -/
def Obligations.ReopenCourse : Prop :=
  (∀ s : State, reopenTest s = none ↔ s.cfg.serving = true
      ∧ (∀ v, s.fitted v = true → (s.vol v).state = .idle) ∧ (∀ c k, (s.row c k).commitment = 0)
      ∧ (∀ w, s.tiu.slits.get w = false) ∧ ∀ d, s.tiu.doors.get d = false)
    ∧ (∀ (l : Link) (tag : Byte) (i : Instr) (req : Request) (s : State),
      (i, req) ∈ [(.reopenConfiguration l tag, .reopenConfiguration), (.restart l tag, .restart)] →
      (s.cfg.serving = false ∨ (∃ v, s.fitted v = true ∧ (s.vol v).state ≠ .idle) ∨ (∃ c k, 0 < (s.row c k).commitment) →
        exec i s = .next (answered l tag req (refuse .state) (hear l s)))
      ∧ (s.cfg.serving = true → (∀ v, s.fitted v = true → (s.vol v).state = .idle) →
          (∀ c k, (s.row c k).commitment = 0) →
          (∃ w, s.tiu.slits.get w = true) ∨ (∃ d, s.tiu.doors.get d = true) →
        exec i s = .next (answered l tag req (refuse .interlock) (hear l s))))
    ∧ ∀ (l : Link) (tag : Byte) (s : State),
      (∀ e, reopenTest s = some e → exec (.reopenConfiguration l tag) s
          = .next (answered l tag .reopenConfiguration (refuse e) (hear l s)))
      ∧ (reopenTest s = none →
        ∃ u, exec (.reopenConfiguration l tag) s = .next (answered l tag .reopenConfiguration ok (finish u))
          ∧ u.cfg = ⟨false, s.cfg.items⟩
          ∧ (∀ v, u.vol v = { s.vol v with queue := [], ventOpen := false } ∧ u.gateOpen v = false)
          ∧ (∀ g, u.gauge g = { s.gauge g with asserted := false })
          ∧ u.pec = { s.pec with gauges := u.pec.gauges, blanking := none }
          ∧ u.hlm = { s.hlm with trip := s.hlm.trip && !(s.gauge .header).asserted }
          ∧ (∀ m, u.port m = { (hear l s).port m with silence := none })
          ∧ u.dbc = s.dbc ∧ u.tiu = s.tiu ∧ u.flu = s.flu ∧ u.gat = s.gat ∧ u.fru = s.fru ∧ u.rma = s.rma
          ∧ u.reu = s.reu ∧ u.base = s.base ∧ u.pending = s.pending ∧ u.outbox = s.outbox
          ∧ EventFrame u (finish u))

/-- R174, R131, R172: RESTART makes the tests of R173, with the refusals that ReopenCourse states for it; accepted, it keeps the
items and the field lines, stays in SERVING, resets every other block, lets a transaction in flight run on with its outcome
discarded, makes the closing posts on a bus at scan position 1, and starts every silence timer. The reset values of the
effective step limit and of a generator's direction, ramp ticks and class, which Vol.reset and Generator.reset hold, are the
model's choice (notes/assumptions/11.md), and so is which of the closing posts starts first (notes/assumptions/8.md). -/
def Obligations.RestartCourse : Prop :=
  (∀ c k, safeValue (.mfc c k) = .flow 0 ∧ safeValue (.throttle c) = .opened
    ∧ Gat.reset.rows.getK c k = ⟨0, 0, false⟩ ∧ Gat.reset.enable.get c = false)
  ∧ Gat.reset.queue = []
  ∧ Vol.reset = ⟨[], .idle, .none, none, 0, 0, 0, 0, 0, 0, 0, 0, 0, 0, .none, none, none, 0#14, ⟨0, 0, 0, 0, 0⟩, false, false⟩
  ∧ Generator.reset = ⟨0, 0, true, 0, 0, 0, 0, 0, .normal⟩ ∧ Reu.reset = ⟨false, 0, 0, 0, 0, 0, 0, 0, 0⟩
  ∧ (∀ c w d, Tiu.reset.allow.get c = false ∧ Tiu.reset.slits.get w = false ∧ Tiu.reset.doors.get d = false)
  ∧ ∀ (l : Link) (tag : Byte) (s : State),
    (∀ e, reopenTest s = some e →
      exec (.restart l tag) s = .next (answered l tag .restart (refuse e) (hear l s)))
    ∧ (reopenTest s = none →
      ∃ u, exec (.restart l tag) s = .next (answered l tag .restart ok u)
        ∧ u.cfg = s.cfg ∧ u.flu = s.flu ∧ u.pending = s.pending
        ∧ (∀ v, u.vol v = Vol.reset ∧ u.gateOpen v = false)
        ∧ (∀ g, (u.gauge g).sample = none ∧ (u.gauge g).asserted = false) ∧ u.pec.blanking = some 0
        ∧ u.rma = ⟨[], []⟩ ∧ u.gat = Gat.reset ∧ u.hlm = ⟨false, false⟩ ∧ (∀ c k, u.gen c k = Generator.reset)
        ∧ (∀ c, u.reuOf c = Reu.reset) ∧ u.tiu = Tiu.reset
        ∧ (∀ c, u.pec.emission.get c = none ∧ u.detector c = ⟨false, 0, 0, none⟩) ∧ (∀ a, u.pec.aux.get a = none)
        ∧ (∀ g, (u.gauge g).prevUnder = false ∧ (u.gauge g).prevOver = false)
        ∧ (∀ d, (u.device d).failed = false ∧ (u.device d).noAnswers = 0 ∧ (u.device d).written = none
            ∧ (u.device d).consecutive = 0 ∧ (u.device d).reading = none)
        ∧ (∀ c k, u.check c k = ⟨0, 0⟩) ∧ u.dbc.scanPos = 1
        ∧ (∀ tr, s.dbc.inFlight = some tr → u.dbc.inFlight = some { tr with discarded := true } ∧ u.dbc.writes = 0)
        ∧ (s.dbc.inFlight = none → u.dbc.writes = 1
            ∧ ∃ d w, u.dbc.inFlight = some ⟨d, .set w, 0, false⟩ ∧ w.value = safeValue d ∧ w.cls = .urgent)
        ∧ (∀ d, (∀ c k, d = .mfc c k → s.source c k ≠ 0) → PostStands d (safeValue d) .urgent u)
        ∧ (∀ c k, s.source c k = 0 → (u.device (.mfc c k)).pending = none)
        ∧ (∀ m, (u.port m).lost = false ∧ (u.port m).silence = some 0 ∧ (u.port m).slot = none
            ∧ (u.port m).sequence = 0 ∧ (u.port m).mask = 127#7 ∧ (u.port m).attention = false
            ∧ (u.port m).frameErrors = 0 ∧ (u.port m).linkDowns = 0 ∧ (u.port m).assembling = false
            ∧ (u.port m).inService = (s.port m).inService
            ∧ (∀ b, (u.port m).busy = some b ↔ (s.port m).busy = some b ∧ b.sending = true)))

/-- R161, R160: ALIVE is answered OK and does nothing but what every good frame does to the link. A refused request changes
nothing else either, but for a FULL refusal. -/
def Obligations.AliveAndRefusals : Prop :=
  (∀ (l : Link) (tag : Byte) (s : State), exec (.alive l tag) s = .next (answered l tag .alive ok (hear l s)))
    ∧ ∀ (l : Link) (req : Request) (s : State), (take l req s).2.code = .refused → (take l req s).2.reason ≠ some .full →
        (take l req s).1 = s
end

