-- ==== Sys2Proof/Laws/Containers.lean ====
section
/-! SUPPORT. Sys2Proof/Laws/Containers.lean: reading a container after a write to it: the entry written reads as written, every
other entry reads as before, and writing back what was read changes nothing. -/

namespace Sys2Proof

@[simp] theorem Per4.get_set_self {α : Type} (p : Per4 α) (c : Chamber) (x : α) : (p.set c x).get c = x := by
  cases c <;> rfl

@[simp] theorem Per4.get_set_ne {α : Type} (p : Per4 α) (c w : Chamber) (x : α) (h : w ≠ c) :
    (p.set c x).get w = p.get w := by
  cases c <;> cases w <;> first | rfl | exact absurd rfl h

@[simp] theorem Per4.set_get_self {α : Type} (p : Per4 α) (c : Chamber) : p.set c (p.get c) = p := by
  cases c <;> rfl

@[simp] theorem Per2.get_set_self {α : Type} (p : Per2 α) (l : Loadlock) (x : α) : (p.set l x).get l = x := by
  cases l <;> rfl

@[simp] theorem Per2.get_set_ne {α : Type} (p : Per2 α) (l w : Loadlock) (x : α) (h : w ≠ l) :
    (p.set l x).get w = p.get w := by
  cases l <;> cases w <;> first | rfl | exact absurd rfl h

@[simp] theorem Per2.set_get_self {α : Type} (p : Per2 α) (l : Loadlock) : p.set l (p.get l) = p := by
  cases l <;> rfl

@[simp] theorem Per6.get_set_self {α : Type} (p : Per6 α) (k : Chan) (x : α) : (p.set k x).get k = x := by
  cases k <;> rfl

@[simp] theorem Per6.get_set_ne {α : Type} (p : Per6 α) (k w : Chan) (x : α) (h : w ≠ k) :
    (p.set k x).get w = p.get w := by
  cases k <;> cases w <;> first | rfl | exact absurd rfl h

@[simp] theorem Per6.set_get_self {α : Type} (p : Per6 α) (k : Chan) : p.set k (p.get k) = p := by
  cases k <;> rfl

@[simp] theorem Per3.get_set_self {α : Type} (p : Per3 α) (a : Aux) (x : α) : (p.set a x).get a = x := by
  cases a <;> rfl

@[simp] theorem Per3.get_set_ne {α : Type} (p : Per3 α) (a w : Aux) (x : α) (h : w ≠ a) :
    (p.set a x).get w = p.get w := by
  cases a <;> cases w <;> first | rfl | exact absurd rfl h

@[simp] theorem Per3.set_get_self {α : Type} (p : Per3 α) (a : Aux) : p.set a (p.get a) = p := by
  cases a <;> rfl

@[simp] theorem Per4.getK_setK_self {α : Type} (p : Per24 α) (c : Chamber) (k : Chan) (x : α) :
    (p.setK c k x).getK c k = x := by
  simp [Per4.getK, Per4.setK]

@[simp] theorem Per4.getK_setK_ne {α : Type} (p : Per24 α) (c d : Chamber) (k j : Chan) (x : α) (h : (d, j) ≠ (c, k)) :
    (p.setK c k x).getK d j = p.getK d j := by
  unfold Per4.getK Per4.setK
  by_cases hc : d = c
  · subst hc
    have hj : j ≠ k := fun e => h (by rw [e])
    simp [hj]
  · simp [hc]

@[simp] theorem Per4.setK_getK_self {α : Type} (p : Per24 α) (c : Chamber) (k : Chan) : p.setK c k (p.getK c k) = p := by
  simp [Per4.getK, Per4.setK]

@[simp] theorem Per5.get_set_self {α : Type} (p : Per5 α) (l : Link) (x : α) : (p.set l x).get l = x := by
  cases l <;> simp [Per5.get, Per5.set]

@[simp] theorem Per5.get_set_ne {α : Type} (p : Per5 α) (l w : Link) (x : α) (h : w ≠ l) :
    (p.set l x).get w = p.get w := by
  cases l <;> cases w <;> simp_all [Per5.get, Per5.set]

@[simp] theorem Per5.set_get_self {α : Type} (p : Per5 α) (l : Link) : p.set l (p.get l) = p := by
  cases l <;> simp [Per5.get, Per5.set]

@[simp] theorem Per5.getT_setT_self {α : Type} (p : Per5 α) (t : Turbo) (x : α) : (p.setT t x).getT t = x := by
  cases t <;> simp [Per5.getT, Per5.setT]

@[simp] theorem Per5.getT_setT_ne {α : Type} (p : Per5 α) (t w : Turbo) (x : α) (h : w ≠ t) :
    (p.setT t x).getT w = p.getT w := by
  cases t <;> cases w <;> simp_all [Per5.getT, Per5.setT]

@[simp] theorem Per5.setT_getT_self {α : Type} (p : Per5 α) (t : Turbo) : p.setT t (p.getT t) = p := by
  cases t <;> simp [Per5.getT, Per5.setT]

@[simp] theorem Per7.get_set_self {α : Type} (p : Per7 α) (v : Volume) (x : α) : (p.set v x).get v = x := by
  cases v <;> simp [Per7.get, Per7.set]

@[simp] theorem Per7.get_set_ne {α : Type} (p : Per7 α) (v w : Volume) (x : α) (h : w ≠ v) :
    (p.set v x).get w = p.get w := by
  cases v <;> cases w <;> simp_all [Per7.get, Per7.set]

@[simp] theorem Per7.set_get_self {α : Type} (p : Per7 α) (v : Volume) : p.set v (p.get v) = p := by
  cases v <;> simp [Per7.get, Per7.set]

@[simp] theorem Per9.get_set_self {α : Type} (p : Per9 α) (g : Gauge) (x : α) : (p.set g x).get g = x := by
  cases g <;> simp [Per9.get, Per9.set]

@[simp] theorem Per9.get_set_ne {α : Type} (p : Per9 α) (g w : Gauge) (x : α) (h : w ≠ g) :
    (p.set g x).get w = p.get w := by
  cases g <;> cases w <;> simp_all [Per9.get, Per9.set]

@[simp] theorem Per9.set_get_self {α : Type} (p : Per9 α) (g : Gauge) : p.set g (p.get g) = p := by
  cases g <;> simp [Per9.get, Per9.set]

@[simp] theorem Per28.get_set_self {α : Type} (p : Per28 α) (d : Device) (x : α) : (p.set d x).get d = x := by
  cases d <;> simp [Per28.get, Per28.set]

@[simp] theorem Per28.get_set_ne {α : Type} (p : Per28 α) (d w : Device) (x : α) (h : w ≠ d) :
    (p.set d x).get w = p.get w := by
  cases d <;> cases w <;> simp_all [Per28.get, Per28.set]

@[simp] theorem Per28.set_get_self {α : Type} (p : Per28 α) (d : Device) : p.set d (p.get d) = p := by
  cases d <;> simp [Per28.get, Per28.set]

@[simp] theorem PerSlit.get_set_self {α : Type} (p : PerSlit α) (u : Slit) (x : α) : (p.set u x).get u = x := by
  cases u <;> simp [PerSlit.get, PerSlit.set]

@[simp] theorem PerSlit.get_set_ne {α : Type} (p : PerSlit α) (u w : Slit) (x : α) (h : w ≠ u) :
    (p.set u x).get w = p.get w := by
  cases u <;> cases w <;> simp_all [PerSlit.get, PerSlit.set]

@[simp] theorem PerSlit.set_get_self {α : Type} (p : PerSlit α) (u : Slit) : p.set u (p.get u) = p := by
  cases u <;> simp [PerSlit.get, PerSlit.set]

@[simp] theorem Per18.get_set_self {α : Type} (p : Per18 α) (f : InputFn) (x : α) : (p.set f x).get f = x := by
  cases f <;> simp [Per18.get, Per18.set]

@[simp] theorem Per18.get_set_ne {α : Type} (p : Per18 α) (f w : InputFn) (x : α) (h : w ≠ f) :
    (p.set f x).get w = p.get w := by
  cases f <;> cases w <;> simp_all [Per18.get, Per18.set]

@[simp] theorem Per18.set_get_self {α : Type} (p : Per18 α) (f : InputFn) : p.set f (p.get f) = p := by
  cases f <;> simp [Per18.get, Per18.set]

@[simp] theorem Per4.get_fill {α : Type} (x : α) (c : Chamber) : (Per4.fill x).get c = x := by
  cases c <;> rfl

@[simp] theorem Per2.get_fill {α : Type} (x : α) (l : Loadlock) : (Per2.fill x).get l = x := by
  cases l <;> rfl

@[simp] theorem Per6.get_fill {α : Type} (x : α) (k : Chan) : (Per6.fill x).get k = x := by
  cases k <;> rfl

@[simp] theorem Per3.get_fill {α : Type} (x : α) (a : Aux) : (Per3.fill x).get a = x := by
  cases a <;> rfl

@[simp] theorem Per5.get_fill {α : Type} (x : α) (l : Link) : (Per5.fill x).get l = x := by
  cases l <;> simp [Per5.get, Per5.fill]

@[simp] theorem Per5.getT_fill {α : Type} (x : α) (t : Turbo) : (Per5.fill x).getT t = x := by
  cases t <;> simp [Per5.getT, Per5.fill]

@[simp] theorem Per7.get_fill {α : Type} (x : α) (v : Volume) : (Per7.fill x).get v = x := by
  cases v <;> simp [Per7.get, Per7.fill]

@[simp] theorem Per9.get_fill {α : Type} (x : α) (g : Gauge) : (Per9.fill x).get g = x := by
  cases g <;> simp [Per9.get, Per9.fill]

@[simp] theorem PerSlit.get_fill {α : Type} (x : α) (w : Slit) : (PerSlit.fill x).get w = x := by
  cases w <;> simp [PerSlit.get, PerSlit.fill]

@[simp] theorem Per18.get_fill {α : Type} (x : α) (f : InputFn) : (Per18.fill x).get f = x := by
  cases f <;> simp [Per18.get, Per18.fill]

@[simp] theorem Per4.getK_fill {α : Type} (x : α) (c : Chamber) (k : Chan) :
    (Per4.fill (Per6.fill x)).getK c k = x := by
  simp [Per4.getK]

@[simp] theorem Per28.get_fill {α : Type} (x : α) (d : Device) : (Per28.fill x).get d = x := by
  cases d <;> simp [Per28.get, Per28.fill]

/-! ## For every one of them -/

theorem Chamber.forall_iff {p : Chamber → Prop} : (∀ c, p c) ↔ p .c1 ∧ p .c2 ∧ p .c3 ∧ p .c4 :=
  ⟨fun h => ⟨h _, h _, h _, h _⟩, fun ⟨h1, h2, h3, h4⟩ c => by cases c <;> assumption⟩

theorem Loadlock.forall_iff {p : Loadlock → Prop} : (∀ l, p l) ↔ p .a ∧ p .b :=
  ⟨fun h => ⟨h _, h _⟩, fun ⟨h1, h2⟩ l => by cases l <;> assumption⟩

theorem Chan.forall_iff {p : Chan → Prop} : (∀ k, p k) ↔ p .k1 ∧ p .k2 ∧ p .k3 ∧ p .k4 ∧ p .k5 ∧ p .k6 :=
  ⟨fun h => ⟨h _, h _, h _, h _, h _, h _⟩, fun ⟨h1, h2, h3, h4, h5, h6⟩ k => by cases k <;> assumption⟩

theorem Volume.forall_iff {p : Volume → Prop} : (∀ v, p v) ↔ (∀ c, p (.ch c)) ∧ p .tc ∧ ∀ l, p (.ll l) :=
  ⟨fun h => ⟨fun _ => h _, h _, fun _ => h _⟩, fun ⟨h1, h2, h3⟩ v => by
    rcases v with c | _ | l
    · exact h1 c
    · exact h2
    · exact h3 l⟩

theorem Link.forall_iff {p : Link → Prop} : (∀ l, p l) ↔ (∀ c, p (.cc c)) ∧ p .txc :=
  ⟨fun h => ⟨fun _ => h _, h _⟩, fun ⟨h1, h2⟩ l => by
    rcases l with c | _
    · exact h1 c
    · exact h2⟩

theorem Gauge.forall_iff {p : Gauge → Prop} : (∀ g, p g) ↔ (∀ v, p (.vol v)) ∧ p .manifold ∧ p .header :=
  ⟨fun h => ⟨fun _ => h _, h _, h _⟩, fun ⟨h1, h2, h3⟩ g => by
    rcases g with v | _ | _
    · exact h1 v
    · exact h2
    · exact h3⟩

theorem Slit.forall_iff {p : Slit → Prop} : (∀ w, p w) ↔ (∀ c, p (.ch c)) ∧ ∀ l, p (.ll l) :=
  ⟨fun h => ⟨fun _ => h _, fun _ => h _⟩, fun ⟨h1, h2⟩ w => by
    rcases w with c | l
    · exact h1 c
    · exact h2 l⟩

theorem Device.forall_iff {p : Device → Prop} : (∀ d, p d) ↔ (∀ c k, p (.mfc c k)) ∧ ∀ c, p (.throttle c) :=
  ⟨fun h => ⟨fun _ _ => h _, fun _ => h _⟩, fun ⟨h1, h2⟩ d => by
    rcases d with ⟨c, k⟩ | c
    · exact h1 c k
    · exact h2 c⟩

/-! ## The numbers name each thing once -/

theorem Volume.ofNum_num (v : Volume) : Volume.ofNum v.num = some v := by
  rcases v with c | _ | l
  · cases c <;> rfl
  · rfl
  · cases l <;> rfl

theorem Volume.mem_all (v : Volume) : v ∈ Volume.all := by
  rcases v with c | _ | l
  · cases c <;> decide
  · decide
  · cases l <;> decide

theorem Chamber.mem_all (c : Chamber) : c ∈ Chamber.all := by cases c <;> decide

theorem Chan.mem_all (k : Chan) : k ∈ Chan.all := by cases k <;> decide

theorem Link.mem_all (l : Link) : l ∈ Link.all := by
  rcases l with c | _
  · cases c <;> decide
  · decide

theorem Gauge.mem_all (g : Gauge) : g ∈ Gauge.all := by
  rcases g with v | _ | _
  · rcases v with c | _ | l
    · cases c <;> decide
    · decide
    · cases l <;> decide
  · decide
  · decide

theorem mem_channels (c : Chamber) (k : Chan) : (c, k) ∈ channels := by cases c <;> cases k <;> decide

theorem Device.ofAddr_addr (d : Device) : Device.ofAddr d.addr = some d := by
  rcases d with ⟨c, k⟩ | c
  · cases c <;> cases k <;> rfl
  · cases c <;> rfl

theorem Device.mem_all (d : Device) : d ∈ Device.all := by
  rcases d with ⟨c, k⟩ | c
  · cases c <;> cases k <;> decide
  · cases c <;> decide

end Sys2Proof
end

