-- ==== Sys2Proof/Laws/State.lean ====
section
/-! SUPPORT. Sys2Proof/Laws/State.lean: one lemma for each field and each reading after each update of one piece of the state:
what the update writes reads as written, everything else reads as before. -/

namespace Sys2Proof.Machine

open Sys2Proof

/-! ## setVol -/

@[simp] theorem State.setVol_gates (s : State) (v : Volume) (x : Vol) : (s.setVol v x).gates = s.gates := rfl
@[simp] theorem State.setVol_pec (s : State) (v : Volume) (x : Vol) : (s.setVol v x).pec = s.pec := rfl
@[simp] theorem State.setVol_rma (s : State) (v : Volume) (x : Vol) : (s.setVol v x).rma = s.rma := rfl
@[simp] theorem State.setVol_gat (s : State) (v : Volume) (x : Vol) : (s.setVol v x).gat = s.gat := rfl
@[simp] theorem State.setVol_hlm (s : State) (v : Volume) (x : Vol) : (s.setVol v x).hlm = s.hlm := rfl
@[simp] theorem State.setVol_fru (s : State) (v : Volume) (x : Vol) : (s.setVol v x).fru = s.fru := rfl
@[simp] theorem State.setVol_dbc (s : State) (v : Volume) (x : Vol) : (s.setVol v x).dbc = s.dbc := rfl
@[simp] theorem State.setVol_reu (s : State) (v : Volume) (x : Vol) : (s.setVol v x).reu = s.reu := rfl
@[simp] theorem State.setVol_tiu (s : State) (v : Volume) (x : Vol) : (s.setVol v x).tiu = s.tiu := rfl
@[simp] theorem State.setVol_flu (s : State) (v : Volume) (x : Vol) : (s.setVol v x).flu = s.flu := rfl
@[simp] theorem State.setVol_cfg (s : State) (v : Volume) (x : Vol) : (s.setVol v x).cfg = s.cfg := rfl
@[simp] theorem State.setVol_ports (s : State) (v : Volume) (x : Vol) : (s.setVol v x).ports = s.ports := rfl
@[simp] theorem State.setVol_base (s : State) (v : Volume) (x : Vol) : (s.setVol v x).base = s.base := rfl
@[simp] theorem State.setVol_outbox (s : State) (v : Volume) (x : Vol) : (s.setVol v x).outbox = s.outbox := rfl
@[simp] theorem State.setVol_pending (s : State) (v : Volume) (x : Vol) : (s.setVol v x).pending = s.pending := rfl
@[simp] theorem State.setVol_reuOf (s : State) (v : Volume) (x : Vol) (b : Chamber) :
    (s.setVol v x).reuOf b = s.reuOf b := rfl
@[simp] theorem State.setVol_detector (s : State) (v : Volume) (x : Vol) (b : Chamber) :
    (s.setVol v x).detector b = s.detector b := rfl
@[simp] theorem State.setVol_gauge (s : State) (v : Volume) (x : Vol) (h : Gauge) :
    (s.setVol v x).gauge h = s.gauge h := rfl
@[simp] theorem State.setVol_row (s : State) (v : Volume) (x : Vol) (b : Chamber) (j : Chan) :
    (s.setVol v x).row b j = s.row b j := rfl
@[simp] theorem State.setVol_gen (s : State) (v : Volume) (x : Vol) (b : Chamber) (j : Chan) :
    (s.setVol v x).gen b j = s.gen b j := rfl
@[simp] theorem State.setVol_device (s : State) (v : Volume) (x : Vol) (e : Device) :
    (s.setVol v x).device e = s.device e := rfl
@[simp] theorem State.setVol_check (s : State) (v : Volume) (x : Vol) (b : Chamber) (j : Chan) :
    (s.setVol v x).check b j = s.check b j := rfl
@[simp] theorem State.setVol_port (s : State) (v : Volume) (x : Vol) (m : Link) :
    (s.setVol v x).port m = s.port m := rfl
@[simp] theorem State.setVol_fn (s : State) (v : Volume) (x : Vol) (i : InputFn) :
    (s.setVol v x).fn i = s.fn i := rfl
@[simp] theorem State.setVol_items (s : State) (v : Volume) (x : Vol) :
    (s.setVol v x).items = s.items := rfl
@[simp] theorem State.setVol_fitted (s : State) (v : Volume) (x : Vol) (w : Volume) :
    (s.setVol v x).fitted w = s.fitted w := rfl
@[simp] theorem State.setVol_capacity (s : State) (v : Volume) (x : Vol) (w : Volume) :
    (s.setVol v x).capacity w = s.capacity w := rfl
@[simp] theorem State.setVol_source (s : State) (v : Volume) (x : Vol) (b : Chamber) (j : Chan) :
    (s.setVol v x).source b j = s.source b j := rfl
@[simp] theorem State.setVol_code_opt (s : State) (v : Volume) (x : Vol) (h : Gauge) :
    (s.setVol v x).code? h = s.code? h := rfl
@[simp] theorem State.setVol_gateOpen (s : State) (v : Volume) (x : Vol) (w : Volume) :
    (s.setVol v x).gateOpen w = s.gateOpen w := rfl
@[simp] theorem State.setVol_inGasQueue (s : State) (v : Volume) (x : Vol) (b : Chamber) :
    (s.setVol v x).inGasQueue b = s.inGasQueue b := rfl
@[simp] theorem State.setVol_hasCommitment (s : State) (v : Volume) (x : Vol) (b : Chamber) :
    (s.setVol v x).hasCommitment b = s.hasCommitment b := rfl
@[simp] theorem State.setVol_headerTotal (s : State) (v : Volume) (x : Vol) :
    (s.setVol v x).headerTotal = s.headerTotal := rfl
@[simp] theorem State.setVol_grant_opt (s : State) (v : Volume) (x : Vol) (w : Volume) :
    (s.setVol v x).grant? w = s.grant? w := rfl
@[simp] theorem State.setVol_inRoughQueue (s : State) (v : Volume) (x : Vol) (w : Volume) :
    (s.setVol v x).inRoughQueue w = s.inRoughQueue w := rfl
@[simp] theorem State.setVol_waits (s : State) (v : Volume) (x : Vol) (w : Volume) :
    (s.setVol v x).waits w = s.waits w := rfl
@[simp] theorem State.setVol_permit (s : State) (v : Volume) (x : Vol) (b : Chamber) :
    (s.setVol v x).permit b = s.permit b := rfl

/-! ## modVol -/

@[simp] theorem State.modVol_gates (s : State) (v : Volume) (f : Vol → Vol) : (s.modVol v f).gates = s.gates := rfl
@[simp] theorem State.modVol_pec (s : State) (v : Volume) (f : Vol → Vol) : (s.modVol v f).pec = s.pec := rfl
@[simp] theorem State.modVol_rma (s : State) (v : Volume) (f : Vol → Vol) : (s.modVol v f).rma = s.rma := rfl
@[simp] theorem State.modVol_gat (s : State) (v : Volume) (f : Vol → Vol) : (s.modVol v f).gat = s.gat := rfl
@[simp] theorem State.modVol_hlm (s : State) (v : Volume) (f : Vol → Vol) : (s.modVol v f).hlm = s.hlm := rfl
@[simp] theorem State.modVol_fru (s : State) (v : Volume) (f : Vol → Vol) : (s.modVol v f).fru = s.fru := rfl
@[simp] theorem State.modVol_dbc (s : State) (v : Volume) (f : Vol → Vol) : (s.modVol v f).dbc = s.dbc := rfl
@[simp] theorem State.modVol_reu (s : State) (v : Volume) (f : Vol → Vol) : (s.modVol v f).reu = s.reu := rfl
@[simp] theorem State.modVol_tiu (s : State) (v : Volume) (f : Vol → Vol) : (s.modVol v f).tiu = s.tiu := rfl
@[simp] theorem State.modVol_flu (s : State) (v : Volume) (f : Vol → Vol) : (s.modVol v f).flu = s.flu := rfl
@[simp] theorem State.modVol_cfg (s : State) (v : Volume) (f : Vol → Vol) : (s.modVol v f).cfg = s.cfg := rfl
@[simp] theorem State.modVol_ports (s : State) (v : Volume) (f : Vol → Vol) : (s.modVol v f).ports = s.ports := rfl
@[simp] theorem State.modVol_base (s : State) (v : Volume) (f : Vol → Vol) : (s.modVol v f).base = s.base := rfl
@[simp] theorem State.modVol_outbox (s : State) (v : Volume) (f : Vol → Vol) : (s.modVol v f).outbox = s.outbox := rfl
@[simp] theorem State.modVol_pending (s : State) (v : Volume) (f : Vol → Vol) : (s.modVol v f).pending = s.pending := rfl
@[simp] theorem State.modVol_reuOf (s : State) (v : Volume) (f : Vol → Vol) (b : Chamber) :
    (s.modVol v f).reuOf b = s.reuOf b := rfl
@[simp] theorem State.modVol_detector (s : State) (v : Volume) (f : Vol → Vol) (b : Chamber) :
    (s.modVol v f).detector b = s.detector b := rfl
@[simp] theorem State.modVol_gauge (s : State) (v : Volume) (f : Vol → Vol) (h : Gauge) :
    (s.modVol v f).gauge h = s.gauge h := rfl
@[simp] theorem State.modVol_row (s : State) (v : Volume) (f : Vol → Vol) (b : Chamber) (j : Chan) :
    (s.modVol v f).row b j = s.row b j := rfl
@[simp] theorem State.modVol_gen (s : State) (v : Volume) (f : Vol → Vol) (b : Chamber) (j : Chan) :
    (s.modVol v f).gen b j = s.gen b j := rfl
@[simp] theorem State.modVol_device (s : State) (v : Volume) (f : Vol → Vol) (e : Device) :
    (s.modVol v f).device e = s.device e := rfl
@[simp] theorem State.modVol_check (s : State) (v : Volume) (f : Vol → Vol) (b : Chamber) (j : Chan) :
    (s.modVol v f).check b j = s.check b j := rfl
@[simp] theorem State.modVol_port (s : State) (v : Volume) (f : Vol → Vol) (m : Link) :
    (s.modVol v f).port m = s.port m := rfl
@[simp] theorem State.modVol_fn (s : State) (v : Volume) (f : Vol → Vol) (i : InputFn) :
    (s.modVol v f).fn i = s.fn i := rfl
@[simp] theorem State.modVol_items (s : State) (v : Volume) (f : Vol → Vol) :
    (s.modVol v f).items = s.items := rfl
@[simp] theorem State.modVol_fitted (s : State) (v : Volume) (f : Vol → Vol) (w : Volume) :
    (s.modVol v f).fitted w = s.fitted w := rfl
@[simp] theorem State.modVol_capacity (s : State) (v : Volume) (f : Vol → Vol) (w : Volume) :
    (s.modVol v f).capacity w = s.capacity w := rfl
@[simp] theorem State.modVol_source (s : State) (v : Volume) (f : Vol → Vol) (b : Chamber) (j : Chan) :
    (s.modVol v f).source b j = s.source b j := rfl
@[simp] theorem State.modVol_code_opt (s : State) (v : Volume) (f : Vol → Vol) (h : Gauge) :
    (s.modVol v f).code? h = s.code? h := rfl
@[simp] theorem State.modVol_gateOpen (s : State) (v : Volume) (f : Vol → Vol) (w : Volume) :
    (s.modVol v f).gateOpen w = s.gateOpen w := rfl
@[simp] theorem State.modVol_inGasQueue (s : State) (v : Volume) (f : Vol → Vol) (b : Chamber) :
    (s.modVol v f).inGasQueue b = s.inGasQueue b := rfl
@[simp] theorem State.modVol_hasCommitment (s : State) (v : Volume) (f : Vol → Vol) (b : Chamber) :
    (s.modVol v f).hasCommitment b = s.hasCommitment b := rfl
@[simp] theorem State.modVol_headerTotal (s : State) (v : Volume) (f : Vol → Vol) :
    (s.modVol v f).headerTotal = s.headerTotal := rfl
@[simp] theorem State.modVol_grant_opt (s : State) (v : Volume) (f : Vol → Vol) (w : Volume) :
    (s.modVol v f).grant? w = s.grant? w := rfl
@[simp] theorem State.modVol_inRoughQueue (s : State) (v : Volume) (f : Vol → Vol) (w : Volume) :
    (s.modVol v f).inRoughQueue w = s.inRoughQueue w := rfl
@[simp] theorem State.modVol_waits (s : State) (v : Volume) (f : Vol → Vol) (w : Volume) :
    (s.modVol v f).waits w = s.waits w := rfl
@[simp] theorem State.modVol_permit (s : State) (v : Volume) (f : Vol → Vol) (b : Chamber) :
    (s.modVol v f).permit b = s.permit b := rfl

/-! ## setReu -/

@[simp] theorem State.setReu_vols (s : State) (c : Chamber) (x : Reu) : (s.setReu c x).vols = s.vols := rfl
@[simp] theorem State.setReu_gates (s : State) (c : Chamber) (x : Reu) : (s.setReu c x).gates = s.gates := rfl
@[simp] theorem State.setReu_pec (s : State) (c : Chamber) (x : Reu) : (s.setReu c x).pec = s.pec := rfl
@[simp] theorem State.setReu_rma (s : State) (c : Chamber) (x : Reu) : (s.setReu c x).rma = s.rma := rfl
@[simp] theorem State.setReu_gat (s : State) (c : Chamber) (x : Reu) : (s.setReu c x).gat = s.gat := rfl
@[simp] theorem State.setReu_hlm (s : State) (c : Chamber) (x : Reu) : (s.setReu c x).hlm = s.hlm := rfl
@[simp] theorem State.setReu_fru (s : State) (c : Chamber) (x : Reu) : (s.setReu c x).fru = s.fru := rfl
@[simp] theorem State.setReu_dbc (s : State) (c : Chamber) (x : Reu) : (s.setReu c x).dbc = s.dbc := rfl
@[simp] theorem State.setReu_tiu (s : State) (c : Chamber) (x : Reu) : (s.setReu c x).tiu = s.tiu := rfl
@[simp] theorem State.setReu_flu (s : State) (c : Chamber) (x : Reu) : (s.setReu c x).flu = s.flu := rfl
@[simp] theorem State.setReu_cfg (s : State) (c : Chamber) (x : Reu) : (s.setReu c x).cfg = s.cfg := rfl
@[simp] theorem State.setReu_ports (s : State) (c : Chamber) (x : Reu) : (s.setReu c x).ports = s.ports := rfl
@[simp] theorem State.setReu_base (s : State) (c : Chamber) (x : Reu) : (s.setReu c x).base = s.base := rfl
@[simp] theorem State.setReu_outbox (s : State) (c : Chamber) (x : Reu) : (s.setReu c x).outbox = s.outbox := rfl
@[simp] theorem State.setReu_pending (s : State) (c : Chamber) (x : Reu) : (s.setReu c x).pending = s.pending := rfl
@[simp] theorem State.setReu_vol (s : State) (c : Chamber) (x : Reu) (w : Volume) :
    (s.setReu c x).vol w = s.vol w := rfl
@[simp] theorem State.setReu_detector (s : State) (c : Chamber) (x : Reu) (b : Chamber) :
    (s.setReu c x).detector b = s.detector b := rfl
@[simp] theorem State.setReu_gauge (s : State) (c : Chamber) (x : Reu) (h : Gauge) :
    (s.setReu c x).gauge h = s.gauge h := rfl
@[simp] theorem State.setReu_row (s : State) (c : Chamber) (x : Reu) (b : Chamber) (j : Chan) :
    (s.setReu c x).row b j = s.row b j := rfl
@[simp] theorem State.setReu_gen (s : State) (c : Chamber) (x : Reu) (b : Chamber) (j : Chan) :
    (s.setReu c x).gen b j = s.gen b j := rfl
@[simp] theorem State.setReu_device (s : State) (c : Chamber) (x : Reu) (e : Device) :
    (s.setReu c x).device e = s.device e := rfl
@[simp] theorem State.setReu_check (s : State) (c : Chamber) (x : Reu) (b : Chamber) (j : Chan) :
    (s.setReu c x).check b j = s.check b j := rfl
@[simp] theorem State.setReu_port (s : State) (c : Chamber) (x : Reu) (m : Link) :
    (s.setReu c x).port m = s.port m := rfl
@[simp] theorem State.setReu_fn (s : State) (c : Chamber) (x : Reu) (i : InputFn) :
    (s.setReu c x).fn i = s.fn i := rfl
@[simp] theorem State.setReu_items (s : State) (c : Chamber) (x : Reu) :
    (s.setReu c x).items = s.items := rfl
@[simp] theorem State.setReu_fitted (s : State) (c : Chamber) (x : Reu) (w : Volume) :
    (s.setReu c x).fitted w = s.fitted w := rfl
@[simp] theorem State.setReu_capacity (s : State) (c : Chamber) (x : Reu) (w : Volume) :
    (s.setReu c x).capacity w = s.capacity w := rfl
@[simp] theorem State.setReu_source (s : State) (c : Chamber) (x : Reu) (b : Chamber) (j : Chan) :
    (s.setReu c x).source b j = s.source b j := rfl
@[simp] theorem State.setReu_code_opt (s : State) (c : Chamber) (x : Reu) (h : Gauge) :
    (s.setReu c x).code? h = s.code? h := rfl
@[simp] theorem State.setReu_gateOpen (s : State) (c : Chamber) (x : Reu) (w : Volume) :
    (s.setReu c x).gateOpen w = s.gateOpen w := rfl
@[simp] theorem State.setReu_inGasQueue (s : State) (c : Chamber) (x : Reu) (b : Chamber) :
    (s.setReu c x).inGasQueue b = s.inGasQueue b := rfl
@[simp] theorem State.setReu_hasCommitment (s : State) (c : Chamber) (x : Reu) (b : Chamber) :
    (s.setReu c x).hasCommitment b = s.hasCommitment b := rfl
@[simp] theorem State.setReu_headerTotal (s : State) (c : Chamber) (x : Reu) :
    (s.setReu c x).headerTotal = s.headerTotal := rfl
@[simp] theorem State.setReu_grant_opt (s : State) (c : Chamber) (x : Reu) (w : Volume) :
    (s.setReu c x).grant? w = s.grant? w := rfl
@[simp] theorem State.setReu_inRoughQueue (s : State) (c : Chamber) (x : Reu) (w : Volume) :
    (s.setReu c x).inRoughQueue w = s.inRoughQueue w := rfl
@[simp] theorem State.setReu_waits (s : State) (c : Chamber) (x : Reu) (w : Volume) :
    (s.setReu c x).waits w = s.waits w := rfl
@[simp] theorem State.setReu_permit (s : State) (c : Chamber) (x : Reu) (b : Chamber) :
    (s.setReu c x).permit b = s.permit b := rfl

/-! ## modReu -/

@[simp] theorem State.modReu_vols (s : State) (c : Chamber) (f : Reu → Reu) : (s.modReu c f).vols = s.vols := rfl
@[simp] theorem State.modReu_gates (s : State) (c : Chamber) (f : Reu → Reu) : (s.modReu c f).gates = s.gates := rfl
@[simp] theorem State.modReu_pec (s : State) (c : Chamber) (f : Reu → Reu) : (s.modReu c f).pec = s.pec := rfl
@[simp] theorem State.modReu_rma (s : State) (c : Chamber) (f : Reu → Reu) : (s.modReu c f).rma = s.rma := rfl
@[simp] theorem State.modReu_gat (s : State) (c : Chamber) (f : Reu → Reu) : (s.modReu c f).gat = s.gat := rfl
@[simp] theorem State.modReu_hlm (s : State) (c : Chamber) (f : Reu → Reu) : (s.modReu c f).hlm = s.hlm := rfl
@[simp] theorem State.modReu_fru (s : State) (c : Chamber) (f : Reu → Reu) : (s.modReu c f).fru = s.fru := rfl
@[simp] theorem State.modReu_dbc (s : State) (c : Chamber) (f : Reu → Reu) : (s.modReu c f).dbc = s.dbc := rfl
@[simp] theorem State.modReu_tiu (s : State) (c : Chamber) (f : Reu → Reu) : (s.modReu c f).tiu = s.tiu := rfl
@[simp] theorem State.modReu_flu (s : State) (c : Chamber) (f : Reu → Reu) : (s.modReu c f).flu = s.flu := rfl
@[simp] theorem State.modReu_cfg (s : State) (c : Chamber) (f : Reu → Reu) : (s.modReu c f).cfg = s.cfg := rfl
@[simp] theorem State.modReu_ports (s : State) (c : Chamber) (f : Reu → Reu) : (s.modReu c f).ports = s.ports := rfl
@[simp] theorem State.modReu_base (s : State) (c : Chamber) (f : Reu → Reu) : (s.modReu c f).base = s.base := rfl
@[simp] theorem State.modReu_outbox (s : State) (c : Chamber) (f : Reu → Reu) : (s.modReu c f).outbox = s.outbox := rfl
@[simp] theorem State.modReu_pending (s : State) (c : Chamber) (f : Reu → Reu) : (s.modReu c f).pending = s.pending := rfl
@[simp] theorem State.modReu_vol (s : State) (c : Chamber) (f : Reu → Reu) (w : Volume) :
    (s.modReu c f).vol w = s.vol w := rfl
@[simp] theorem State.modReu_detector (s : State) (c : Chamber) (f : Reu → Reu) (b : Chamber) :
    (s.modReu c f).detector b = s.detector b := rfl
@[simp] theorem State.modReu_gauge (s : State) (c : Chamber) (f : Reu → Reu) (h : Gauge) :
    (s.modReu c f).gauge h = s.gauge h := rfl
@[simp] theorem State.modReu_row (s : State) (c : Chamber) (f : Reu → Reu) (b : Chamber) (j : Chan) :
    (s.modReu c f).row b j = s.row b j := rfl
@[simp] theorem State.modReu_gen (s : State) (c : Chamber) (f : Reu → Reu) (b : Chamber) (j : Chan) :
    (s.modReu c f).gen b j = s.gen b j := rfl
@[simp] theorem State.modReu_device (s : State) (c : Chamber) (f : Reu → Reu) (e : Device) :
    (s.modReu c f).device e = s.device e := rfl
@[simp] theorem State.modReu_check (s : State) (c : Chamber) (f : Reu → Reu) (b : Chamber) (j : Chan) :
    (s.modReu c f).check b j = s.check b j := rfl
@[simp] theorem State.modReu_port (s : State) (c : Chamber) (f : Reu → Reu) (m : Link) :
    (s.modReu c f).port m = s.port m := rfl
@[simp] theorem State.modReu_fn (s : State) (c : Chamber) (f : Reu → Reu) (i : InputFn) :
    (s.modReu c f).fn i = s.fn i := rfl
@[simp] theorem State.modReu_items (s : State) (c : Chamber) (f : Reu → Reu) :
    (s.modReu c f).items = s.items := rfl
@[simp] theorem State.modReu_fitted (s : State) (c : Chamber) (f : Reu → Reu) (w : Volume) :
    (s.modReu c f).fitted w = s.fitted w := rfl
@[simp] theorem State.modReu_capacity (s : State) (c : Chamber) (f : Reu → Reu) (w : Volume) :
    (s.modReu c f).capacity w = s.capacity w := rfl
@[simp] theorem State.modReu_source (s : State) (c : Chamber) (f : Reu → Reu) (b : Chamber) (j : Chan) :
    (s.modReu c f).source b j = s.source b j := rfl
@[simp] theorem State.modReu_code_opt (s : State) (c : Chamber) (f : Reu → Reu) (h : Gauge) :
    (s.modReu c f).code? h = s.code? h := rfl
@[simp] theorem State.modReu_gateOpen (s : State) (c : Chamber) (f : Reu → Reu) (w : Volume) :
    (s.modReu c f).gateOpen w = s.gateOpen w := rfl
@[simp] theorem State.modReu_inGasQueue (s : State) (c : Chamber) (f : Reu → Reu) (b : Chamber) :
    (s.modReu c f).inGasQueue b = s.inGasQueue b := rfl
@[simp] theorem State.modReu_hasCommitment (s : State) (c : Chamber) (f : Reu → Reu) (b : Chamber) :
    (s.modReu c f).hasCommitment b = s.hasCommitment b := rfl
@[simp] theorem State.modReu_headerTotal (s : State) (c : Chamber) (f : Reu → Reu) :
    (s.modReu c f).headerTotal = s.headerTotal := rfl
@[simp] theorem State.modReu_grant_opt (s : State) (c : Chamber) (f : Reu → Reu) (w : Volume) :
    (s.modReu c f).grant? w = s.grant? w := rfl
@[simp] theorem State.modReu_inRoughQueue (s : State) (c : Chamber) (f : Reu → Reu) (w : Volume) :
    (s.modReu c f).inRoughQueue w = s.inRoughQueue w := rfl
@[simp] theorem State.modReu_waits (s : State) (c : Chamber) (f : Reu → Reu) (w : Volume) :
    (s.modReu c f).waits w = s.waits w := rfl
@[simp] theorem State.modReu_permit (s : State) (c : Chamber) (f : Reu → Reu) (b : Chamber) :
    (s.modReu c f).permit b = s.permit b := rfl

/-! ## setDetector -/

@[simp] theorem State.setDetector_vols (s : State) (c : Chamber) (x : Detector) : (s.setDetector c x).vols = s.vols := rfl
@[simp] theorem State.setDetector_gates (s : State) (c : Chamber) (x : Detector) : (s.setDetector c x).gates = s.gates := rfl
@[simp] theorem State.setDetector_rma (s : State) (c : Chamber) (x : Detector) : (s.setDetector c x).rma = s.rma := rfl
@[simp] theorem State.setDetector_gat (s : State) (c : Chamber) (x : Detector) : (s.setDetector c x).gat = s.gat := rfl
@[simp] theorem State.setDetector_hlm (s : State) (c : Chamber) (x : Detector) : (s.setDetector c x).hlm = s.hlm := rfl
@[simp] theorem State.setDetector_fru (s : State) (c : Chamber) (x : Detector) : (s.setDetector c x).fru = s.fru := rfl
@[simp] theorem State.setDetector_dbc (s : State) (c : Chamber) (x : Detector) : (s.setDetector c x).dbc = s.dbc := rfl
@[simp] theorem State.setDetector_reu (s : State) (c : Chamber) (x : Detector) : (s.setDetector c x).reu = s.reu := rfl
@[simp] theorem State.setDetector_tiu (s : State) (c : Chamber) (x : Detector) : (s.setDetector c x).tiu = s.tiu := rfl
@[simp] theorem State.setDetector_flu (s : State) (c : Chamber) (x : Detector) : (s.setDetector c x).flu = s.flu := rfl
@[simp] theorem State.setDetector_cfg (s : State) (c : Chamber) (x : Detector) : (s.setDetector c x).cfg = s.cfg := rfl
@[simp] theorem State.setDetector_ports (s : State) (c : Chamber) (x : Detector) : (s.setDetector c x).ports = s.ports := rfl
@[simp] theorem State.setDetector_base (s : State) (c : Chamber) (x : Detector) : (s.setDetector c x).base = s.base := rfl
@[simp] theorem State.setDetector_outbox (s : State) (c : Chamber) (x : Detector) : (s.setDetector c x).outbox = s.outbox := rfl
@[simp] theorem State.setDetector_pending (s : State) (c : Chamber) (x : Detector) : (s.setDetector c x).pending = s.pending := rfl
@[simp] theorem State.setDetector_vol (s : State) (c : Chamber) (x : Detector) (w : Volume) :
    (s.setDetector c x).vol w = s.vol w := rfl
@[simp] theorem State.setDetector_reuOf (s : State) (c : Chamber) (x : Detector) (b : Chamber) :
    (s.setDetector c x).reuOf b = s.reuOf b := rfl
@[simp] theorem State.setDetector_gauge (s : State) (c : Chamber) (x : Detector) (h : Gauge) :
    (s.setDetector c x).gauge h = s.gauge h := rfl
@[simp] theorem State.setDetector_row (s : State) (c : Chamber) (x : Detector) (b : Chamber) (j : Chan) :
    (s.setDetector c x).row b j = s.row b j := rfl
@[simp] theorem State.setDetector_gen (s : State) (c : Chamber) (x : Detector) (b : Chamber) (j : Chan) :
    (s.setDetector c x).gen b j = s.gen b j := rfl
@[simp] theorem State.setDetector_device (s : State) (c : Chamber) (x : Detector) (e : Device) :
    (s.setDetector c x).device e = s.device e := rfl
@[simp] theorem State.setDetector_check (s : State) (c : Chamber) (x : Detector) (b : Chamber) (j : Chan) :
    (s.setDetector c x).check b j = s.check b j := rfl
@[simp] theorem State.setDetector_port (s : State) (c : Chamber) (x : Detector) (m : Link) :
    (s.setDetector c x).port m = s.port m := rfl
@[simp] theorem State.setDetector_fn (s : State) (c : Chamber) (x : Detector) (i : InputFn) :
    (s.setDetector c x).fn i = s.fn i := rfl
@[simp] theorem State.setDetector_items (s : State) (c : Chamber) (x : Detector) :
    (s.setDetector c x).items = s.items := rfl
@[simp] theorem State.setDetector_fitted (s : State) (c : Chamber) (x : Detector) (w : Volume) :
    (s.setDetector c x).fitted w = s.fitted w := rfl
@[simp] theorem State.setDetector_capacity (s : State) (c : Chamber) (x : Detector) (w : Volume) :
    (s.setDetector c x).capacity w = s.capacity w := rfl
@[simp] theorem State.setDetector_source (s : State) (c : Chamber) (x : Detector) (b : Chamber) (j : Chan) :
    (s.setDetector c x).source b j = s.source b j := rfl
@[simp] theorem State.setDetector_code_opt (s : State) (c : Chamber) (x : Detector) (h : Gauge) :
    (s.setDetector c x).code? h = s.code? h := rfl
@[simp] theorem State.setDetector_gateOpen (s : State) (c : Chamber) (x : Detector) (w : Volume) :
    (s.setDetector c x).gateOpen w = s.gateOpen w := rfl
@[simp] theorem State.setDetector_inGasQueue (s : State) (c : Chamber) (x : Detector) (b : Chamber) :
    (s.setDetector c x).inGasQueue b = s.inGasQueue b := rfl
@[simp] theorem State.setDetector_hasCommitment (s : State) (c : Chamber) (x : Detector) (b : Chamber) :
    (s.setDetector c x).hasCommitment b = s.hasCommitment b := rfl
@[simp] theorem State.setDetector_headerTotal (s : State) (c : Chamber) (x : Detector) :
    (s.setDetector c x).headerTotal = s.headerTotal := rfl
@[simp] theorem State.setDetector_grant_opt (s : State) (c : Chamber) (x : Detector) (w : Volume) :
    (s.setDetector c x).grant? w = s.grant? w := rfl
@[simp] theorem State.setDetector_inRoughQueue (s : State) (c : Chamber) (x : Detector) (w : Volume) :
    (s.setDetector c x).inRoughQueue w = s.inRoughQueue w := rfl
@[simp] theorem State.setDetector_waits (s : State) (c : Chamber) (x : Detector) (w : Volume) :
    (s.setDetector c x).waits w = s.waits w := rfl
@[simp] theorem State.setDetector_permit (s : State) (c : Chamber) (x : Detector) (b : Chamber) :
    (s.setDetector c x).permit b = s.permit b := rfl

/-! ## modDetector -/

@[simp] theorem State.modDetector_vols (s : State) (c : Chamber) (f : Detector → Detector) : (s.modDetector c f).vols = s.vols := rfl
@[simp] theorem State.modDetector_gates (s : State) (c : Chamber) (f : Detector → Detector) : (s.modDetector c f).gates = s.gates := rfl
@[simp] theorem State.modDetector_rma (s : State) (c : Chamber) (f : Detector → Detector) : (s.modDetector c f).rma = s.rma := rfl
@[simp] theorem State.modDetector_gat (s : State) (c : Chamber) (f : Detector → Detector) : (s.modDetector c f).gat = s.gat := rfl
@[simp] theorem State.modDetector_hlm (s : State) (c : Chamber) (f : Detector → Detector) : (s.modDetector c f).hlm = s.hlm := rfl
@[simp] theorem State.modDetector_fru (s : State) (c : Chamber) (f : Detector → Detector) : (s.modDetector c f).fru = s.fru := rfl
@[simp] theorem State.modDetector_dbc (s : State) (c : Chamber) (f : Detector → Detector) : (s.modDetector c f).dbc = s.dbc := rfl
@[simp] theorem State.modDetector_reu (s : State) (c : Chamber) (f : Detector → Detector) : (s.modDetector c f).reu = s.reu := rfl
@[simp] theorem State.modDetector_tiu (s : State) (c : Chamber) (f : Detector → Detector) : (s.modDetector c f).tiu = s.tiu := rfl
@[simp] theorem State.modDetector_flu (s : State) (c : Chamber) (f : Detector → Detector) : (s.modDetector c f).flu = s.flu := rfl
@[simp] theorem State.modDetector_cfg (s : State) (c : Chamber) (f : Detector → Detector) : (s.modDetector c f).cfg = s.cfg := rfl
@[simp] theorem State.modDetector_ports (s : State) (c : Chamber) (f : Detector → Detector) : (s.modDetector c f).ports = s.ports := rfl
@[simp] theorem State.modDetector_base (s : State) (c : Chamber) (f : Detector → Detector) : (s.modDetector c f).base = s.base := rfl
@[simp] theorem State.modDetector_outbox (s : State) (c : Chamber) (f : Detector → Detector) : (s.modDetector c f).outbox = s.outbox := rfl
@[simp] theorem State.modDetector_pending (s : State) (c : Chamber) (f : Detector → Detector) : (s.modDetector c f).pending = s.pending := rfl
@[simp] theorem State.modDetector_vol (s : State) (c : Chamber) (f : Detector → Detector) (w : Volume) :
    (s.modDetector c f).vol w = s.vol w := rfl
@[simp] theorem State.modDetector_reuOf (s : State) (c : Chamber) (f : Detector → Detector) (b : Chamber) :
    (s.modDetector c f).reuOf b = s.reuOf b := rfl
@[simp] theorem State.modDetector_gauge (s : State) (c : Chamber) (f : Detector → Detector) (h : Gauge) :
    (s.modDetector c f).gauge h = s.gauge h := rfl
@[simp] theorem State.modDetector_row (s : State) (c : Chamber) (f : Detector → Detector) (b : Chamber) (j : Chan) :
    (s.modDetector c f).row b j = s.row b j := rfl
@[simp] theorem State.modDetector_gen (s : State) (c : Chamber) (f : Detector → Detector) (b : Chamber) (j : Chan) :
    (s.modDetector c f).gen b j = s.gen b j := rfl
@[simp] theorem State.modDetector_device (s : State) (c : Chamber) (f : Detector → Detector) (e : Device) :
    (s.modDetector c f).device e = s.device e := rfl
@[simp] theorem State.modDetector_check (s : State) (c : Chamber) (f : Detector → Detector) (b : Chamber) (j : Chan) :
    (s.modDetector c f).check b j = s.check b j := rfl
@[simp] theorem State.modDetector_port (s : State) (c : Chamber) (f : Detector → Detector) (m : Link) :
    (s.modDetector c f).port m = s.port m := rfl
@[simp] theorem State.modDetector_fn (s : State) (c : Chamber) (f : Detector → Detector) (i : InputFn) :
    (s.modDetector c f).fn i = s.fn i := rfl
@[simp] theorem State.modDetector_items (s : State) (c : Chamber) (f : Detector → Detector) :
    (s.modDetector c f).items = s.items := rfl
@[simp] theorem State.modDetector_fitted (s : State) (c : Chamber) (f : Detector → Detector) (w : Volume) :
    (s.modDetector c f).fitted w = s.fitted w := rfl
@[simp] theorem State.modDetector_capacity (s : State) (c : Chamber) (f : Detector → Detector) (w : Volume) :
    (s.modDetector c f).capacity w = s.capacity w := rfl
@[simp] theorem State.modDetector_source (s : State) (c : Chamber) (f : Detector → Detector) (b : Chamber) (j : Chan) :
    (s.modDetector c f).source b j = s.source b j := rfl
@[simp] theorem State.modDetector_code_opt (s : State) (c : Chamber) (f : Detector → Detector) (h : Gauge) :
    (s.modDetector c f).code? h = s.code? h := rfl
@[simp] theorem State.modDetector_gateOpen (s : State) (c : Chamber) (f : Detector → Detector) (w : Volume) :
    (s.modDetector c f).gateOpen w = s.gateOpen w := rfl
@[simp] theorem State.modDetector_inGasQueue (s : State) (c : Chamber) (f : Detector → Detector) (b : Chamber) :
    (s.modDetector c f).inGasQueue b = s.inGasQueue b := rfl
@[simp] theorem State.modDetector_hasCommitment (s : State) (c : Chamber) (f : Detector → Detector) (b : Chamber) :
    (s.modDetector c f).hasCommitment b = s.hasCommitment b := rfl
@[simp] theorem State.modDetector_headerTotal (s : State) (c : Chamber) (f : Detector → Detector) :
    (s.modDetector c f).headerTotal = s.headerTotal := rfl
@[simp] theorem State.modDetector_grant_opt (s : State) (c : Chamber) (f : Detector → Detector) (w : Volume) :
    (s.modDetector c f).grant? w = s.grant? w := rfl
@[simp] theorem State.modDetector_inRoughQueue (s : State) (c : Chamber) (f : Detector → Detector) (w : Volume) :
    (s.modDetector c f).inRoughQueue w = s.inRoughQueue w := rfl
@[simp] theorem State.modDetector_waits (s : State) (c : Chamber) (f : Detector → Detector) (w : Volume) :
    (s.modDetector c f).waits w = s.waits w := rfl
@[simp] theorem State.modDetector_permit (s : State) (c : Chamber) (f : Detector → Detector) (b : Chamber) :
    (s.modDetector c f).permit b = s.permit b := rfl

/-! ## setGauge -/

@[simp] theorem State.setGauge_vols (s : State) (g : Gauge) (x : GaugeChannel) : (s.setGauge g x).vols = s.vols := rfl
@[simp] theorem State.setGauge_gates (s : State) (g : Gauge) (x : GaugeChannel) : (s.setGauge g x).gates = s.gates := rfl
@[simp] theorem State.setGauge_rma (s : State) (g : Gauge) (x : GaugeChannel) : (s.setGauge g x).rma = s.rma := rfl
@[simp] theorem State.setGauge_gat (s : State) (g : Gauge) (x : GaugeChannel) : (s.setGauge g x).gat = s.gat := rfl
@[simp] theorem State.setGauge_hlm (s : State) (g : Gauge) (x : GaugeChannel) : (s.setGauge g x).hlm = s.hlm := rfl
@[simp] theorem State.setGauge_fru (s : State) (g : Gauge) (x : GaugeChannel) : (s.setGauge g x).fru = s.fru := rfl
@[simp] theorem State.setGauge_dbc (s : State) (g : Gauge) (x : GaugeChannel) : (s.setGauge g x).dbc = s.dbc := rfl
@[simp] theorem State.setGauge_reu (s : State) (g : Gauge) (x : GaugeChannel) : (s.setGauge g x).reu = s.reu := rfl
@[simp] theorem State.setGauge_tiu (s : State) (g : Gauge) (x : GaugeChannel) : (s.setGauge g x).tiu = s.tiu := rfl
@[simp] theorem State.setGauge_flu (s : State) (g : Gauge) (x : GaugeChannel) : (s.setGauge g x).flu = s.flu := rfl
@[simp] theorem State.setGauge_cfg (s : State) (g : Gauge) (x : GaugeChannel) : (s.setGauge g x).cfg = s.cfg := rfl
@[simp] theorem State.setGauge_ports (s : State) (g : Gauge) (x : GaugeChannel) : (s.setGauge g x).ports = s.ports := rfl
@[simp] theorem State.setGauge_base (s : State) (g : Gauge) (x : GaugeChannel) : (s.setGauge g x).base = s.base := rfl
@[simp] theorem State.setGauge_outbox (s : State) (g : Gauge) (x : GaugeChannel) : (s.setGauge g x).outbox = s.outbox := rfl
@[simp] theorem State.setGauge_pending (s : State) (g : Gauge) (x : GaugeChannel) : (s.setGauge g x).pending = s.pending := rfl
@[simp] theorem State.setGauge_vol (s : State) (g : Gauge) (x : GaugeChannel) (w : Volume) :
    (s.setGauge g x).vol w = s.vol w := rfl
@[simp] theorem State.setGauge_reuOf (s : State) (g : Gauge) (x : GaugeChannel) (b : Chamber) :
    (s.setGauge g x).reuOf b = s.reuOf b := rfl
@[simp] theorem State.setGauge_detector (s : State) (g : Gauge) (x : GaugeChannel) (b : Chamber) :
    (s.setGauge g x).detector b = s.detector b := rfl
@[simp] theorem State.setGauge_row (s : State) (g : Gauge) (x : GaugeChannel) (b : Chamber) (j : Chan) :
    (s.setGauge g x).row b j = s.row b j := rfl
@[simp] theorem State.setGauge_gen (s : State) (g : Gauge) (x : GaugeChannel) (b : Chamber) (j : Chan) :
    (s.setGauge g x).gen b j = s.gen b j := rfl
@[simp] theorem State.setGauge_device (s : State) (g : Gauge) (x : GaugeChannel) (e : Device) :
    (s.setGauge g x).device e = s.device e := rfl
@[simp] theorem State.setGauge_check (s : State) (g : Gauge) (x : GaugeChannel) (b : Chamber) (j : Chan) :
    (s.setGauge g x).check b j = s.check b j := rfl
@[simp] theorem State.setGauge_port (s : State) (g : Gauge) (x : GaugeChannel) (m : Link) :
    (s.setGauge g x).port m = s.port m := rfl
@[simp] theorem State.setGauge_fn (s : State) (g : Gauge) (x : GaugeChannel) (i : InputFn) :
    (s.setGauge g x).fn i = s.fn i := rfl
@[simp] theorem State.setGauge_items (s : State) (g : Gauge) (x : GaugeChannel) :
    (s.setGauge g x).items = s.items := rfl
@[simp] theorem State.setGauge_fitted (s : State) (g : Gauge) (x : GaugeChannel) (w : Volume) :
    (s.setGauge g x).fitted w = s.fitted w := rfl
@[simp] theorem State.setGauge_capacity (s : State) (g : Gauge) (x : GaugeChannel) (w : Volume) :
    (s.setGauge g x).capacity w = s.capacity w := rfl
@[simp] theorem State.setGauge_source (s : State) (g : Gauge) (x : GaugeChannel) (b : Chamber) (j : Chan) :
    (s.setGauge g x).source b j = s.source b j := rfl
@[simp] theorem State.setGauge_gateOpen (s : State) (g : Gauge) (x : GaugeChannel) (w : Volume) :
    (s.setGauge g x).gateOpen w = s.gateOpen w := rfl
@[simp] theorem State.setGauge_inGasQueue (s : State) (g : Gauge) (x : GaugeChannel) (b : Chamber) :
    (s.setGauge g x).inGasQueue b = s.inGasQueue b := rfl
@[simp] theorem State.setGauge_hasCommitment (s : State) (g : Gauge) (x : GaugeChannel) (b : Chamber) :
    (s.setGauge g x).hasCommitment b = s.hasCommitment b := rfl
@[simp] theorem State.setGauge_headerTotal (s : State) (g : Gauge) (x : GaugeChannel) :
    (s.setGauge g x).headerTotal = s.headerTotal := rfl
@[simp] theorem State.setGauge_grant_opt (s : State) (g : Gauge) (x : GaugeChannel) (w : Volume) :
    (s.setGauge g x).grant? w = s.grant? w := rfl
@[simp] theorem State.setGauge_inRoughQueue (s : State) (g : Gauge) (x : GaugeChannel) (w : Volume) :
    (s.setGauge g x).inRoughQueue w = s.inRoughQueue w := rfl
@[simp] theorem State.setGauge_waits (s : State) (g : Gauge) (x : GaugeChannel) (w : Volume) :
    (s.setGauge g x).waits w = s.waits w := rfl
@[simp] theorem State.setGauge_permit (s : State) (g : Gauge) (x : GaugeChannel) (b : Chamber) :
    (s.setGauge g x).permit b = s.permit b := rfl

/-! ## setRow -/

@[simp] theorem State.setRow_vols (s : State) (c : Chamber) (k : Chan) (x : ChannelRow) : (s.setRow c k x).vols = s.vols := rfl
@[simp] theorem State.setRow_gates (s : State) (c : Chamber) (k : Chan) (x : ChannelRow) : (s.setRow c k x).gates = s.gates := rfl
@[simp] theorem State.setRow_pec (s : State) (c : Chamber) (k : Chan) (x : ChannelRow) : (s.setRow c k x).pec = s.pec := rfl
@[simp] theorem State.setRow_rma (s : State) (c : Chamber) (k : Chan) (x : ChannelRow) : (s.setRow c k x).rma = s.rma := rfl
@[simp] theorem State.setRow_hlm (s : State) (c : Chamber) (k : Chan) (x : ChannelRow) : (s.setRow c k x).hlm = s.hlm := rfl
@[simp] theorem State.setRow_fru (s : State) (c : Chamber) (k : Chan) (x : ChannelRow) : (s.setRow c k x).fru = s.fru := rfl
@[simp] theorem State.setRow_dbc (s : State) (c : Chamber) (k : Chan) (x : ChannelRow) : (s.setRow c k x).dbc = s.dbc := rfl
@[simp] theorem State.setRow_reu (s : State) (c : Chamber) (k : Chan) (x : ChannelRow) : (s.setRow c k x).reu = s.reu := rfl
@[simp] theorem State.setRow_tiu (s : State) (c : Chamber) (k : Chan) (x : ChannelRow) : (s.setRow c k x).tiu = s.tiu := rfl
@[simp] theorem State.setRow_flu (s : State) (c : Chamber) (k : Chan) (x : ChannelRow) : (s.setRow c k x).flu = s.flu := rfl
@[simp] theorem State.setRow_cfg (s : State) (c : Chamber) (k : Chan) (x : ChannelRow) : (s.setRow c k x).cfg = s.cfg := rfl
@[simp] theorem State.setRow_ports (s : State) (c : Chamber) (k : Chan) (x : ChannelRow) : (s.setRow c k x).ports = s.ports := rfl
@[simp] theorem State.setRow_base (s : State) (c : Chamber) (k : Chan) (x : ChannelRow) : (s.setRow c k x).base = s.base := rfl
@[simp] theorem State.setRow_outbox (s : State) (c : Chamber) (k : Chan) (x : ChannelRow) : (s.setRow c k x).outbox = s.outbox := rfl
@[simp] theorem State.setRow_pending (s : State) (c : Chamber) (k : Chan) (x : ChannelRow) : (s.setRow c k x).pending = s.pending := rfl
@[simp] theorem State.setRow_vol (s : State) (c : Chamber) (k : Chan) (x : ChannelRow) (w : Volume) :
    (s.setRow c k x).vol w = s.vol w := rfl
@[simp] theorem State.setRow_reuOf (s : State) (c : Chamber) (k : Chan) (x : ChannelRow) (b : Chamber) :
    (s.setRow c k x).reuOf b = s.reuOf b := rfl
@[simp] theorem State.setRow_detector (s : State) (c : Chamber) (k : Chan) (x : ChannelRow) (b : Chamber) :
    (s.setRow c k x).detector b = s.detector b := rfl
@[simp] theorem State.setRow_gauge (s : State) (c : Chamber) (k : Chan) (x : ChannelRow) (h : Gauge) :
    (s.setRow c k x).gauge h = s.gauge h := rfl
@[simp] theorem State.setRow_gen (s : State) (c : Chamber) (k : Chan) (x : ChannelRow) (b : Chamber) (j : Chan) :
    (s.setRow c k x).gen b j = s.gen b j := rfl
@[simp] theorem State.setRow_device (s : State) (c : Chamber) (k : Chan) (x : ChannelRow) (e : Device) :
    (s.setRow c k x).device e = s.device e := rfl
@[simp] theorem State.setRow_check (s : State) (c : Chamber) (k : Chan) (x : ChannelRow) (b : Chamber) (j : Chan) :
    (s.setRow c k x).check b j = s.check b j := rfl
@[simp] theorem State.setRow_port (s : State) (c : Chamber) (k : Chan) (x : ChannelRow) (m : Link) :
    (s.setRow c k x).port m = s.port m := rfl
@[simp] theorem State.setRow_fn (s : State) (c : Chamber) (k : Chan) (x : ChannelRow) (i : InputFn) :
    (s.setRow c k x).fn i = s.fn i := rfl
@[simp] theorem State.setRow_items (s : State) (c : Chamber) (k : Chan) (x : ChannelRow) :
    (s.setRow c k x).items = s.items := rfl
@[simp] theorem State.setRow_fitted (s : State) (c : Chamber) (k : Chan) (x : ChannelRow) (w : Volume) :
    (s.setRow c k x).fitted w = s.fitted w := rfl
@[simp] theorem State.setRow_capacity (s : State) (c : Chamber) (k : Chan) (x : ChannelRow) (w : Volume) :
    (s.setRow c k x).capacity w = s.capacity w := rfl
@[simp] theorem State.setRow_source (s : State) (c : Chamber) (k : Chan) (x : ChannelRow) (b : Chamber) (j : Chan) :
    (s.setRow c k x).source b j = s.source b j := rfl
@[simp] theorem State.setRow_code_opt (s : State) (c : Chamber) (k : Chan) (x : ChannelRow) (h : Gauge) :
    (s.setRow c k x).code? h = s.code? h := rfl
@[simp] theorem State.setRow_gateOpen (s : State) (c : Chamber) (k : Chan) (x : ChannelRow) (w : Volume) :
    (s.setRow c k x).gateOpen w = s.gateOpen w := rfl
@[simp] theorem State.setRow_inGasQueue (s : State) (c : Chamber) (k : Chan) (x : ChannelRow) (b : Chamber) :
    (s.setRow c k x).inGasQueue b = s.inGasQueue b := rfl
@[simp] theorem State.setRow_grant_opt (s : State) (c : Chamber) (k : Chan) (x : ChannelRow) (w : Volume) :
    (s.setRow c k x).grant? w = s.grant? w := rfl
@[simp] theorem State.setRow_inRoughQueue (s : State) (c : Chamber) (k : Chan) (x : ChannelRow) (w : Volume) :
    (s.setRow c k x).inRoughQueue w = s.inRoughQueue w := rfl
@[simp] theorem State.setRow_waits (s : State) (c : Chamber) (k : Chan) (x : ChannelRow) (w : Volume) :
    (s.setRow c k x).waits w = s.waits w := rfl
@[simp] theorem State.setRow_permit (s : State) (c : Chamber) (k : Chan) (x : ChannelRow) (b : Chamber) :
    (s.setRow c k x).permit b = s.permit b := rfl

/-! ## setGen -/

@[simp] theorem State.setGen_vols (s : State) (c : Chamber) (k : Chan) (x : Generator) : (s.setGen c k x).vols = s.vols := rfl
@[simp] theorem State.setGen_gates (s : State) (c : Chamber) (k : Chan) (x : Generator) : (s.setGen c k x).gates = s.gates := rfl
@[simp] theorem State.setGen_pec (s : State) (c : Chamber) (k : Chan) (x : Generator) : (s.setGen c k x).pec = s.pec := rfl
@[simp] theorem State.setGen_rma (s : State) (c : Chamber) (k : Chan) (x : Generator) : (s.setGen c k x).rma = s.rma := rfl
@[simp] theorem State.setGen_gat (s : State) (c : Chamber) (k : Chan) (x : Generator) : (s.setGen c k x).gat = s.gat := rfl
@[simp] theorem State.setGen_hlm (s : State) (c : Chamber) (k : Chan) (x : Generator) : (s.setGen c k x).hlm = s.hlm := rfl
@[simp] theorem State.setGen_dbc (s : State) (c : Chamber) (k : Chan) (x : Generator) : (s.setGen c k x).dbc = s.dbc := rfl
@[simp] theorem State.setGen_reu (s : State) (c : Chamber) (k : Chan) (x : Generator) : (s.setGen c k x).reu = s.reu := rfl
@[simp] theorem State.setGen_tiu (s : State) (c : Chamber) (k : Chan) (x : Generator) : (s.setGen c k x).tiu = s.tiu := rfl
@[simp] theorem State.setGen_flu (s : State) (c : Chamber) (k : Chan) (x : Generator) : (s.setGen c k x).flu = s.flu := rfl
@[simp] theorem State.setGen_cfg (s : State) (c : Chamber) (k : Chan) (x : Generator) : (s.setGen c k x).cfg = s.cfg := rfl
@[simp] theorem State.setGen_ports (s : State) (c : Chamber) (k : Chan) (x : Generator) : (s.setGen c k x).ports = s.ports := rfl
@[simp] theorem State.setGen_base (s : State) (c : Chamber) (k : Chan) (x : Generator) : (s.setGen c k x).base = s.base := rfl
@[simp] theorem State.setGen_outbox (s : State) (c : Chamber) (k : Chan) (x : Generator) : (s.setGen c k x).outbox = s.outbox := rfl
@[simp] theorem State.setGen_pending (s : State) (c : Chamber) (k : Chan) (x : Generator) : (s.setGen c k x).pending = s.pending := rfl
@[simp] theorem State.setGen_vol (s : State) (c : Chamber) (k : Chan) (x : Generator) (w : Volume) :
    (s.setGen c k x).vol w = s.vol w := rfl
@[simp] theorem State.setGen_reuOf (s : State) (c : Chamber) (k : Chan) (x : Generator) (b : Chamber) :
    (s.setGen c k x).reuOf b = s.reuOf b := rfl
@[simp] theorem State.setGen_detector (s : State) (c : Chamber) (k : Chan) (x : Generator) (b : Chamber) :
    (s.setGen c k x).detector b = s.detector b := rfl
@[simp] theorem State.setGen_gauge (s : State) (c : Chamber) (k : Chan) (x : Generator) (h : Gauge) :
    (s.setGen c k x).gauge h = s.gauge h := rfl
@[simp] theorem State.setGen_row (s : State) (c : Chamber) (k : Chan) (x : Generator) (b : Chamber) (j : Chan) :
    (s.setGen c k x).row b j = s.row b j := rfl
@[simp] theorem State.setGen_device (s : State) (c : Chamber) (k : Chan) (x : Generator) (e : Device) :
    (s.setGen c k x).device e = s.device e := rfl
@[simp] theorem State.setGen_check (s : State) (c : Chamber) (k : Chan) (x : Generator) (b : Chamber) (j : Chan) :
    (s.setGen c k x).check b j = s.check b j := rfl
@[simp] theorem State.setGen_port (s : State) (c : Chamber) (k : Chan) (x : Generator) (m : Link) :
    (s.setGen c k x).port m = s.port m := rfl
@[simp] theorem State.setGen_fn (s : State) (c : Chamber) (k : Chan) (x : Generator) (i : InputFn) :
    (s.setGen c k x).fn i = s.fn i := rfl
@[simp] theorem State.setGen_items (s : State) (c : Chamber) (k : Chan) (x : Generator) :
    (s.setGen c k x).items = s.items := rfl
@[simp] theorem State.setGen_fitted (s : State) (c : Chamber) (k : Chan) (x : Generator) (w : Volume) :
    (s.setGen c k x).fitted w = s.fitted w := rfl
@[simp] theorem State.setGen_capacity (s : State) (c : Chamber) (k : Chan) (x : Generator) (w : Volume) :
    (s.setGen c k x).capacity w = s.capacity w := rfl
@[simp] theorem State.setGen_source (s : State) (c : Chamber) (k : Chan) (x : Generator) (b : Chamber) (j : Chan) :
    (s.setGen c k x).source b j = s.source b j := rfl
@[simp] theorem State.setGen_code_opt (s : State) (c : Chamber) (k : Chan) (x : Generator) (h : Gauge) :
    (s.setGen c k x).code? h = s.code? h := rfl
@[simp] theorem State.setGen_gateOpen (s : State) (c : Chamber) (k : Chan) (x : Generator) (w : Volume) :
    (s.setGen c k x).gateOpen w = s.gateOpen w := rfl
@[simp] theorem State.setGen_inGasQueue (s : State) (c : Chamber) (k : Chan) (x : Generator) (b : Chamber) :
    (s.setGen c k x).inGasQueue b = s.inGasQueue b := rfl
@[simp] theorem State.setGen_hasCommitment (s : State) (c : Chamber) (k : Chan) (x : Generator) (b : Chamber) :
    (s.setGen c k x).hasCommitment b = s.hasCommitment b := rfl
@[simp] theorem State.setGen_headerTotal (s : State) (c : Chamber) (k : Chan) (x : Generator) :
    (s.setGen c k x).headerTotal = s.headerTotal := rfl
@[simp] theorem State.setGen_grant_opt (s : State) (c : Chamber) (k : Chan) (x : Generator) (w : Volume) :
    (s.setGen c k x).grant? w = s.grant? w := rfl
@[simp] theorem State.setGen_inRoughQueue (s : State) (c : Chamber) (k : Chan) (x : Generator) (w : Volume) :
    (s.setGen c k x).inRoughQueue w = s.inRoughQueue w := rfl
@[simp] theorem State.setGen_waits (s : State) (c : Chamber) (k : Chan) (x : Generator) (w : Volume) :
    (s.setGen c k x).waits w = s.waits w := rfl
@[simp] theorem State.setGen_permit (s : State) (c : Chamber) (k : Chan) (x : Generator) (b : Chamber) :
    (s.setGen c k x).permit b = s.permit b := rfl

/-! ## setDevice -/

@[simp] theorem State.setDevice_vols (s : State) (d : Device) (x : DeviceRow) : (s.setDevice d x).vols = s.vols := rfl
@[simp] theorem State.setDevice_gates (s : State) (d : Device) (x : DeviceRow) : (s.setDevice d x).gates = s.gates := rfl
@[simp] theorem State.setDevice_pec (s : State) (d : Device) (x : DeviceRow) : (s.setDevice d x).pec = s.pec := rfl
@[simp] theorem State.setDevice_rma (s : State) (d : Device) (x : DeviceRow) : (s.setDevice d x).rma = s.rma := rfl
@[simp] theorem State.setDevice_gat (s : State) (d : Device) (x : DeviceRow) : (s.setDevice d x).gat = s.gat := rfl
@[simp] theorem State.setDevice_hlm (s : State) (d : Device) (x : DeviceRow) : (s.setDevice d x).hlm = s.hlm := rfl
@[simp] theorem State.setDevice_fru (s : State) (d : Device) (x : DeviceRow) : (s.setDevice d x).fru = s.fru := rfl
@[simp] theorem State.setDevice_reu (s : State) (d : Device) (x : DeviceRow) : (s.setDevice d x).reu = s.reu := rfl
@[simp] theorem State.setDevice_tiu (s : State) (d : Device) (x : DeviceRow) : (s.setDevice d x).tiu = s.tiu := rfl
@[simp] theorem State.setDevice_flu (s : State) (d : Device) (x : DeviceRow) : (s.setDevice d x).flu = s.flu := rfl
@[simp] theorem State.setDevice_cfg (s : State) (d : Device) (x : DeviceRow) : (s.setDevice d x).cfg = s.cfg := rfl
@[simp] theorem State.setDevice_ports (s : State) (d : Device) (x : DeviceRow) : (s.setDevice d x).ports = s.ports := rfl
@[simp] theorem State.setDevice_base (s : State) (d : Device) (x : DeviceRow) : (s.setDevice d x).base = s.base := rfl
@[simp] theorem State.setDevice_outbox (s : State) (d : Device) (x : DeviceRow) : (s.setDevice d x).outbox = s.outbox := rfl
@[simp] theorem State.setDevice_pending (s : State) (d : Device) (x : DeviceRow) : (s.setDevice d x).pending = s.pending := rfl
@[simp] theorem State.setDevice_vol (s : State) (d : Device) (x : DeviceRow) (w : Volume) :
    (s.setDevice d x).vol w = s.vol w := rfl
@[simp] theorem State.setDevice_reuOf (s : State) (d : Device) (x : DeviceRow) (b : Chamber) :
    (s.setDevice d x).reuOf b = s.reuOf b := rfl
@[simp] theorem State.setDevice_detector (s : State) (d : Device) (x : DeviceRow) (b : Chamber) :
    (s.setDevice d x).detector b = s.detector b := rfl
@[simp] theorem State.setDevice_gauge (s : State) (d : Device) (x : DeviceRow) (h : Gauge) :
    (s.setDevice d x).gauge h = s.gauge h := rfl
@[simp] theorem State.setDevice_row (s : State) (d : Device) (x : DeviceRow) (b : Chamber) (j : Chan) :
    (s.setDevice d x).row b j = s.row b j := rfl
@[simp] theorem State.setDevice_gen (s : State) (d : Device) (x : DeviceRow) (b : Chamber) (j : Chan) :
    (s.setDevice d x).gen b j = s.gen b j := rfl
@[simp] theorem State.setDevice_check (s : State) (d : Device) (x : DeviceRow) (b : Chamber) (j : Chan) :
    (s.setDevice d x).check b j = s.check b j := rfl
@[simp] theorem State.setDevice_port (s : State) (d : Device) (x : DeviceRow) (m : Link) :
    (s.setDevice d x).port m = s.port m := rfl
@[simp] theorem State.setDevice_fn (s : State) (d : Device) (x : DeviceRow) (i : InputFn) :
    (s.setDevice d x).fn i = s.fn i := rfl
@[simp] theorem State.setDevice_items (s : State) (d : Device) (x : DeviceRow) :
    (s.setDevice d x).items = s.items := rfl
@[simp] theorem State.setDevice_fitted (s : State) (d : Device) (x : DeviceRow) (w : Volume) :
    (s.setDevice d x).fitted w = s.fitted w := rfl
@[simp] theorem State.setDevice_capacity (s : State) (d : Device) (x : DeviceRow) (w : Volume) :
    (s.setDevice d x).capacity w = s.capacity w := rfl
@[simp] theorem State.setDevice_source (s : State) (d : Device) (x : DeviceRow) (b : Chamber) (j : Chan) :
    (s.setDevice d x).source b j = s.source b j := rfl
@[simp] theorem State.setDevice_code_opt (s : State) (d : Device) (x : DeviceRow) (h : Gauge) :
    (s.setDevice d x).code? h = s.code? h := rfl
@[simp] theorem State.setDevice_gateOpen (s : State) (d : Device) (x : DeviceRow) (w : Volume) :
    (s.setDevice d x).gateOpen w = s.gateOpen w := rfl
@[simp] theorem State.setDevice_inGasQueue (s : State) (d : Device) (x : DeviceRow) (b : Chamber) :
    (s.setDevice d x).inGasQueue b = s.inGasQueue b := rfl
@[simp] theorem State.setDevice_hasCommitment (s : State) (d : Device) (x : DeviceRow) (b : Chamber) :
    (s.setDevice d x).hasCommitment b = s.hasCommitment b := rfl
@[simp] theorem State.setDevice_headerTotal (s : State) (d : Device) (x : DeviceRow) :
    (s.setDevice d x).headerTotal = s.headerTotal := rfl
@[simp] theorem State.setDevice_grant_opt (s : State) (d : Device) (x : DeviceRow) (w : Volume) :
    (s.setDevice d x).grant? w = s.grant? w := rfl
@[simp] theorem State.setDevice_inRoughQueue (s : State) (d : Device) (x : DeviceRow) (w : Volume) :
    (s.setDevice d x).inRoughQueue w = s.inRoughQueue w := rfl
@[simp] theorem State.setDevice_waits (s : State) (d : Device) (x : DeviceRow) (w : Volume) :
    (s.setDevice d x).waits w = s.waits w := rfl
@[simp] theorem State.setDevice_permit (s : State) (d : Device) (x : DeviceRow) (b : Chamber) :
    (s.setDevice d x).permit b = s.permit b := rfl

/-! ## setCheck -/

@[simp] theorem State.setCheck_vols (s : State) (c : Chamber) (k : Chan) (x : FlowCheck) : (s.setCheck c k x).vols = s.vols := rfl
@[simp] theorem State.setCheck_gates (s : State) (c : Chamber) (k : Chan) (x : FlowCheck) : (s.setCheck c k x).gates = s.gates := rfl
@[simp] theorem State.setCheck_pec (s : State) (c : Chamber) (k : Chan) (x : FlowCheck) : (s.setCheck c k x).pec = s.pec := rfl
@[simp] theorem State.setCheck_rma (s : State) (c : Chamber) (k : Chan) (x : FlowCheck) : (s.setCheck c k x).rma = s.rma := rfl
@[simp] theorem State.setCheck_gat (s : State) (c : Chamber) (k : Chan) (x : FlowCheck) : (s.setCheck c k x).gat = s.gat := rfl
@[simp] theorem State.setCheck_hlm (s : State) (c : Chamber) (k : Chan) (x : FlowCheck) : (s.setCheck c k x).hlm = s.hlm := rfl
@[simp] theorem State.setCheck_fru (s : State) (c : Chamber) (k : Chan) (x : FlowCheck) : (s.setCheck c k x).fru = s.fru := rfl
@[simp] theorem State.setCheck_reu (s : State) (c : Chamber) (k : Chan) (x : FlowCheck) : (s.setCheck c k x).reu = s.reu := rfl
@[simp] theorem State.setCheck_tiu (s : State) (c : Chamber) (k : Chan) (x : FlowCheck) : (s.setCheck c k x).tiu = s.tiu := rfl
@[simp] theorem State.setCheck_flu (s : State) (c : Chamber) (k : Chan) (x : FlowCheck) : (s.setCheck c k x).flu = s.flu := rfl
@[simp] theorem State.setCheck_cfg (s : State) (c : Chamber) (k : Chan) (x : FlowCheck) : (s.setCheck c k x).cfg = s.cfg := rfl
@[simp] theorem State.setCheck_ports (s : State) (c : Chamber) (k : Chan) (x : FlowCheck) : (s.setCheck c k x).ports = s.ports := rfl
@[simp] theorem State.setCheck_base (s : State) (c : Chamber) (k : Chan) (x : FlowCheck) : (s.setCheck c k x).base = s.base := rfl
@[simp] theorem State.setCheck_outbox (s : State) (c : Chamber) (k : Chan) (x : FlowCheck) : (s.setCheck c k x).outbox = s.outbox := rfl
@[simp] theorem State.setCheck_pending (s : State) (c : Chamber) (k : Chan) (x : FlowCheck) : (s.setCheck c k x).pending = s.pending := rfl
@[simp] theorem State.setCheck_vol (s : State) (c : Chamber) (k : Chan) (x : FlowCheck) (w : Volume) :
    (s.setCheck c k x).vol w = s.vol w := rfl
@[simp] theorem State.setCheck_reuOf (s : State) (c : Chamber) (k : Chan) (x : FlowCheck) (b : Chamber) :
    (s.setCheck c k x).reuOf b = s.reuOf b := rfl
@[simp] theorem State.setCheck_detector (s : State) (c : Chamber) (k : Chan) (x : FlowCheck) (b : Chamber) :
    (s.setCheck c k x).detector b = s.detector b := rfl
@[simp] theorem State.setCheck_gauge (s : State) (c : Chamber) (k : Chan) (x : FlowCheck) (h : Gauge) :
    (s.setCheck c k x).gauge h = s.gauge h := rfl
@[simp] theorem State.setCheck_row (s : State) (c : Chamber) (k : Chan) (x : FlowCheck) (b : Chamber) (j : Chan) :
    (s.setCheck c k x).row b j = s.row b j := rfl
@[simp] theorem State.setCheck_gen (s : State) (c : Chamber) (k : Chan) (x : FlowCheck) (b : Chamber) (j : Chan) :
    (s.setCheck c k x).gen b j = s.gen b j := rfl
@[simp] theorem State.setCheck_device (s : State) (c : Chamber) (k : Chan) (x : FlowCheck) (e : Device) :
    (s.setCheck c k x).device e = s.device e := rfl
@[simp] theorem State.setCheck_port (s : State) (c : Chamber) (k : Chan) (x : FlowCheck) (m : Link) :
    (s.setCheck c k x).port m = s.port m := rfl
@[simp] theorem State.setCheck_fn (s : State) (c : Chamber) (k : Chan) (x : FlowCheck) (i : InputFn) :
    (s.setCheck c k x).fn i = s.fn i := rfl
@[simp] theorem State.setCheck_items (s : State) (c : Chamber) (k : Chan) (x : FlowCheck) :
    (s.setCheck c k x).items = s.items := rfl
@[simp] theorem State.setCheck_fitted (s : State) (c : Chamber) (k : Chan) (x : FlowCheck) (w : Volume) :
    (s.setCheck c k x).fitted w = s.fitted w := rfl
@[simp] theorem State.setCheck_capacity (s : State) (c : Chamber) (k : Chan) (x : FlowCheck) (w : Volume) :
    (s.setCheck c k x).capacity w = s.capacity w := rfl
@[simp] theorem State.setCheck_source (s : State) (c : Chamber) (k : Chan) (x : FlowCheck) (b : Chamber) (j : Chan) :
    (s.setCheck c k x).source b j = s.source b j := rfl
@[simp] theorem State.setCheck_code_opt (s : State) (c : Chamber) (k : Chan) (x : FlowCheck) (h : Gauge) :
    (s.setCheck c k x).code? h = s.code? h := rfl
@[simp] theorem State.setCheck_gateOpen (s : State) (c : Chamber) (k : Chan) (x : FlowCheck) (w : Volume) :
    (s.setCheck c k x).gateOpen w = s.gateOpen w := rfl
@[simp] theorem State.setCheck_inGasQueue (s : State) (c : Chamber) (k : Chan) (x : FlowCheck) (b : Chamber) :
    (s.setCheck c k x).inGasQueue b = s.inGasQueue b := rfl
@[simp] theorem State.setCheck_hasCommitment (s : State) (c : Chamber) (k : Chan) (x : FlowCheck) (b : Chamber) :
    (s.setCheck c k x).hasCommitment b = s.hasCommitment b := rfl
@[simp] theorem State.setCheck_headerTotal (s : State) (c : Chamber) (k : Chan) (x : FlowCheck) :
    (s.setCheck c k x).headerTotal = s.headerTotal := rfl
@[simp] theorem State.setCheck_grant_opt (s : State) (c : Chamber) (k : Chan) (x : FlowCheck) (w : Volume) :
    (s.setCheck c k x).grant? w = s.grant? w := rfl
@[simp] theorem State.setCheck_inRoughQueue (s : State) (c : Chamber) (k : Chan) (x : FlowCheck) (w : Volume) :
    (s.setCheck c k x).inRoughQueue w = s.inRoughQueue w := rfl
@[simp] theorem State.setCheck_waits (s : State) (c : Chamber) (k : Chan) (x : FlowCheck) (w : Volume) :
    (s.setCheck c k x).waits w = s.waits w := rfl
@[simp] theorem State.setCheck_permit (s : State) (c : Chamber) (k : Chan) (x : FlowCheck) (b : Chamber) :
    (s.setCheck c k x).permit b = s.permit b := rfl

/-! ## setPort -/

@[simp] theorem State.setPort_vols (s : State) (l : Link) (x : Port) : (s.setPort l x).vols = s.vols := rfl
@[simp] theorem State.setPort_gates (s : State) (l : Link) (x : Port) : (s.setPort l x).gates = s.gates := rfl
@[simp] theorem State.setPort_pec (s : State) (l : Link) (x : Port) : (s.setPort l x).pec = s.pec := rfl
@[simp] theorem State.setPort_rma (s : State) (l : Link) (x : Port) : (s.setPort l x).rma = s.rma := rfl
@[simp] theorem State.setPort_gat (s : State) (l : Link) (x : Port) : (s.setPort l x).gat = s.gat := rfl
@[simp] theorem State.setPort_hlm (s : State) (l : Link) (x : Port) : (s.setPort l x).hlm = s.hlm := rfl
@[simp] theorem State.setPort_fru (s : State) (l : Link) (x : Port) : (s.setPort l x).fru = s.fru := rfl
@[simp] theorem State.setPort_dbc (s : State) (l : Link) (x : Port) : (s.setPort l x).dbc = s.dbc := rfl
@[simp] theorem State.setPort_reu (s : State) (l : Link) (x : Port) : (s.setPort l x).reu = s.reu := rfl
@[simp] theorem State.setPort_tiu (s : State) (l : Link) (x : Port) : (s.setPort l x).tiu = s.tiu := rfl
@[simp] theorem State.setPort_flu (s : State) (l : Link) (x : Port) : (s.setPort l x).flu = s.flu := rfl
@[simp] theorem State.setPort_cfg (s : State) (l : Link) (x : Port) : (s.setPort l x).cfg = s.cfg := rfl
@[simp] theorem State.setPort_base (s : State) (l : Link) (x : Port) : (s.setPort l x).base = s.base := rfl
@[simp] theorem State.setPort_outbox (s : State) (l : Link) (x : Port) : (s.setPort l x).outbox = s.outbox := rfl
@[simp] theorem State.setPort_pending (s : State) (l : Link) (x : Port) : (s.setPort l x).pending = s.pending := rfl
@[simp] theorem State.setPort_vol (s : State) (l : Link) (x : Port) (w : Volume) :
    (s.setPort l x).vol w = s.vol w := rfl
@[simp] theorem State.setPort_reuOf (s : State) (l : Link) (x : Port) (b : Chamber) :
    (s.setPort l x).reuOf b = s.reuOf b := rfl
@[simp] theorem State.setPort_detector (s : State) (l : Link) (x : Port) (b : Chamber) :
    (s.setPort l x).detector b = s.detector b := rfl
@[simp] theorem State.setPort_gauge (s : State) (l : Link) (x : Port) (h : Gauge) :
    (s.setPort l x).gauge h = s.gauge h := rfl
@[simp] theorem State.setPort_row (s : State) (l : Link) (x : Port) (b : Chamber) (j : Chan) :
    (s.setPort l x).row b j = s.row b j := rfl
@[simp] theorem State.setPort_gen (s : State) (l : Link) (x : Port) (b : Chamber) (j : Chan) :
    (s.setPort l x).gen b j = s.gen b j := rfl
@[simp] theorem State.setPort_device (s : State) (l : Link) (x : Port) (e : Device) :
    (s.setPort l x).device e = s.device e := rfl
@[simp] theorem State.setPort_check (s : State) (l : Link) (x : Port) (b : Chamber) (j : Chan) :
    (s.setPort l x).check b j = s.check b j := rfl
@[simp] theorem State.setPort_fn (s : State) (l : Link) (x : Port) (i : InputFn) :
    (s.setPort l x).fn i = s.fn i := rfl
@[simp] theorem State.setPort_items (s : State) (l : Link) (x : Port) :
    (s.setPort l x).items = s.items := rfl
@[simp] theorem State.setPort_fitted (s : State) (l : Link) (x : Port) (w : Volume) :
    (s.setPort l x).fitted w = s.fitted w := rfl
@[simp] theorem State.setPort_capacity (s : State) (l : Link) (x : Port) (w : Volume) :
    (s.setPort l x).capacity w = s.capacity w := rfl
@[simp] theorem State.setPort_source (s : State) (l : Link) (x : Port) (b : Chamber) (j : Chan) :
    (s.setPort l x).source b j = s.source b j := rfl
@[simp] theorem State.setPort_code_opt (s : State) (l : Link) (x : Port) (h : Gauge) :
    (s.setPort l x).code? h = s.code? h := rfl
@[simp] theorem State.setPort_gateOpen (s : State) (l : Link) (x : Port) (w : Volume) :
    (s.setPort l x).gateOpen w = s.gateOpen w := rfl
@[simp] theorem State.setPort_inGasQueue (s : State) (l : Link) (x : Port) (b : Chamber) :
    (s.setPort l x).inGasQueue b = s.inGasQueue b := rfl
@[simp] theorem State.setPort_hasCommitment (s : State) (l : Link) (x : Port) (b : Chamber) :
    (s.setPort l x).hasCommitment b = s.hasCommitment b := rfl
@[simp] theorem State.setPort_headerTotal (s : State) (l : Link) (x : Port) :
    (s.setPort l x).headerTotal = s.headerTotal := rfl
@[simp] theorem State.setPort_grant_opt (s : State) (l : Link) (x : Port) (w : Volume) :
    (s.setPort l x).grant? w = s.grant? w := rfl
@[simp] theorem State.setPort_inRoughQueue (s : State) (l : Link) (x : Port) (w : Volume) :
    (s.setPort l x).inRoughQueue w = s.inRoughQueue w := rfl
@[simp] theorem State.setPort_waits (s : State) (l : Link) (x : Port) (w : Volume) :
    (s.setPort l x).waits w = s.waits w := rfl
@[simp] theorem State.setPort_permit (s : State) (l : Link) (x : Port) (b : Chamber) :
    (s.setPort l x).permit b = s.permit b := rfl

/-! ## modPort -/

@[simp] theorem State.modPort_vols (s : State) (l : Link) (f : Port → Port) : (s.modPort l f).vols = s.vols := rfl
@[simp] theorem State.modPort_gates (s : State) (l : Link) (f : Port → Port) : (s.modPort l f).gates = s.gates := rfl
@[simp] theorem State.modPort_pec (s : State) (l : Link) (f : Port → Port) : (s.modPort l f).pec = s.pec := rfl
@[simp] theorem State.modPort_rma (s : State) (l : Link) (f : Port → Port) : (s.modPort l f).rma = s.rma := rfl
@[simp] theorem State.modPort_gat (s : State) (l : Link) (f : Port → Port) : (s.modPort l f).gat = s.gat := rfl
@[simp] theorem State.modPort_hlm (s : State) (l : Link) (f : Port → Port) : (s.modPort l f).hlm = s.hlm := rfl
@[simp] theorem State.modPort_fru (s : State) (l : Link) (f : Port → Port) : (s.modPort l f).fru = s.fru := rfl
@[simp] theorem State.modPort_dbc (s : State) (l : Link) (f : Port → Port) : (s.modPort l f).dbc = s.dbc := rfl
@[simp] theorem State.modPort_reu (s : State) (l : Link) (f : Port → Port) : (s.modPort l f).reu = s.reu := rfl
@[simp] theorem State.modPort_tiu (s : State) (l : Link) (f : Port → Port) : (s.modPort l f).tiu = s.tiu := rfl
@[simp] theorem State.modPort_flu (s : State) (l : Link) (f : Port → Port) : (s.modPort l f).flu = s.flu := rfl
@[simp] theorem State.modPort_cfg (s : State) (l : Link) (f : Port → Port) : (s.modPort l f).cfg = s.cfg := rfl
@[simp] theorem State.modPort_base (s : State) (l : Link) (f : Port → Port) : (s.modPort l f).base = s.base := rfl
@[simp] theorem State.modPort_outbox (s : State) (l : Link) (f : Port → Port) : (s.modPort l f).outbox = s.outbox := rfl
@[simp] theorem State.modPort_pending (s : State) (l : Link) (f : Port → Port) : (s.modPort l f).pending = s.pending := rfl
@[simp] theorem State.modPort_vol (s : State) (l : Link) (f : Port → Port) (w : Volume) :
    (s.modPort l f).vol w = s.vol w := rfl
@[simp] theorem State.modPort_reuOf (s : State) (l : Link) (f : Port → Port) (b : Chamber) :
    (s.modPort l f).reuOf b = s.reuOf b := rfl
@[simp] theorem State.modPort_detector (s : State) (l : Link) (f : Port → Port) (b : Chamber) :
    (s.modPort l f).detector b = s.detector b := rfl
@[simp] theorem State.modPort_gauge (s : State) (l : Link) (f : Port → Port) (h : Gauge) :
    (s.modPort l f).gauge h = s.gauge h := rfl
@[simp] theorem State.modPort_row (s : State) (l : Link) (f : Port → Port) (b : Chamber) (j : Chan) :
    (s.modPort l f).row b j = s.row b j := rfl
@[simp] theorem State.modPort_gen (s : State) (l : Link) (f : Port → Port) (b : Chamber) (j : Chan) :
    (s.modPort l f).gen b j = s.gen b j := rfl
@[simp] theorem State.modPort_device (s : State) (l : Link) (f : Port → Port) (e : Device) :
    (s.modPort l f).device e = s.device e := rfl
@[simp] theorem State.modPort_check (s : State) (l : Link) (f : Port → Port) (b : Chamber) (j : Chan) :
    (s.modPort l f).check b j = s.check b j := rfl
@[simp] theorem State.modPort_fn (s : State) (l : Link) (f : Port → Port) (i : InputFn) :
    (s.modPort l f).fn i = s.fn i := rfl
@[simp] theorem State.modPort_items (s : State) (l : Link) (f : Port → Port) :
    (s.modPort l f).items = s.items := rfl
@[simp] theorem State.modPort_fitted (s : State) (l : Link) (f : Port → Port) (w : Volume) :
    (s.modPort l f).fitted w = s.fitted w := rfl
@[simp] theorem State.modPort_capacity (s : State) (l : Link) (f : Port → Port) (w : Volume) :
    (s.modPort l f).capacity w = s.capacity w := rfl
@[simp] theorem State.modPort_source (s : State) (l : Link) (f : Port → Port) (b : Chamber) (j : Chan) :
    (s.modPort l f).source b j = s.source b j := rfl
@[simp] theorem State.modPort_code_opt (s : State) (l : Link) (f : Port → Port) (h : Gauge) :
    (s.modPort l f).code? h = s.code? h := rfl
@[simp] theorem State.modPort_gateOpen (s : State) (l : Link) (f : Port → Port) (w : Volume) :
    (s.modPort l f).gateOpen w = s.gateOpen w := rfl
@[simp] theorem State.modPort_inGasQueue (s : State) (l : Link) (f : Port → Port) (b : Chamber) :
    (s.modPort l f).inGasQueue b = s.inGasQueue b := rfl
@[simp] theorem State.modPort_hasCommitment (s : State) (l : Link) (f : Port → Port) (b : Chamber) :
    (s.modPort l f).hasCommitment b = s.hasCommitment b := rfl
@[simp] theorem State.modPort_headerTotal (s : State) (l : Link) (f : Port → Port) :
    (s.modPort l f).headerTotal = s.headerTotal := rfl
@[simp] theorem State.modPort_grant_opt (s : State) (l : Link) (f : Port → Port) (w : Volume) :
    (s.modPort l f).grant? w = s.grant? w := rfl
@[simp] theorem State.modPort_inRoughQueue (s : State) (l : Link) (f : Port → Port) (w : Volume) :
    (s.modPort l f).inRoughQueue w = s.inRoughQueue w := rfl
@[simp] theorem State.modPort_waits (s : State) (l : Link) (f : Port → Port) (w : Volume) :
    (s.modPort l f).waits w = s.waits w := rfl
@[simp] theorem State.modPort_permit (s : State) (l : Link) (f : Port → Port) (b : Chamber) :
    (s.modPort l f).permit b = s.permit b := rfl

/-! ## What an update writes -/

@[simp] theorem State.vol_setVol_self (s : State) (v : Volume) (x : Vol) : (s.setVol v x).vol v = x := by
  simp [State.vol, State.setVol]

@[simp] theorem State.vol_setVol_ne (s : State) (v w : Volume) (x : Vol) (h : w ≠ v) : (s.setVol v x).vol w = s.vol w := by
  simp [State.vol, State.setVol, h]

@[simp] theorem State.vol_modVol_self (s : State) (v : Volume) (f : Vol → Vol) : (s.modVol v f).vol v = f (s.vol v) := by
  simp [State.modVol]

@[simp] theorem State.vol_modVol_ne (s : State) (v w : Volume) (f : Vol → Vol) (h : w ≠ v) :
    (s.modVol v f).vol w = s.vol w := by
  simp [State.modVol, h]

@[simp] theorem State.reuOf_setReu_self (s : State) (c : Chamber) (x : Reu) : (s.setReu c x).reuOf c = x := by
  simp [State.reuOf, State.setReu]

@[simp] theorem State.reuOf_setReu_ne (s : State) (c d : Chamber) (x : Reu) (h : d ≠ c) :
    (s.setReu c x).reuOf d = s.reuOf d := by
  simp [State.reuOf, State.setReu, h]

@[simp] theorem State.reuOf_modReu_self (s : State) (c : Chamber) (f : Reu → Reu) : (s.modReu c f).reuOf c = f (s.reuOf c) := by
  simp [State.modReu]

@[simp] theorem State.reuOf_modReu_ne (s : State) (c d : Chamber) (f : Reu → Reu) (h : d ≠ c) :
    (s.modReu c f).reuOf d = s.reuOf d := by
  simp [State.modReu, h]

@[simp] theorem State.detector_setDetector_self (s : State) (c : Chamber) (x : Detector) :
    (s.setDetector c x).detector c = x := by
  simp [State.detector, State.setDetector]

@[simp] theorem State.detector_setDetector_ne (s : State) (c d : Chamber) (x : Detector) (h : d ≠ c) :
    (s.setDetector c x).detector d = s.detector d := by
  simp [State.detector, State.setDetector, h]

@[simp] theorem State.gauge_setGauge_self (s : State) (g : Gauge) (x : GaugeChannel) : (s.setGauge g x).gauge g = x := by
  simp [State.gauge, State.setGauge]

@[simp] theorem State.gauge_setGauge_ne (s : State) (g h : Gauge) (x : GaugeChannel) (e : h ≠ g) :
    (s.setGauge g x).gauge h = s.gauge h := by
  simp [State.gauge, State.setGauge, e]

@[simp] theorem State.row_setRow_self (s : State) (c : Chamber) (k : Chan) (x : ChannelRow) : (s.setRow c k x).row c k = x := by
  simp [State.row, State.setRow]

@[simp] theorem State.row_setRow_ne (s : State) (c d : Chamber) (k j : Chan) (x : ChannelRow) (h : (d, j) ≠ (c, k)) :
    (s.setRow c k x).row d j = s.row d j := Per4.getK_setK_ne _ c d k j x h

@[simp] theorem State.gen_setGen_self (s : State) (c : Chamber) (k : Chan) (x : Generator) : (s.setGen c k x).gen c k = x := by
  simp [State.gen, State.setGen]

@[simp] theorem State.gen_setGen_ne (s : State) (c d : Chamber) (k j : Chan) (x : Generator) (h : (d, j) ≠ (c, k)) :
    (s.setGen c k x).gen d j = s.gen d j := Per4.getK_setK_ne _ c d k j x h

@[simp] theorem State.device_setDevice_self (s : State) (d : Device) (x : DeviceRow) : (s.setDevice d x).device d = x := by
  simp [State.device, State.setDevice]

@[simp] theorem State.device_setDevice_ne (s : State) (d e : Device) (x : DeviceRow) (h : e ≠ d) :
    (s.setDevice d x).device e = s.device e := by
  simp [State.device, State.setDevice, h]

@[simp] theorem State.check_setCheck_self (s : State) (c : Chamber) (k : Chan) (x : FlowCheck) :
    (s.setCheck c k x).check c k = x := by
  simp [State.check, State.setCheck]

@[simp] theorem State.check_setCheck_ne (s : State) (c d : Chamber) (k j : Chan) (x : FlowCheck) (h : (d, j) ≠ (c, k)) :
    (s.setCheck c k x).check d j = s.check d j := Per4.getK_setK_ne _ c d k j x h

@[simp] theorem State.port_setPort_self (s : State) (l : Link) (x : Port) : (s.setPort l x).port l = x := by
  simp [State.port, State.setPort]

@[simp] theorem State.port_setPort_ne (s : State) (l m : Link) (x : Port) (h : m ≠ l) : (s.setPort l x).port m = s.port m := by
  simp [State.port, State.setPort, h]

@[simp] theorem State.port_modPort_self (s : State) (l : Link) (f : Port → Port) : (s.modPort l f).port l = f (s.port l) := by
  simp [State.modPort]

@[simp] theorem State.port_modPort_ne (s : State) (l m : Link) (f : Port → Port) (h : m ≠ l) :
    (s.modPort l f).port m = s.port m := by
  simp [State.modPort, h]

@[simp] theorem State.setPort_port_self (s : State) (l : Link) : s.setPort l (s.port l) = s := by
  simp [State.port, State.setPort]

@[simp] theorem State.setVol_vol_self (s : State) (v : Volume) : s.setVol v (s.vol v) = s := by
  simp [State.vol, State.setVol]

/-! ## A gate command (R78): it changes the gates alone -/

theorem State.setGate_eq (s : State) (v : Volume) (x : Bool) : ∃ g, s.setGate v x = { s with gates := g } := by
  unfold State.setGate
  cases v.turbo? with
  | none => exact ⟨s.gates, rfl⟩
  | some t => exact ⟨_, rfl⟩

theorem State.gateOpen_setGate_self (s : State) (v : Volume) (x : Bool) (h : v.turbo?.isSome) :
    (s.setGate v x).gateOpen v = x := by
  unfold State.gateOpen State.setGate
  cases hv : v.turbo? with
  | none => simp [hv] at h
  | some t => simp

theorem State.gateOpen_setGate_false (s : State) (v : Volume) : (s.setGate v false).gateOpen v = false := by
  unfold State.gateOpen State.setGate
  cases v.turbo? with
  | none => rfl
  | some t => simp

end Sys2Proof.Machine
end

