-- ==== Sys2Proof/Laws/Frames.lean ====
section
/-! SUPPORT. Sys2Proof/Laws/Frames.lean: what each shared operation can change. The bus operations change DBC alone, the ramp and
gas operations GAT, FRU and DBC; every operation of the step engine stays inside `EventFrame`. A proof about a command cites
these instead of unfolding the operations. -/

namespace Sys2Proof.Machine

open Sys2Proof

/-! ## The device bus -/

/-- Everything the arbiter can do (R122): nothing, or the start of the most urgent write, or of the next poll. -/
theorem arbitrate_cases (s : State) :
    arbitrate s = s
    ∨ (∃ d w, s.dbc.inFlight = none ∧ mostUrgent s = some (d, w) ∧ (s.dbc.writes ≠ 8 ∨ nextPoll s = none)
        ∧ arbitrate s = startWrite d w s)
    ∨ ∃ n d, s.dbc.inFlight = none ∧ nextPoll s = some (n, d) ∧ (mostUrgent s = none ∨ s.dbc.writes = 8)
        ∧ arbitrate s = startPoll n d s := by
  unfold arbitrate
  cases hf : s.dbc.inFlight with
  | some t => simp
  | none =>
    cases hm : mostUrgent s with
    | none =>
      cases hp : nextPoll s with
      | none => simp
      | some e => obtain ⟨n, d⟩ := e; simp
    | some e =>
      obtain ⟨d, w⟩ := e
      cases hp : nextPoll s with
      | none => simp
      | some e =>
        obtain ⟨n, f⟩ := e
        by_cases hw : s.dbc.writes = 8 <;> simp [hw]

theorem arbitrate_dbc (s : State) : ∃ b, arbitrate s = { s with dbc := b } := by
  rcases arbitrate_cases s with h | ⟨d, w, -, -, -, h⟩ | ⟨n, d, -, -, -, h⟩ <;> rw [h]
  · exact ⟨s.dbc, rfl⟩
  · exact ⟨_, rfl⟩
  · exact ⟨_, rfl⟩

/-- The arbiter takes at most an entry out of a device's place; the rest of every device row stands. -/
theorem arbitrate_device (s : State) (e : Device) :
    (arbitrate s).device e = { s.device e with pending := ((arbitrate s).device e).pending } := by
  rcases arbitrate_cases s with h | ⟨d, w, -, -, -, h⟩ | ⟨n, d, -, -, -, h⟩ <;> rw [h]
  · by_cases hd : e = d
    · subst hd
      simp [startWrite, State.device, State.setDevice]
    · simp [startWrite, State.device, State.setDevice, hd]
  · rfl

/-- A post is dropped, or becomes a new youngest entry, or joins the entry it finds (R121). -/
theorem placeWrite_cases (d : Device) (x : BusValue) (k : WriteClass) (s : State) :
    ((s.device d).failed = true ∧ placeWrite d x k s = s)
    ∨ ((s.device d).failed = false ∧ ∃ w, w.value = x
        ∧ ((s.device d).pending = none → w = ⟨x, k, s.dbc.nextAge⟩)
        ∧ (∀ y, (s.device d).pending = some y → w = ⟨x, y.cls.min k, y.age⟩)
        ∧ ∃ n, placeWrite d x k s
            = { s.setDevice d { s.device d with pending := some w } with
                dbc := { (s.setDevice d { s.device d with pending := some w }).dbc with nextAge := n } }) := by
  cases hf : (s.device d).failed with
  | true => exact .inl ⟨rfl, by simp [placeWrite, hf]⟩
  | false =>
    right
    refine ⟨rfl, ?_⟩
    cases hp : (s.device d).pending with
    | none => exact ⟨⟨x, k, s.dbc.nextAge⟩, rfl, by simp, by simp, s.dbc.nextAge + 1, by simp [placeWrite, hf, hp, State.setDevice]⟩
    | some y => exact ⟨⟨x, y.cls.min k, y.age⟩, rfl, by simp, by simp, s.dbc.nextAge, by simp [placeWrite, hf, hp, State.setDevice]⟩

theorem placeWrite_dbc (d : Device) (x : BusValue) (k : WriteClass) (s : State) :
    ∃ b, placeWrite d x k s = { s with dbc := b } := by
  rcases placeWrite_cases d x k s with ⟨-, h⟩ | ⟨-, w, -, -, -, n, h⟩ <;> rw [h]
  · exact ⟨s.dbc, rfl⟩
  · exact ⟨_, rfl⟩

theorem postWrite_dbc (d : Device) (x : BusValue) (k : WriteClass) (s : State) :
    ∃ b, postWrite d x k s = { s with dbc := b } := by
  obtain ⟨b, h⟩ := placeWrite_dbc d x k s
  obtain ⟨b', h'⟩ := arbitrate_dbc (placeWrite d x k s)
  exact ⟨b', by rw [postWrite, h', h]⟩

/-! ## Ramps and transitions -/

theorem startGenerator_eq (c : Chamber) (k : Chan) (t n : Nat) (cls : WriteClass) (s : State) :
    ∃ b, startGenerator c k t n cls s
      = { s with fru := s.fru.setK c k (if n = 0 then (s.gen c k).jump t cls else (s.gen c k).ramp t n cls), dbc := b } := by
  unfold startGenerator
  by_cases h : n = 0
  · rw [if_pos h, if_pos h]
    obtain ⟨b, hb⟩ := postWrite_dbc (.mfc c k)
      (.flow ((s.setGen c k ((s.gen c k).jump t cls)).gen c k).posted)
      ((s.setGen c k ((s.gen c k).jump t cls)).gen c k).cls (s.setGen c k ((s.gen c k).jump t cls))
    exact ⟨b, by rw [postGenerator, hb]; rfl⟩
  · rw [if_neg h, if_neg h]
    exact ⟨s.dbc, rfl⟩

/-- What the start of a transition changes (R97, R115): the channel's row, its generator, and DBC. -/
theorem startTransition_eq (c : Chamber) (k : Chan) (t n : Nat) (cls : WriteClass) (s : State) :
    ∃ b, startTransition c k t n cls s
      = { s with gat := { s.gat with rows := s.gat.rows.setK c k ((s.row c k).start t) },
                 fru := s.fru.setK c k (if n = 0 then (s.gen c k).jump t cls else (s.gen c k).ramp t n cls),
                 dbc := b } := by
  unfold startTransition
  obtain ⟨b, hb⟩ := startGenerator_eq c k t n cls
    ((s.setRow c k ((s.row c k).start t)).setCheck c k { (s.setRow c k ((s.row c k).start t)).check c k with deviation := 0 })
  exact ⟨b, by rw [hb]; rfl⟩

/-! ## The frame of an event -/

theorem EventFrame.refl (s : State) : EventFrame s s :=
  ⟨rfl, rfl, rfl, rfl, rfl, rfl, rfl, rfl, rfl, rfl, rfl, fun _ => rfl⟩

theorem EventFrame.trans {s t u : State} (h : EventFrame s t) (k : EventFrame t u) : EventFrame s u := by
  obtain ⟨h1, h2, h3, h4, h5, h6, h7, h8, h9, h10, h11, h12⟩ := h
  obtain ⟨k1, k2, k3, k4, k5, k6, k7, k8, k9, k10, k11, k12⟩ := k
  exact ⟨k1.trans h1, k2.trans h2, k3.trans h3, k4.trans h4, k5.trans h5, k6.trans h6, k7.trans h7, k8.trans h8,
    k9.trans h9, k10.trans h10, k11.trans h11, fun l => (k12 l).trans (h12 l)⟩

/-- A change of the parts that an event may change stays inside the frame. -/
theorem EventFrame.of_parts (s : State) (vols : Per7 Vol) (gates : Per5 Bool) (detectors : Per4 Detector) (rma : Rma)
    (rows : Per24 ChannelRow) (queue : List GasEntry) (held : Bool) (fru : Per24 Generator) (dbc : Dbc) (reu : Per4 Reu)
    (outbox : List Posting) :
    EventFrame s { s with
      vols := vols
      gates := gates
      pec := { s.pec with detectors := detectors }
      rma := rma
      gat := { s.gat with rows := rows, queue := queue }
      hlm := { s.hlm with held := held }
      fru := fru
      dbc := dbc
      reu := reu
      outbox := outbox } :=
  ⟨rfl, rfl, rfl, rfl, rfl, rfl, rfl, rfl, rfl, rfl, rfl, fun _ => rfl⟩

theorem modVol_eventFrame (v : Volume) (f : Vol → Vol) (s : State) : EventFrame s (s.modVol v f) := EventFrame.refl s

theorem modReu_eventFrame (c : Chamber) (f : Reu → Reu) (s : State) : EventFrame s (s.modReu c f) := EventFrame.refl s

theorem setDetector_eventFrame (c : Chamber) (x : Detector) (s : State) : EventFrame s (s.setDetector c x) := EventFrame.refl s

theorem setRow_eventFrame (c : Chamber) (k : Chan) (x : ChannelRow) (s : State) : EventFrame s (s.setRow c k x) :=
  EventFrame.refl s

theorem setCheck_eventFrame (c : Chamber) (k : Chan) (x : FlowCheck) (s : State) : EventFrame s (s.setCheck c k x) :=
  EventFrame.refl s

theorem setGen_eventFrame (c : Chamber) (k : Chan) (x : Generator) (s : State) : EventFrame s (s.setGen c k x) :=
  EventFrame.refl s

theorem post_eventFrame (a : List Link) (n : Notice) (s : State) : EventFrame s (post a n s) := EventFrame.refl s

theorem dbc_eventFrame {s t : State} (h : ∃ b, t = { s with dbc := b }) : EventFrame s t := by
  obtain ⟨b, rfl⟩ := h
  exact EventFrame.refl s

theorem setGate_eventFrame (v : Volume) (x : Bool) (s : State) : EventFrame s (s.setGate v x) := by
  obtain ⟨g, h⟩ := s.setGate_eq v x
  rw [h]
  exact EventFrame.refl s

theorem arbitrate_eventFrame (s : State) : EventFrame s (arbitrate s) := dbc_eventFrame (arbitrate_dbc s)

theorem postWrite_eventFrame (d : Device) (x : BusValue) (k : WriteClass) (s : State) : EventFrame s (postWrite d x k s) :=
  dbc_eventFrame (postWrite_dbc d x k s)

theorem startTransition_eventFrame (c : Chamber) (k : Chan) (t n : Nat) (cls : WriteClass) (s : State) :
    EventFrame s (startTransition c k t n cls s) := by
  obtain ⟨b, h⟩ := startTransition_eq c k t n cls s
  rw [h]
  exact EventFrame.refl s

theorem zeroChannel_eventFrame (c : Chamber) (cls : WriteClass) (k : Chan) (s : State) :
    EventFrame s (zeroChannel c cls s k) := by
  unfold zeroChannel
  split
  · exact EventFrame.refl s
  · exact startTransition_eventFrame c k 0 0 cls s

/-- A fold of operations that each stay inside the frame stays inside it. -/
theorem foldl_eventFrame {α : Type} (f : State → α → State) (h : ∀ s a, EventFrame s (f s a)) (l : List α) (s : State) :
    EventFrame s (l.foldl f s) := by
  induction l generalizing s with
  | nil => exact EventFrame.refl s
  | cons a l ih => exact (h s a).trans (ih (f s a))

theorem zeroChamber_eventFrame (c : Chamber) (cls : WriteClass) (s : State) : EventFrame s (zeroChamber c cls s) :=
  foldl_eventFrame _ (fun s k => zeroChannel_eventFrame c cls k s) _ s

theorem setFlag_eventFrame (v : Volume) (f : Flag) (s : State) : EventFrame s (setFlag v f s) := by
  unfold setFlag
  split
  · dsimp only
    split <;> exact EventFrame.refl s
  · exact EventFrame.refl s

theorem setFlag?_eventFrame (v : Volume) (f : Option Flag) (s : State) : EventFrame s (setFlag? v f s) := by
  cases f with
  | none => exact EventFrame.refl s
  | some f => exact setFlag_eventFrame v f s

theorem countOn_eventFrame (v : Volume) (f : Counters → Counters) (s : State) : EventFrame s (countOn v f s) := by
  unfold countOn
  split <;> exact EventFrame.refl s

theorem recordEnd_eventFrame (v : Volume) (o : StepOutcome) (f : Option FailKind) (n : Option Note) (s : State) :
    EventFrame s (recordEnd v o f n s) := by
  unfold recordEnd
  split <;> exact EventFrame.refl s

theorem releaseRough_eventFrame (v : Volume) (s : State) : EventFrame s (releaseRough v s) := EventFrame.refl s

theorem joinRough_eventFrame (v : Volume) (s : State) : EventFrame s (joinRough v s) := EventFrame.refl s

theorem withdrawGas_eventFrame (c : Chamber) (s : State) : EventFrame s (withdrawGas c s) := EventFrame.refl s

theorem joinGas_eventFrame (c : Chamber) (l : List FlowEntry) (s : State) : EventFrame s (joinGas c l s) := EventFrame.refl s

theorem headerTest_eventFrame (s : State) : EventFrame s (headerTest s) := by
  unfold headerTest
  dsimp only
  split
  · split <;> exact EventFrame.refl s
  · split <;> exact EventFrame.refl s

theorem windDownChamber_eventFrame (c : Chamber) (s : State) : EventFrame s (windDownChamber c s) := by
  unfold windDownChamber
  exact ((EventFrame.refl s).trans (zeroChamber_eventFrame c .urgent (withdrawGas c (disarm c (rfOff c s))))).trans
    (postWrite_eventFrame (.throttle c) .opened .urgent _)

theorem windDownPlant_eventFrame (v : Volume) (x : Bool) (s : State) : EventFrame s (windDownPlant v x s) := by
  unfold windDownPlant
  have h : EventFrame s (match v with | .ch c => windDownChamber c s | _ => s) := by
    cases v with
    | ch c => exact windDownChamber_eventFrame c s
    | tc => exact EventFrame.refl s
    | ll l => exact EventFrame.refl s
  dsimp only
  split
  · exact h.trans (setGate_eventFrame v false (setVent v false (releaseRough v _)))
  · exact h

theorem windDown_eventFrame (v : Volume) (h : Option HoldRecord) (s : State) : EventFrame s (windDown v h s) :=
  windDownPlant_eventFrame v _ _

theorem failStep_eventFrame (v : Volume) (f : FailKind) (s : State) : EventFrame s (failStep v f s) := by
  unfold failStep
  split
  · dsimp only
    have h : EventFrame s (countOn v Counters.countFailure (setFlag? v f.flag (recordEnd v .failed (some f) none s))) :=
      ((recordEnd_eventFrame v _ _ _ s).trans (setFlag?_eventFrame v _ _)).trans (countOn_eventFrame v _ _)
    split
    · exact h.trans (windDown_eventFrame v _ _)
    · exact (h.trans (modVol_eventFrame v _ _)).trans (windDown_eventFrame v _ _)
  · exact EventFrame.refl s

theorem takeFault_eventFrame (v : Volume) (k : HoldCause) (s : State) : EventFrame s (takeFault v k s) := by
  unfold takeFault
  split
  · dsimp only
    have h := setFlag?_eventFrame v k.flag s
    split
    · exact (h.trans (recordEnd_eventFrame v _ _ _ _)).trans (windDown_eventFrame v _ _)
    · split
      · exact h.trans (setGate_eventFrame v false _)
      · exact h
    · exact h
    · exact h
    · exact h
  · exact EventFrame.refl s

theorem underflow_eventFrame (v : Volume) (s : State) : EventFrame s (underflow v s) := by
  unfold underflow
  exact ((setFlag_eventFrame v _ s).trans (countOn_eventFrame v _ _)).trans (windDown_eventFrame v _ _)

theorem requestGas_eventFrame (c : Chamber) (l : List FlowEntry) (s : State) : EventFrame s (requestGas c l s) := by
  unfold requestGas
  split
  · exact failStep_eventFrame _ _ s
  · exact joinGas_eventFrame c l s

/-! ## What a flag and an end write -/

@[simp] theorem post_vol (a : List Link) (n : Notice) (s : State) (v : Volume) : (post a n s).vol v = s.vol v := rfl

@[simp] theorem setFlag_vol_ne (v w : Volume) (f : Flag) (s : State) (h : w ≠ v) : (setFlag v f s).vol w = s.vol w := by
  by_cases hf : s.fitted v = true
  · by_cases hs : (s.vol v).hasFlag f = true <;> simp [setFlag, hf, hs, h]
  · simp [setFlag, hf]

/-- A flag set on a fitted volume changes its flags alone (R60). -/
theorem setFlag_vol_self (v : Volume) (f : Flag) (s : State) (h : s.fitted v = true) :
    (setFlag v f s).vol v = { s.vol v with flags := (s.vol v).flags ||| f.bit } := by
  by_cases hs : (s.vol v).hasFlag f = true <;> simp [setFlag, h, hs]

theorem Flag.num_lt (f : Flag) : f.num < 14 := by cases f <;> decide

theorem Flag.getLsbD_bit (f g : Flag) : f.bit.getLsbD g.num = (g == f) := by cases f <;> cases g <;> decide

theorem setFlag_hasFlag (v : Volume) (f g : Flag) (s : State) (h : s.fitted v = true) :
    ((setFlag v f s).vol v).hasFlag g = ((s.vol v).hasFlag g || g == f) := by
  rw [setFlag_vol_self v f s h]
  simp [Vol.hasFlag, Flag.getLsbD_bit]

@[simp] theorem recordEnd_vol_ne (v w : Volume) (o : StepOutcome) (f : Option FailKind) (n : Option Note) (s : State)
    (h : w ≠ v) : (recordEnd v o f n s).vol w = s.vol w := by
  cases hc : (s.vol v).current <;> simp [recordEnd, hc, h]

theorem recordEnd_vol_self (v : Volume) (o : StepOutcome) (f : Option FailKind) (n : Option Note) (r : StepRecord)
    (s : State) (h : (s.vol v).current = some r) :
    (recordEnd v o f n s).vol v = { s.vol v with lastEnd := some ⟨r.tag, r.kind, o, f, n⟩ } := by
  simp [recordEnd, h]

end Sys2Proof.Machine
end

