-- ==== Sys2Proof/Laws/Requests.lean ====
section
/-! SUPPORT. Sys2Proof/Laws/Requests.lean: what every request does around its owning block (R160, R161): a good frame changes its
own port alone, and a request is the owning block's action on the state that heard the frame, with the reply given. -/

namespace Sys2Proof.Machine

open Sys2Proof

/-! ## A good frame -/

@[simp] theorem hear_vols (l : Link) (s : State) : (hear l s).vols = s.vols := rfl
@[simp] theorem hear_gates (l : Link) (s : State) : (hear l s).gates = s.gates := rfl
@[simp] theorem hear_pec (l : Link) (s : State) : (hear l s).pec = s.pec := rfl
@[simp] theorem hear_rma (l : Link) (s : State) : (hear l s).rma = s.rma := rfl
@[simp] theorem hear_gat (l : Link) (s : State) : (hear l s).gat = s.gat := rfl
@[simp] theorem hear_hlm (l : Link) (s : State) : (hear l s).hlm = s.hlm := rfl
@[simp] theorem hear_fru (l : Link) (s : State) : (hear l s).fru = s.fru := rfl
@[simp] theorem hear_dbc (l : Link) (s : State) : (hear l s).dbc = s.dbc := rfl
@[simp] theorem hear_reu (l : Link) (s : State) : (hear l s).reu = s.reu := rfl
@[simp] theorem hear_tiu (l : Link) (s : State) : (hear l s).tiu = s.tiu := rfl
@[simp] theorem hear_flu (l : Link) (s : State) : (hear l s).flu = s.flu := rfl
@[simp] theorem hear_cfg (l : Link) (s : State) : (hear l s).cfg = s.cfg := rfl
@[simp] theorem hear_base (l : Link) (s : State) : (hear l s).base = s.base := rfl
@[simp] theorem hear_outbox (l : Link) (s : State) : (hear l s).outbox = s.outbox := rfl
@[simp] theorem hear_pending (l : Link) (s : State) : (hear l s).pending = s.pending := rfl
@[simp] theorem hear_vol (l : Link) (s : State) (v : Volume) : (hear l s).vol v = s.vol v := rfl
@[simp] theorem hear_reuOf (l : Link) (s : State) (c : Chamber) : (hear l s).reuOf c = s.reuOf c := rfl
@[simp] theorem hear_detector (l : Link) (s : State) (c : Chamber) : (hear l s).detector c = s.detector c := rfl
@[simp] theorem hear_gauge (l : Link) (s : State) (g : Gauge) : (hear l s).gauge g = s.gauge g := rfl
@[simp] theorem hear_row (l : Link) (s : State) (c : Chamber) (k : Chan) : (hear l s).row c k = s.row c k := rfl
@[simp] theorem hear_gen (l : Link) (s : State) (c : Chamber) (k : Chan) : (hear l s).gen c k = s.gen c k := rfl
@[simp] theorem hear_device (l : Link) (s : State) (d : Device) : (hear l s).device d = s.device d := rfl
@[simp] theorem hear_check (l : Link) (s : State) (c : Chamber) (k : Chan) : (hear l s).check c k = s.check c k := rfl
@[simp] theorem hear_fn (l : Link) (s : State) (f : InputFn) : (hear l s).fn f = s.fn f := rfl
@[simp] theorem hear_items (l : Link) (s : State) : (hear l s).items = s.items := rfl
@[simp] theorem hear_fitted (l : Link) (s : State) (v : Volume) : (hear l s).fitted v = s.fitted v := rfl
@[simp] theorem hear_capacity (l : Link) (s : State) (v : Volume) : (hear l s).capacity v = s.capacity v := rfl
@[simp] theorem hear_startDepth (l : Link) (s : State) (v : Volume) : (hear l s).startDepth v = s.startDepth v := rfl
@[simp] theorem hear_source (l : Link) (s : State) (c : Chamber) (k : Chan) : (hear l s).source c k = s.source c k := rfl
@[simp] theorem hear_fullScale (l : Link) (s : State) (c : Chamber) (k : Chan) : (hear l s).fullScale c k = s.fullScale c k := rfl
@[simp] theorem hear_code_opt (l : Link) (s : State) (g : Gauge) : (hear l s).code? g = s.code? g := rfl
@[simp] theorem hear_gateOpen (l : Link) (s : State) (v : Volume) : (hear l s).gateOpen v = s.gateOpen v := rfl
@[simp] theorem hear_hasCommitment (l : Link) (s : State) (c : Chamber) : (hear l s).hasCommitment c = s.hasCommitment c := rfl
@[simp] theorem hear_permit (l : Link) (s : State) (c : Chamber) : (hear l s).permit c = s.permit c := rfl
@[simp] theorem hear_stored (l : Link) (s : State) : (hear l s).stored = s.stored := rfl

@[simp] theorem hear_port_self (l : Link) (s : State) : (hear l s).port l = (s.port l).hear s.cfg.serving :=
  State.port_modPort_self s l _

@[simp] theorem hear_port_ne (l m : Link) (s : State) (h : m ≠ l) : (hear l s).port m = s.port m :=
  State.port_modPort_ne s l m _ h

/-! ## A request -/

/-- A request is its owning block's action on the state that heard the frame, with the reply given on its link. -/
theorem request_eq (l : Link) (tag : Byte) (req : Request) (s : State) :
    request l tag req s = answered l tag req (take l req (hear l s)).2 (take l req (hear l s)).1 := rfl

/-- A request of right form is served by its owning block. -/
theorem take_of_formed (l : Link) (req : Request) (s : State) (h : req.fits = true) (k : req.formed = true) :
    take l req s = serve l req s := by
  simp [take, h, k]

/-- A request of wrong form is refused FORMAT and changes nothing. -/
theorem take_of_not_formed (l : Link) (req : Request) (s : State) (h : (req.fits && req.formed) = false) :
    take l req s = (s, refuse .format) := by
  simp [take, h]

/-! ## The checks of a request's volume (R38) -/

theorem volumeCheck_range (l : Link) (n : Nat) (s : State) (h : Volume.ofNum n = none) :
    volumeCheck l n s = .error .range := by
  simp [volumeCheck, h]

theorem volumeCheck_notFitted (l : Link) (n : Nat) (v : Volume) (s : State) (h : Volume.ofNum n = some v)
    (k : s.fitted v = false) : volumeCheck l n s = .error .notFitted := by
  simp [volumeCheck, h, k]

theorem volumeCheck_owner (l : Link) (n : Nat) (v : Volume) (s : State) (h : Volume.ofNum n = some v)
    (k : s.fitted v = true) (o : v.master ≠ l) : volumeCheck l n s = .error .owner := by
  simp [volumeCheck, h, k, o]

theorem volumeCheck_ok (l : Link) (n : Nat) (v : Volume) (s : State) (h : Volume.ofNum n = some v)
    (k : s.fitted v = true) (o : v.master = l) : volumeCheck l n s = .ok v := by
  simp [volumeCheck, h, k, o]

/-! ## Configuration items -/

/-- Item numbers are 1 to 37, and no index of an item is above 45 (Table 11-1). -/
theorem Items.get?_bounds {t : Items} {i x : Nat} {y : Int} (h : t.get? i x = some y) : i < 38 ∧ x < 46 := by
  have big : ∀ n, Gauge.ofNum (n + 46) = none ∧ Volume.ofNum (n + 46) = none ∧ Turbo.ofNum (n + 46) = none
      ∧ Chamber.ofNum (n + 46) = none ∧ Link.ofNum (n + 46) = none ∧ channelOfNum (n + 46) = none := by
    intro n
    refine ⟨rfl, rfl, rfl, rfl, rfl, ?_⟩
    obtain ⟨m, hm⟩ := Nat.exists_eq_add_of_le (show 5 ≤ (n + 46 + 5) / 6 by omega)
    have : Chamber.ofNum ((n + 46 + 5) / 6) = none := by rw [hm, Nat.add_comm]; rfl
    simp [channelOfNum, this]
  refine ⟨?_, ?_⟩
  · by_contra hi
    obtain ⟨n, rfl⟩ := Nat.exists_eq_add_of_le (Nat.le_of_not_lt hi)
    rw [Nat.add_comm] at h
    exact absurd h (by simp [Items.get?])
  · by_contra hx
    obtain ⟨n, rfl⟩ := Nat.exists_eq_add_of_le (Nat.le_of_not_lt hx)
    rw [Nat.add_comm] at h
    obtain ⟨h1, h2, h3, h4, h5, h6⟩ := big n
    unfold Items.get? at h
    split at h <;> simp [h1, h2, h3, h4, h5, h6, placeValue, globalValue] at h

end Sys2Proof.Machine
end

