-- ==== Sys2Proof/Tests/Slice0.lean ====
section
/-! SUPPORT. Sys2Proof/Tests/Slice0.lean: the smoke test of WellFormed, the spec's worked numbers, and for every statement with
hypotheses a concrete state and operands that meet them, at the boundaries where its clauses meet. Expected values come from
the rule each test names. -/

namespace Sys2Proof.Tests

open Sys2Proof Sys2Proof.Machine

set_option maxRecDepth 100000

/-! ## WellFormed refuses what no field can carry -/

theorem test_wf_counts : (Instr.pressureSample .header 4096).wf = false ∧ (Instr.emissionSample .c1 4096).wf = false
    ∧ (Instr.auxSample .aux1 4096).wf = false ∧ (Instr.pressureSample .header 4095).wf = true := by decide

theorem test_wf_readings : (Instr.readGoodAnswer (.flow 65536)).wf = false
    ∧ (Instr.readGoodAnswer (.throttle (.flow 0) true)).wf = false
    ∧ (Instr.readGoodAnswer (.throttle (.code 601) true)).wf = false
    ∧ (Instr.readGoodAnswer (.throttle (.code (-401)) true)).wf = false
    ∧ (Instr.readGoodAnswer (.throttle .opened true)).wf = true := by decide

theorem test_wf_frames : (Instr.frameReceived .txc [1#8] 0#16).wf = false
    ∧ (Instr.frameReceived .txc (List.replicate 61 0#8) 0#16).wf = false
    ∧ (Instr.frameReceived .txc [29#8, 1#8] 0#16).wf = true := by decide

theorem test_wf_volume_numbers : (Instr.run .txc 0 256).wf = false ∧ (Instr.hold .txc 0 256).wf = false
    ∧ (Instr.resume .txc 0 256).wf = false ∧ (Instr.clear .txc 0 256).wf = false ∧ (Instr.abort .txc 0 256).wf = false
    ∧ (Instr.clearConditions .txc 0 256 0).wf = false ∧ (Instr.resetCounters .txc 0 256).wf = false
    ∧ (Instr.run .txc 0 255).wf = true := by decide

theorem test_wf_plant_numbers : (Instr.gasEnable .txc 0 256 true).wf = false ∧ (Instr.transferAllow .txc 0 256 true).wf = false
    ∧ (Instr.openSlit .txc 0 256).wf = false ∧ (Instr.closeSlit .txc 0 256).wf = false
    ∧ (Instr.openDoor .txc 0 256).wf = false ∧ (Instr.closeDoor .txc 0 256).wf = false
    ∧ (Instr.clearDevice .txc 0 256).wf = false := by decide

theorem test_wf_reads : (Instr.readVolume .txc 0 256 0).wf = false ∧ (Instr.readVolume .txc 0 0 256).wf = false
    ∧ (Instr.readQueue .txc 0 256 0 0).wf = false ∧ (Instr.readQueue .txc 0 0 256 0).wf = false
    ∧ (Instr.readQueue .txc 0 0 0 256).wf = false ∧ (Instr.readSource .txc 0 256).wf = false
    ∧ (Instr.readChannel .txc 0 256 0 0).wf = false ∧ (Instr.readChannel .txc 0 0 256 0).wf = false
    ∧ (Instr.readChannel .txc 0 0 0 256).wf = false ∧ (Instr.readDevice .txc 0 256 0).wf = false
    ∧ (Instr.readDevice .txc 0 0 256).wf = false ∧ (Instr.readCounters .txc 0 256 0).wf = false
    ∧ (Instr.readCounters .txc 0 0 256).wf = false := by decide

theorem test_wf_items : (Instr.readConfig .txc 0 65536 0 0).wf = false ∧ (Instr.readConfig .txc 0 0 256 0).wf = false
    ∧ (Instr.readConfig .txc 0 0 0 256).wf = false ∧ (Instr.writeConfig .txc 0 65536 0 0).wf = false
    ∧ (Instr.writeConfig .txc 0 0 256 0).wf = false ∧ (Instr.writeConfig .txc 0 0 0 2147483648).wf = false
    ∧ (Instr.writeConfig .txc 0 0 0 (-2147483649)).wf = false := by decide

/-- A DWELL as it is sent: tag 7, duration 3. -/
def rawDwell : RawRecord := ⟨4, 7, 0, 3, 0, 0, 0, 0, 0, 0, 0, [], none⟩

/-- An ETCH as it is sent, with one flow and an endpoint part: tag 8, duration 100. -/
def rawEtch : RawRecord :=
  ⟨7, 8, 4, 100, 0, 0, 0, 0, 3500, 0, 0, [⟨1, 12000, 6000⟩], some ⟨1000, 1, 20, 2, 0, 0, 50⟩⟩

theorem test_wf_record : (Instr.load .txc 0 5 rawDwell).wf = true ∧ (Instr.load .txc 0 1 rawEtch).wf = true
    ∧ (Instr.load .txc 0 256 rawDwell).wf = false := by decide

theorem test_wf_record_fields : (RawRecord.wf { rawDwell with kind := 256 }) = false
    ∧ (RawRecord.wf { rawDwell with tag := 256 }) = false ∧ (RawRecord.wf { rawDwell with duration := 65536 }) = false
    ∧ (RawRecord.wf { rawDwell with limit := 65536 }) = false ∧ (RawRecord.wf { rawDwell with target := 32768 }) = false
    ∧ (RawRecord.wf { rawDwell with floor := -32769 }) = false ∧ (RawRecord.wf { rawDwell with window := 256 }) = false
    ∧ (RawRecord.wf { rawDwell with power := 65536 }) = false ∧ (RawRecord.wf { rawDwell with retries := 256 }) = false
    ∧ (RawRecord.wf { rawDwell with cycles := 256 }) = false ∧ (RawRecord.wf { rawDwell with flags := 4 }) = false
    ∧ (RawRecord.wf { rawDwell with flows := List.replicate 256 ⟨1, 0, 0⟩ }) = false := by decide

theorem test_wf_record_parts : (RawFlow.wf ⟨256, 0, 0⟩) = false ∧ (RawFlow.wf ⟨1, 65536, 0⟩) = false
    ∧ (RawFlow.wf ⟨1, 0, 65536⟩) = false ∧ (RawEndpoint.wf ⟨65536, 0, 0, 1, 0, 0, 0⟩) = false
    ∧ (RawEndpoint.wf ⟨0, 0, 256, 1, 0, 0, 0⟩) = false ∧ (RawEndpoint.wf ⟨0, 0, 0, 256, 0, 0, 0⟩) = false
    ∧ (RawEndpoint.wf ⟨0, 0, 0, 1, 65536, 0, 0⟩) = false ∧ (RawEndpoint.wf ⟨0, 0, 0, 1, 0, 65536, 0⟩) = false
    ∧ (RawEndpoint.wf ⟨0, 0, 0, 1, 0, 0, 256⟩) = false ∧ (RawRecord.wf { rawDwell with flows := [⟨256, 0, 0⟩] }) = false
    ∧ (RawRecord.wf { rawEtch with endpoint := some ⟨65536, 0, 0, 1, 0, 0, 0⟩ }) = false := by decide

/-! ## Worked numbers -/

/-- The check value of the CRC-16 of R158 over the characters 1 to 9. -/
theorem test_crc : crc16 [0x31#8, 0x32#8, 0x33#8, 0x34#8, 0x35#8, 0x36#8, 0x37#8, 0x38#8, 0x39#8] = 0x29B1#16 := by decide

/-- R7: the default range maps count 0 to -300, and every count above 3685 reads as 600. -/
theorem test_pressure_code : pressureCode (-300) 700 0 = -300 ∧ pressureCode (-300) 700 3685 = 599
    ∧ pressureCode (-300) 700 3686 = 600 ∧ pressureCode (-300) 700 4095 = 600 ∧ pressureCode (-1000) 1000 0 = -400
    ∧ pressureCode 700 (-300) 4095 = -300 := by decide

/-- R133: the power code of 3000 W is 4095. -/
theorem test_power_code : powerCodeOf 3000 = 4095 ∧ powerCodeOf 0 = 0 ∧ powerCodeOf 1500 = 2047 := by decide

/-- R155: 45 output lines; line 1 is the rough valve of chamber 1, line 25 that of TC, line 45 source 10. -/
theorem test_output_lines : outLines.length = 45 ∧ outLines[0]? = some (.rough (.ch .c1))
    ∧ outLines[24]? = some (.rough .tc) ∧ outLines[44]? = some (.src 10) := by decide

/-- R96, R119: channel 6(c - 1) + k; throttle controllers at 25 to 28. -/
theorem test_device_addresses : Device.ofAddr 1 = some (.mfc .c1 .k1) ∧ Device.ofAddr 24 = some (.mfc .c4 .k6)
    ∧ Device.ofAddr 25 = some (.throttle .c1) ∧ Device.ofAddr 28 = some (.throttle .c4) ∧ Device.ofAddr 0 = none
    ∧ Device.ofAddr 29 = none := by decide

/-- R160, Table 10-4: bodies that have a request's form, and some that have none. -/
theorem test_read_request : readRequest 2 [5#8] = some (.run 5) ∧ readRequest 7 [1#8, 2#8] = none
    ∧ readRequest 30 [] = none ∧ readRequest 29 [0#8] = none
    ∧ readRequest 25 [0#8, 7#8, 1#8, 255#8, 255#8, 255#8, 254#8] = some (.writeConfig 7 1 (-2))
    ∧ readRequest 1 (5#8 :: encRecord ⟨.dwell, 7, true, .abort, 3, 0, 0, 0, 0, [], 0, 0, 1, none⟩)
      = some (.load 5 ⟨4, 7, 3, 3, 0, 0, 0, 0, 0, 0, 1, [], none⟩) := by decide

/-! ## Small states -/

/-- The part in SERVING, everything else as after power-on. -/
def serving : State := { State.reset with cfg := ⟨true, .default⟩ }

/-- SERVING with every input function asserted but EMERGENCY_OFF, and every gas enable flag set. -/
def ready : State :=
  { serving with
    flu := ⟨none, (Per18.fill true).set .emergencyOff false⟩
    gat := { Gat.reset with enable := .fill true } }

/-- A stored record of a kind: tag 7, duration 3, on-fail HOLD, not last. -/
def record (k : Kind) : StepRecord := ⟨k, 7, false, .hold, 3, 0, 0, 0, 0, [], 0, 0, 1, none⟩

/-- A volume RUNNING a record in a phase. -/
def inStep (v : Volume) (r : StepRecord) (p : Phase) (s : State) : State :=
  s.modVol v fun x => { x with state := .running, phase := p, current := some r, effLimit := 5 }

/-- A gauge with a code. -/
def withCode (g : Gauge) (p : Int) (s : State) : State := s.setGauge g ⟨some ⟨2000, p, false, false⟩, false, false, false⟩

/-- TC in ROUGH under an OPEN light grant, its gauge and the manifold's at 350. -/
def roughingTc : State :=
  let s := withCode .manifold 350 (withCode (.vol .tc) 350 (inStep .tc (record .pump) .rough ready))
  { s.modVol .tc (fun x => { x with roughOpen := true, stallBaseline := 400 }) with rma := ⟨[⟨.tc, .light, true⟩], []⟩ }

/-- Chamber 1 with channel 1 at a commitment, and its transition in flight or not. -/
def withFlow (n : Nat) (inFlight : Bool) (s : State) : State :=
  (s.setRow .c1 .k1 ⟨n, n, inFlight⟩).setGen .c1 .k1 ((Generator.reset).jump n .normal)

/-- An endpoint part: threshold 1000, RISE, hysteresis 20, confirm 2, blanking 5, minimum time 10, over-etch 50 percent. -/
def endpoint : Endpoint := ⟨1000, .rise, 20, 2, 5, 10, 50, false⟩

/-- Chamber 1 in the ETCH phase with its detector armed, gated timer 10. -/
def etching : State :=
  ((inStep (.ch .c1) { record .etch with endpoint := some endpoint, duration := 100 } .etch ready).setReu .c1
    ⟨true, 0, 0, 0, 0, 0, 10, 0, 100⟩).setDetector .c1 ⟨true, 5, 1, none⟩

/-- A SET in flight to the MFC of chamber 1, channel 1. -/
def setInFlight (s : State) : State :=
  { s with dbc := { s.dbc with inFlight := some ⟨.mfc .c1 .k1, .set ⟨.flow 500, .normal, 0⟩, 0, false⟩ } }

/-- A READ in flight to the MFC of chamber 1, channel 1. -/
def readInFlight (s : State) : State :=
  { s with dbc := { s.dbc with inFlight := some ⟨.mfc .c1 .k1, .read, 0, false⟩ } }

/-! ## States that meet the statements' hypotheses -/

theorem test_FrontCommandRuns_met :
    ({ State.reset with pending := [.stepTick, .powerOn] }).pending = Instr.stepTick :: [.powerOn] := by decide

/-- The last sample tick before a step tick, with a silence timer one tick before its last. -/
theorem test_IdleStepIsSampleTick_met :
    let s := ({ serving with base := ⟨8, 3⟩ }).setPort .txc { Port.reset with silence := some 498 }
    s.pending = [] ∧ s.base.samples < 9 ∧ s.dbc.inFlight = none
      ∧ ∀ l n, (s.port l).silence = some n → (n : Int) + 1 < s.items.linkTimeout.get l := by
  refine ⟨by decide, by decide, by decide, ?_⟩
  refine Link.forall_iff.2 ⟨Chamber.forall_iff.2 ⟨?_, ?_, ?_, ?_⟩, ?_⟩ <;> intro n h
  · exact absurd h (by simp [State.port, State.setPort, Per5.set, Per5.get, serving, State.reset, Per5.fill, Per4.fill, Per4.get, Port.reset])
  · exact absurd h (by simp [State.port, State.setPort, Per5.set, Per5.get, serving, State.reset, Per5.fill, Per4.fill, Per4.get, Port.reset])
  · exact absurd h (by simp [State.port, State.setPort, Per5.set, Per5.get, serving, State.reset, Per5.fill, Per4.fill, Per4.get, Port.reset])
  · exact absurd h (by simp [State.port, State.setPort, Per5.set, Per5.get, serving, State.reset, Per5.fill, Per4.fill, Per4.get, Port.reset])
  · have : n = 498 := by simpa [State.port, State.setPort, Per5.set, Per5.get] using h.symm
    subst this
    decide

/-- The 10th sample tick, which is a step tick, and the 100th step tick, which is a second tick as well; a transaction one
count before the response timeout of 3 and at it; a link at its timeout. -/
theorem test_IdleStepIsSampleTick_cascade :
    let s := fun n m k => { setInFlight ready with
      base := ⟨n, m⟩, dbc := { ready.dbc with inFlight := some ⟨.mfc .c1 .k1, .read, k, false⟩ } }
    (s 9 98 1).pending = [] ∧ 9 ≤ (s 9 98 1).base.samples ∧ (s 9 98 1).base.steps < 99 ∧ 99 ≤ (s 9 99 1).base.steps
      ∧ ((1 : Nat) : Int) + 1 < (s 9 98 1).items.responseTimeout ∧ (s 9 98 2).items.responseTimeout ≤ ((2 : Nat) : Int) + 1
      ∧ (sampleTick (s 9 98 1)).base = ⟨0, 99⟩ ∧ (sampleTick (s 9 99 1)).base = ⟨0, 0⟩
      ∧ ((sampleTick (s 0 0 1)).dbc.inFlight.map (·.count)) = some 2
      ∧ ((sampleTick (s 0 0 2)).device (.mfc .c1 .k1)).noAnswers = 1
      ∧ ((tickSilence (serving.setPort .txc { Port.reset with silence := some 499 }) .txc).port .txc).lost = true := by decide

/-- A full manifold: one heavy grant, and a head that waits. -/
theorem test_RoughLoadKept_met :
    let s := { serving with rma := ⟨[⟨.tc, .heavy, true⟩], [.ch .c1]⟩, pending := [.roughGrant] }
    roughLoadLaw s ∧ ∃ t, step s = .next t := ⟨by unfold roughLoadLaw; decide, _, rfl⟩

/-- The capacities at their defaults sum to 96; a loadlock's queue is full. -/
theorem test_QueueCapacityKept_met :
    let s := serving.modVol (.ll .a) fun x => { x with queue := List.replicate 12 (record .dwell) }
    queueLaw s ∧ ∃ t, step s = .next t := by
  refine ⟨⟨?_, by decide⟩, _, rfl⟩
  refine Volume.forall_iff.2 ⟨Chamber.forall_iff.2 ?_, ?_, Loadlock.forall_iff.2 ?_⟩ <;> decide

/-- A port with an unread notice and its attention line asserted, at count 7. -/
theorem test_NoticePortKept_met :
    let s := serving.setPort .txc
      { Port.reset with slot := some ⟨⟨.stepDone, 5, 7, 1, 0, 0⟩, true⟩, sequence := 7, attention := true }
    noticeLaw s ∧ ∃ t, step s = .next t := by
  refine ⟨⟨rfl, Link.forall_iff.2 ⟨Chamber.forall_iff.2 ⟨?_, ?_, ?_, ?_⟩, ?_⟩⟩, _, rfl⟩
  all_goals first
    | exact ⟨by decide, fun _ => ⟨_, rfl, rfl⟩, fun _ => rfl⟩
    | exact ⟨by decide, fun h => absurd h (by decide), fun ⟨x, h, _⟩ => absurd h (by
        simp [State.port, State.setPort, Per5.set, Per5.get, serving, State.reset, Per5.fill, Per4.fill, Per4.get, Port.reset])⟩

/-- The slit of LLA open and the door permit of LLB asserted, every volume at rest. -/
theorem test_OpeningsKept_met :
    let s := { serving with tiu := { Tiu.reset with slits := (PerSlit.fill false).set (.ll .a) true, doors := ⟨false, true⟩ } }
    openingLaw s ∧ ∃ t, step s = .next t := by
  refine ⟨⟨?_, ?_⟩, _, rfl⟩
  · exact Slit.forall_iff.2 ⟨Chamber.forall_iff.2 (by decide), Loadlock.forall_iff.2 (by decide)⟩
  · exact Loadlock.forall_iff.2 (by decide)

/-- A ramp from 0 to 10 in 3 ticks under way: one step taken, posted 3, accumulator 1. -/
theorem test_CommitmentCoversSetpoint_met :
    let s := ((ready.setRow .c1 .k1 ⟨10, 10, true⟩).setGen .c1 .k1 ⟨3, 10, true, 3, 3, 1, 1, 2, .normal⟩)
    coverLaw s ∧ ∃ t, step s = .next t := by
  refine ⟨?_, _, rfl⟩
  unfold coverLaw Generator.sound
  exact Chamber.forall_iff.2 ⟨Chan.forall_iff.2 (by decide), Chan.forall_iff.2 (by decide), Chan.forall_iff.2 (by decide),
    Chan.forall_iff.2 (by decide)⟩

/-- TC in ROUGH under its grant; chamber 1 in ETCH with RF on; its channel 1 at 500, the SET of 500 in flight, 0 the value
written before. -/
def busy : State :=
  let s := (withFlow 500 false (inStep (.ch .c1) (record .etch) .etch roughingTc)).setReu .c1
    { Reu.reset with rfOn := true, powerCode := 1 }
  setInFlight (s.setDevice (.mfc .c1 .k1) { DeviceRow.reset with written := some (.flow 0) })

theorem test_PlantLawKept_met : plantLaw busy ∧ ∃ t, step busy = .next t := by
  refine ⟨⟨by unfold roughLoadLaw; decide, ⟨by decide, by unfold grantPhase; decide, by decide, ?_⟩, ?_, ⟨by decide, by decide, ?_⟩,
    ⟨?_, fun h => absurd h (by decide)⟩, ⟨?_, ?_⟩, ?_, ?_⟩, _, rfl⟩
  · exact Volume.forall_iff.2 ⟨Chamber.forall_iff.2 (by decide), by decide, Loadlock.forall_iff.2 (by decide)⟩
  · unfold rfLaw; exact Chamber.forall_iff.2 (by decide)
  · exact Chamber.forall_iff.2 (by decide)
  · exact Volume.forall_iff.2 ⟨Chamber.forall_iff.2 (by decide), by decide, Loadlock.forall_iff.2 (by decide)⟩
  · intro n h1 h2
    interval_cases n <;> decide
  · exact Chamber.forall_iff.2 ⟨Chan.forall_iff.2 (by decide), Chan.forall_iff.2 (by decide), Chan.forall_iff.2 (by decide),
      Chan.forall_iff.2 (by decide)⟩
  · exact Slit.forall_iff.2 ⟨Chamber.forall_iff.2 (by decide), Loadlock.forall_iff.2 (by decide)⟩
  · exact Loadlock.forall_iff.2 (by decide)

/-- Every item at its default lies in its range (Table 11-1). -/
theorem test_default_items_in_range : ∀ s : State, s.items = Items.default → itemLaw s := by
  intro s h i x y hy
  rw [h] at hy ⊢
  obtain ⟨hi, hx⟩ := Items.get?_bounds hy
  have k : ∀ i < 38, ∀ x < 46, ((Items.default.get? i x).all fun y =>
      (Items.default.range i x).1 ≤ y && y ≤ (Items.default.range i x).2) = true := by decide
  simpa [hy] using k i hi x hx

/-- At a settled state, and at one where an overhang has ended and its end is due. -/
theorem test_EventsSettle_met : itemLaw busy ∧ queueLaw busy ∧ plantLaw busy ∧ Settled busy ∧ (∃ t, step busy = .next t)
    ∧ ∃ t, nextDue? ((inStep .tc (record .vent) .overhang ready).modVol .tc fun x => { x with overhangCount := 3 }) = some t := by
  refine ⟨test_default_items_in_range _ rfl, ⟨?_, by decide⟩, test_PlantLawKept_met.1, ⟨by decide, by decide⟩, ⟨_, rfl⟩,
    Option.isSome_iff_exists.1 (by decide)⟩
  refine Volume.forall_iff.2 ⟨Chamber.forall_iff.2 ?_, ?_, Loadlock.forall_iff.2 ?_⟩ <;> decide

theorem test_SetpointsCovered_met : plantLaw busy ∧ coverLaw busy ∧ busLaw busy ∧ ∃ t, step busy = .next t := by
  have quiet : ∀ c k, busy.heldValues (.mfc c k) = [] ∧ busy.latestValue (.mfc c k) = none → (s : State) → s = busy →
      (∀ x ∈ s.heldValues (.mfc c k), ∃ f, x = .flow f ∧ f ≤ (s.row c k).commitment)
        ∧ ∀ x, s.latestValue (.mfc c k) = some x → x = .flow (s.gen c k).posted := by
    rintro c k ⟨h1, h2⟩ s rfl
    simp [h1, h2]
  have own : busy.heldValues (.mfc .c1 .k1) = [.flow 0, .flow 500]
      ∧ busy.latestValue (.mfc .c1 .k1) = some (.flow 500) := by decide
  have held : ∀ c k, (∀ x ∈ busy.heldValues (.mfc c k), ∃ f, x = .flow f ∧ f ≤ (busy.row c k).commitment)
      ∧ ∀ x, busy.latestValue (.mfc c k) = some x → x = .flow (busy.gen c k).posted := by
    refine Chamber.forall_iff.2 ⟨Chan.forall_iff.2 ⟨?_, ?_, ?_, ?_, ?_, ?_⟩, Chan.forall_iff.2 ⟨?_, ?_, ?_, ?_, ?_, ?_⟩,
      Chan.forall_iff.2 ⟨?_, ?_, ?_, ?_, ?_, ?_⟩, Chan.forall_iff.2 ⟨?_, ?_, ?_, ?_, ?_, ?_⟩⟩
    · rw [own.1, own.2]
      refine ⟨?_, fun x h => (Option.some.inj h).symm⟩
      simp only [List.mem_cons, List.not_mem_nil, or_false]
      rintro x (rfl | rfl)
      · exact ⟨0, rfl, by decide⟩
      · exact ⟨500, rfl, by decide⟩
    all_goals exact quiet _ _ (by decide) _ rfl
  have rest : ∀ c k, (busy.row c k).commitment ≤ busy.fullScale c k
      ∧ ((busy.device (.mfc c k)).failed = true → busy.row c k = ⟨0, 0, false⟩ ∧ (busy.gen c k).posted = 0) :=
    Chamber.forall_iff.2 ⟨Chan.forall_iff.2 (by decide), Chan.forall_iff.2 (by decide), Chan.forall_iff.2 (by decide),
      Chan.forall_iff.2 (by decide)⟩
  refine ⟨test_PlantLawKept_met.1, ?_, ⟨fun c k => ⟨(held c k).1, (rest c k).1, (held c k).2, (rest c k).2⟩,
    fun e he => absurd he (by simp [show busy.gat.queue = [] by decide])⟩, _, rfl⟩
  unfold coverLaw Generator.sound
  exact Chamber.forall_iff.2 ⟨Chan.forall_iff.2 (by decide), Chan.forall_iff.2 (by decide), Chan.forall_iff.2 (by decide),
    Chan.forall_iff.2 (by decide)⟩

theorem test_SettlingFrame_met :
    Instr.secondTick ∈ [Instr.dwellComplete .tc, .secondTick] ∧ ∃ t, exec .secondTick roughingTc = .next t :=
  ⟨by decide, _, rfl⟩

/-- A chamber in ETCH, one not RUNNING; blanking at its last tick but one, at its last, and over. -/
theorem test_TicksAdvanceCounts_step_met : (etching.vol (.ch .c1)).state = .running
    ∧ (etching.vol (.ch .c2)).state ≠ .running ∧ etching.pec.blanking = none
    ∧ (endBlanking { serving with pec := { serving.pec with blanking := some 99 } }).pec.blanking = some 99
    ∧ (endBlanking { serving with pec := { serving.pec with blanking := some 100 } }).pec.blanking = none := by decide

/-- A roughing volume below its limit, and one that this tick brings to its limit of 5, whose stall count stands. -/
theorem test_TicksAdvanceCounts_second_met :
    let s := fun n => roughingTc.modVol .tc fun x => { x with limitCount := n }
    let t := fun n => ((secondTickEffect (s n)).vol .tc)
    roughing roughingTc .tc = true ∧ roughing serving .tc = false ∧ (t 3).limitCount = 4 ∧ (t 3).stallCount = 1
      ∧ (t 4).limitCount = 5 ∧ (t 4).stallCount = 0 ∧ (t 4).admissionCount = 0 := by decide

/-- R116: a generator whose next step carries (4 + 3 = 7), and one whose next step does not (3 + 3 < 7); the 7-tick ramp of
chapter 7 from 1200 to 5000 has quotient 542 and remainder 6. -/
theorem test_RampArrivesExactly_met :
    let g : Generator := ⟨0, 100, true, 7, 5, 3, 4, 2, .normal⟩
    let h : Generator := ⟨0, 100, true, 7, 5, 3, 3, 2, .normal⟩
    0 < g.left ∧ g.ticks ≤ g.accumulator + g.remainder ∧ h.accumulator + h.remainder < h.ticks ∧ (0 < 1)
      ∧ (Generator.reset).left = 0
      ∧ (({ Generator.reset with posted := 1200 } : Generator).ramp 5000 7 .normal).quotient = 542
      ∧ (({ Generator.reset with posted := 1200 } : Generator).ramp 5000 7 .normal).remainder = 6 := by decide

/-- A chamber or TC RUNNING a record in a phase, its gauge at a code. -/
def atCode (v : Volume) (r : StepRecord) (p : Phase) (n : Int) : State :=
  (withCode (.vol v) n (inStep v r p ready)).modVol v fun x => { x with cyclesLeft := 2 }

/-- What each phase that waits on its code does one code short of it and at it: crossover 200 for a PUMP to 100 and the
target for one to 200; HIGH_PUMP, VENTING; a fill to 300, whose pump-back to 100 is then to come or already at its end; a
pump-back to 100 with a fill to come and with its fill code already reached. At the end of a chamber's fill (R92, R102) channel
1 at 500 fu is in flight to 0 and its class-2 zero is on the bus, whether its last write was confirmed or not; a channel at
rest at 0 is left alone. -/
theorem test_PressureSampleHeld_phases :
    let go := fun v r p n => codeReached? v (atCode v r p n)
    let ph := fun v r p n => ((go v r p n).map fun t => (t.vol v).phase)
    let pump := fun x => { record .pump with target := x }
    let purge := fun x y => { record .purge with target := x, floor := y }
    let filled := fun x y f => ((codeReached? (.ch .c1) (f (atCode (.ch .c1)
      { purge x y with flows := [⟨.k1, 500, 0⟩], last := true } .fill 300))).map fun t =>
        (t.row .c1 .k1, (t.gen .c1 .k1).posted, t.dbc.inFlight))
    inPhase (atCode .tc (pump 100) .rough 200) .tc .rough = some (pump 100)
      ∧ handsToTurbo ready .tc (pump 100) = true ∧ handsToTurbo ready .tc (pump 200) = false
      ∧ go .tc (pump 100) .rough 201 = none ∧ ph .tc (pump 100) .rough 200 = some .turboWait
      ∧ go .tc (pump 200) .rough 201 = none ∧ ((go .tc (pump 200) .rough 200).map fun t => (t.vol .tc).lastEnd.isSome) = some true
      ∧ go .tc (pump 100) .highPump 101 = none ∧ (go .tc (pump 100) .highPump 100).isSome = true
      ∧ go .tc { record .vent with target := 300 } .venting 299 = none
      ∧ ph .tc { record .vent with target := 300 } .venting 300 = some .overhang
      ∧ go .tc (purge 300 100) .fill 299 = none ∧ ph .tc (purge 300 100) .fill 300 = some .waitRough
      ∧ ((go .tc (purge 300 300) .fill 300).map fun t => (t.vol .tc).cyclesLeft) = some 0
      ∧ go .tc (purge 300 100) .pumpback 101 = none ∧ ph .tc (purge 300 100) .pumpback 100 = some .fill
      ∧ ph (.ch .c1) { purge 300 100 with flows := [⟨.k1, 500, 0⟩] } .pumpback 100 = some .waitGas
      ∧ ((go .tc (purge 100 100) .pumpback 100).map fun t => (t.vol .tc).cyclesLeft) = some 0
      ∧ filled 300 100 (withFlow 500 true) = some (⟨500, 0, true⟩, 0, some ⟨.mfc .c1 .k1, .set ⟨.flow 0, .normal, 0⟩, 0, false⟩)
      ∧ filled 300 300 (withFlow 500 false) = some (⟨500, 0, true⟩, 0, some ⟨.mfc .c1 .k1, .set ⟨.flow 0, .normal, 0⟩, 0, false⟩)
      ∧ filled 300 100 id = some (⟨0, 0, false⟩, 0, none) := by decide

/-- The range flags at counts 15, 16, 4079 and 4080; a load drop below the heavy limit of 400 and none at it; a window of 50
around 100 at its edges and one past them, and without a sample. -/
theorem test_PressureSampleHeld_edges :
    let g : Grant := ⟨.tc, .heavy, true⟩
    let s := fun n => withCode (.vol .tc) n { ready with rma := ⟨[g], []⟩ }
    let r := { record .gas with target := 100, window := 50 }
    let w := fun n => ((sampleWindow .c1 (atCode (.ch .c1) r .settle n)).vol (.ch .c1)).window
    (sampleOf serving .header 15).underFlag = true ∧ (sampleOf serving .header 16).underFlag = false
      ∧ (sampleOf serving .header 4079).overFlag = false ∧ (sampleOf serving .header 4080).overFlag = true
      ∧ ((takeSample .header (sampleOf serving .header 4080) serving).vol (.ch .c1)).hasFlag .gaugeRange = true
      ∧ ((takeSample .header (sampleOf serving .header 4080) serving).vol .tc).hasFlag .gaugeRange = false
      ∧ (s 399).code? (.vol .tc) = some 399 ∧ (dropLoad .tc (s 399)).rma.used = 1 ∧ (dropLoad .tc (s 400)).rma.used = 4
      ∧ w 50 = .inside ∧ w 150 = .inside ∧ w 49 = .outside ∧ w 151 = .outside
      ∧ (inStep (.ch .c1) r .settle ready).code? (.vol (.ch .c1)) = none
      ∧ ((sampleWindow .c1 (inStep (.ch .c1) r .settle ready)).vol (.ch .c1)).window = .outside := by decide

/-- Codes at both ends of the range and one inside each end. -/
theorem test_PressureCodeExact_met : pressureCode (-1000) 1000 0 = -400 ∧ pressureCode (-399) 601 0 = -399
    ∧ pressureCode (-300) 700 3685 = 599 ∧ pressureCode (-300) 700 3686 = 600 := by decide

/-- A comparator that runs, in each direction, and one that is blanked; the header's assertion with a chamber RUNNING with a
commitment, one without, and one at rest. -/
theorem test_TripComparators_met :
    let s := { serving with cfg := ⟨true, { Items.default with tripEnable := .fill 1 }⟩ }
    let d := { serving with cfg := ⟨true, { Items.default with tripEnable := .fill 1, tripDirection := .fill 1 }⟩ }
    comparatorRuns s .header = true ∧ s.items.tripDirection.get .header = 0 ∧ comparatorRuns d .header = true
      ∧ d.items.tripDirection.get .header = 1 ∧ comparatorRuns serving .header = false
      ∧ serving.fitted (.ch .c1) = true ∧ (Volume.tc).chamber? = none
      ∧ (evalComparator .header 601 s).hlm.trip = true ∧ (evalComparator .header 600 s).hlm.trip = false := by decide

/-- R12, R15, R16: at the clearing code the comparator clears, one above it it stays; a manifold assertion flags the holder
of a grant; a volume's assertion faults it. -/
theorem test_TripComparators_destinations :
    let s := ({ roughingTc with cfg := ⟨true, { Items.default with tripEnable := .fill 1 }⟩ }).setGauge .header
      ⟨none, false, false, true⟩
    ((evalComparator .header 590 s).gauge .header).asserted = false ∧ ((evalComparator .header 591 s).gauge .header).asserted = true
      ∧ ((evalComparator .manifold 601 s).vol .tc).hasFlag .manifoldTrip = true
      ∧ ((evalComparator .manifold 601 s).vol (.ch .c1)).hasFlag .manifoldTrip = false
      ∧ (((evalComparator (.vol .tc) 601 s).vol .tc).hold.map (·.cause)) = some .pressureTrip := by decide

theorem test_EndpointDetection_met :
    let e := etching
    let r := { record .etch with endpoint := some endpoint, duration := 100 }
    (e.vol (.ch .c1)).state = .running ∧ (e.vol (.ch .c1)).phase = .etch ∧ (e.vol (.ch .c1)).current = some r
      ∧ r.endpoint = some endpoint ∧ (e.detector .c1).armed = true ∧ (e.detector .c2).armed = false
      ∧ endpoint.blanking ≤ (e.detector .c1).blanking ∧ endpoint.minTime ≤ (e.reuOf .c1).gated := by decide

/-- The sample that confirms, and one tick too early in blanking or minimum time; the boundaries of the RISE columns. -/
theorem test_EndpointDetection_boundaries : countsSample endpoint 1000 = true ∧ countsSample endpoint 999 = false
    ∧ resetsSample endpoint 980 = false ∧ resetsSample endpoint 979 = true
    ∧ countsSample { endpoint with direction := .fall } 1001 = false
    ∧ resetsSample { endpoint with direction := .fall } 1021 = true
    ∧ (examineSample .c1 1000 etching).detector .c1 = ⟨false, 5, 2, some 10⟩
    ∧ ((examineSample .c1 1000 etching).reuOf .c1).endGated = 15
    ∧ examineSample .c1 1000 (etching.setDetector .c1 ⟨true, 4, 1, none⟩) = etching.setDetector .c1 ⟨true, 4, 1, none⟩ := by
  decide

theorem test_SimpleRowsExact_met : ({ serving with pec := { serving.pec with blanking := some 100 } }).pec.blanking = some 100
    ∧ serving.pec.blanking = none ∧ ((serving.setPort .txc { Port.reset with assembling := true }).port .txc).assembling = true
    ∧ (serving.port .txc).assembling = false := by decide

/-! ### The step engine -/

theorem test_CompletionCourse_met :
    let s := inStep .tc (record .dwell) .dwell ready
    let q := s.modVol .tc fun x => { x with queue := [record .dwell] }
    let l := inStep .tc { record .dwell with last := true } .dwell ready
    (s.vol .tc).state = .running ∧ (s.vol .tc).current = some (record .dwell) ∧ (record .dwell).last = false
      ∧ (s.vol .tc).queue = [] ∧ s.fitted .tc = true
      ∧ (q.vol .tc).queue = record .dwell :: [] ∧ (record .dwell).kind = .dwell
      ∧ (l.vol .tc).current = some { record .dwell with last := true } := by decide

/-- A head of each kind whose start stands; a STRIKE that completes into an ETCH carries RF at the ETCH's own power, a GAS into
one does not. -/
theorem test_CompletionCourse_heads :
    let s := withCode (.vol .tc) 350 ready
    let f := { record .etch with flows := [⟨.k1, 500, 0⟩], power := 3000 }
    let t := fun k => completeStep (.ch .c1) none
      ((inStep (.ch .c1) (record k) .confirm ready).modVol (.ch .c1) fun x => { x with queue := [f, record .dwell] })
    StartStands .tc (record .vent) s ∧ StartStands .tc { record .pump with target := 100 } s
      ∧ StartStands .tc { record .purge with target := 351 } s ∧ StartStands (.ch .c1) f s
      ∧ ((t .strike).vol (.ch .c1)).phase = .etch ∧ (t .strike).reuOf .c1 = ⟨true, 4095, 0, 0, 0, 0, 0, 0, 3⟩
      ∧ (t .strike).inGasQueue .c1 = true ∧ ((t .strike).vol (.ch .c1)).queue = [record .dwell]
      ∧ ((t .gas).vol (.ch .c1)).phase = .waitGas ∧ ((t .gas).reuOf .c1).rfOn = false :=
  ⟨.inr (.inl rfl), .inr (.inr (.inl ⟨rfl, by decide, by decide⟩)),
    .inr (.inr (.inr (.inl ⟨rfl, by decide, fun _ h => by cases h⟩))), .inr (.inr (.inr (.inr ⟨rfl, .c1, rfl, by decide⟩))),
    by decide, by decide, by decide, by decide, by decide, by decide⟩

theorem test_FailureCourse_met : (serving.vol .tc).state ≠ .running ∧ (roughingTc.vol .tc).state = .running
    ∧ (roughingTc.vol .tc).current = some (record .pump) ∧ roughingTc.fitted .tc = true
    ∧ FailKind.flag .admitTimeout = some .admitTimeout ∧ (record .pump).onFail = .hold
    ∧ ({ record .pump with onFail := .abort }).onFail = .abort := by decide

theorem test_FaultCourse_met : serving.fitted .tc = true ∧ (roughingTc.vol .tc).state = .running
    ∧ HoldCause.flag .linkLost = some .linkLost ∧ (roughingTc.vol .tc).current = some (record .pump)
    ∧ ((serving.modVol .tc fun x => { x with state := .ending }).vol .tc).state = .ending
    ∧ HoldCause.closesGate .turboLost = true ∧ HoldCause.closesGate .linkLost = false
    ∧ (serving.vol .tc).state = .idle := by decide

/-- Wind-down of a chamber with a flow, RF on and its throttle OK, and of a volume that is no chamber. -/
theorem test_WindDownActions_met : (etching.device (.throttle .c1)).failed = false ∧ Volume.tc ≠ .ch .c1
    ∧ Volume.ll .a ≠ .tc ∧ ((windDown (.ch .c1) none (withFlow 500 false etching)).row .c1 .k1) = ⟨500, 0, true⟩ := by decide

/-- A PUMP of TC to 100: at 350 it joins the rough queue; at 100 it is done; at 150, below crossover, its turbo at speed takes
it, and without the turbo it waits; a chamber's lid is open. -/
theorem test_StepStarts_met :
    let r := { record .pump with target := 100 }
    let high := withCode (.vol .tc) 350 ready
    let low := withCode (.vol .tc) 150 ready
    let off := { low with flu := ⟨none, .fill false⟩ }
    lidOpen serving (.ch .c1) = true ∧ lidOpen ready (.ch .c1) = false
      ∧ (withCode (.vol .tc) 100 ready).atOrBelow (.vol .tc) r.target = true
      ∧ high.atOrBelow (.vol .tc) r.target = false ∧ belowCrossover high .tc = false
      ∧ high.atOrBelow (.vol .tc) (roughTarget high .tc r) = false
      ∧ belowCrossover low .tc = true ∧ turboAtSpeed low .tc = true
      ∧ turboAtSpeed off .tc = false ∧ off.atOrBelow (.vol .tc) (roughTarget off .tc r) = true
      ∧ handsToTurbo off .tc r = true := by decide

/-- Each kind at its start: PUMP, VENT and PURGE send a flow to 0 and the throttle OPEN; a PURGE of two cycles fills, or
pumps back at once, or is done at once; a gas kind waits for its request, fails it on an unmapped channel, or carries over. -/
theorem test_StepStarts_kinds :
    let f := { record .gas with flows := [⟨.k1, 500, 4⟩] }
    let s := withFlow 500 false ready
    let p := fun x y => { record .purge with target := x, floor := y, cycles := 2 }
    let at' := fun n => withCode (.vol .tc) n ready
    let ph := fun (v : Volume) r s => match startStep v r [] true s with
      | .stands t => ((t.vol v).phase, (t.vol v).cyclesLeft) | .completes t => (.none, (t.vol v).cyclesLeft)
    ((startChamberPlant .c1 (record .vent) false s).row .c1 .k1) = ⟨500, 0, true⟩
      ∧ ((startChamberPlant .c1 (record .dwell) false s).row .c1 .k1) = ⟨500, 500, false⟩
      ∧ ((startChamberPlant .c1 { f with window := 5, target := 20 } false s).dbc.inFlight.map (·.op))
        = some (.set ⟨.code 20, .normal, 0⟩)
      ∧ ph .tc (record .vent) ready = (.venting, 0) ∧ ph .tc (p 300 100) (at' 299) = (.fill, 2)
      ∧ ph .tc (p 300 100) (at' 300) = (.waitRough, 2) ∧ ph .tc (p 100 100) (at' 100) = (.none, 0)
      ∧ ph (.ch .c1) f ready = (.waitGas, 0) ∧ ph (.ch .c1) { f with kind := .etch } ready = (.etch, 0)
      ∧ (requestGas .c1 f.flows ready).gat.queue.map (fun e => (e.aims.get .k1, e.aims.get .k2)) = [(⟨500, 4⟩, ⟨0, 0⟩)]
      ∧ requestFails ready .c1 f.flows = false
      ∧ requestFails (ready.setDevice (.mfc .c1 .k1) { DeviceRow.reset with failed := true }) .c1 f.flows = true := by decide

/-! ### Rows that the part takes by itself -/

/-- Used load 3 with a light head fits exactly; with a heavy head it does not. -/
theorem test_RoughRowsAct_grant :
    let g : List Grant := [⟨.ch .c1, .light, true⟩, ⟨.ch .c2, .light, true⟩, ⟨.ch .c3, .light, false⟩]
    let s := withCode (.vol .tc) 399 { ready with rma := ⟨g, [.tc]⟩ }
    let h := withCode (.vol .tc) 400 { ready with rma := ⟨g, [.tc]⟩ }
    s.rma.queue = .tc :: [] ∧ s.rma.used + (prospectiveLoad s .tc).units = 4
      ∧ h.rma.used + (prospectiveLoad h .tc).units = 7 ∧ grantHead? h = none := by decide

/-- The manifold exactly at the holder's code, and one above it; the gate open. ROUGH in a PUMP, PUMPBACK in a PURGE; without a
sample a load is heavy. -/
theorem test_RoughRowsAct_valve :
    let w := { roughingTc with rma := ⟨[⟨.tc, .light, false⟩], []⟩ }
    let b := withCode .manifold 351 w
    w.grant? .tc = some ⟨.tc, .light, false⟩ ∧ w.code? .manifold = some 350 ∧ w.code? (.vol .tc) = some 350
      ∧ w.gateOpen .tc = false ∧ b.code? .manifold = some 351 ∧ (w.setGate .tc true).gateOpen .tc = true
      ∧ (w.vol .tc).roughingPhase = .rough
      ∧ ((inStep .tc (record .purge) .valveWait w).vol .tc).roughingPhase = .pumpback
      ∧ prospectiveLoad serving .tc = .heavy := by decide

/-- No grant, an OPEN one, and a grant in VALVE_WAIT without a manifold sample and without one of the volume. -/
theorem test_RoughRowsAct_nothing :
    let w := { inStep .tc (record .pump) .valveWait ready with rma := ⟨[⟨.tc, .light, false⟩], []⟩ }
    serving.grant? .tc = none ∧ roughingTc.grant? .tc = some ⟨.tc, .light, true⟩ ∧ w.code? .manifold = none
      ∧ (withCode .manifold 100 w).code? (.vol .tc) = none
      ∧ exec (.roughValveOpen .tc) (withCode .manifold 100 w) = .next (withCode .manifold 100 w) := ⟨by decide, by decide,
        by decide, by decide, rfl⟩

/-- A limit count, an admission count and a stall count at their limits, with a fall at and below the minimum. -/
theorem test_LimitRowsAct_met :
    let s := roughingTc.modVol .tc fun x => { x with limitCount := 5, stallCount := 10, retriesLeft := 1 }
    let w := { ready with rma := ⟨[], [.tc]⟩ }.modVol .tc fun x =>
      { x with state := .running, phase := .waitRough, current := some (record .pump), admissionCount := 120 }
    (s.vol .tc).state = .running ∧ (s.vol .tc).current = some (record .pump) ∧ (record .pump).kind.hasLimit = true
      ∧ s.waits .tc = false ∧ (s.vol .tc).effLimit ≤ (s.vol .tc).limitCount
      ∧ w.waits .tc = true ∧ w.items.admissionLimit.get .tc ≤ ((w.vol .tc).admissionCount : Int)
      ∧ roughing s .tc = true ∧ s.code? (.vol .tc) = some 350
      ∧ s.items.stallWindow.get .tc ≤ ((s.vol .tc).stallCount : Int)
      ∧ s.items.minFall.get .tc ≤ (s.vol .tc).stallBaseline - 350 ∧ 0 < (s.vol .tc).retriesLeft ∧ s.fitted .tc = true
      ∧ (withCode (.vol .tc) 396 s).code? (.vol .tc) = some 396 ∧ (400 : Int) - 396 < s.items.minFall.get .tc := by decide

/-- Each count one below its limit, and where it does not run: a DWELL has no step limit. -/
theorem test_LimitRowsAct_below :
    let s := roughingTc.modVol .tc fun x => { x with limitCount := 4, stallCount := 9, retriesLeft := 1 }
    let w := { ready with rma := ⟨[], [.tc]⟩ }.modVol .tc fun x =>
      { x with state := .running, phase := .waitRough, current := some (record .pump), admissionCount := 119 }
    (s.vol .tc).limitCount < (s.vol .tc).effLimit ∧ s.waits .tc = false ∧ stepLimitExpiry? .tc s = none
      ∧ ((s.vol .tc).stallCount : Int) < s.items.stallWindow.get .tc ∧ stallCheck? .tc s = none
      ∧ ((w.vol .tc).admissionCount : Int) < w.items.admissionLimit.get .tc ∧ admissionLimitExpiry? .tc w = none
      ∧ w.waits .tc = true ∧ (record .dwell).kind.hasLimit = false ∧ roughing serving .tc = false
      ∧ serving.code? (.vol .tc) = none := by decide

theorem test_CountedEndsComplete_met :
    let d := inStep .tc (record .dwell) .dwell ready
    let o := inStep .tc (record .vent) .overhang ready
    let g := inStep (.ch .c1) (record .gas) .settle ready
    let k := inStep (.ch .c1) (record .strike) .confirm ready
    inPhase d .tc .dwell = some (record .dwell) ∧ inPhase o .tc .overhang = some (record .vent)
      ∧ inPhase g (.ch .c1) .settle = some (record .gas) ∧ inPhase k (.ch .c1) .confirm = some (record .strike)
      ∧ (g.vol (.ch .c1)).window ≠ .outside ∧ (serving.vol .tc).state ≠ .running := by decide

/-- Each count at its end and one below it: a duration of 3, and a DWELL of 0 that waits for its first tick (R48). -/
theorem test_CountedEndsComplete_boundaries :
    let d := fun n m => (inStep .tc { record .dwell with duration := m } .dwell ready).modVol .tc
      fun x => { x with dwellCount := n }
    dwellComplete? .tc (d 2 3) = none ∧ (dwellComplete? .tc (d 3 3)).isSome = true ∧ dwellComplete? .tc (d 0 0) = none
      ∧ (dwellComplete? .tc (d 1 0)).isSome = true := by decide

theorem test_PlasmaRowsAct_strike :
    let i := (inStep (.ch .c1) (record .strike) .ignite ready).setReu .c1 ⟨true, 1, 300, 0, 1, 0, 0, 0, 0⟩
    let p := (inStep (.ch .c1) (record .strike) .retryPause ready).setReu .c1 ⟨false, 0, 300, 0, 1, 20, 0, 0, 0⟩
    inPhase i (.ch .c1) .ignite = some (record .strike) ∧ i.items.strikeTimeout.get .c1 ≤ ((i.reuOf .c1).strikeTimer : Int)
      ∧ 0 < (i.reuOf .c1).retriesLeft ∧ i.fitted (.ch .c1) = true
      ∧ inPhase p (.ch .c1) .retryPause = some (record .strike) ∧ 20 ≤ (p.reuOf .c1).pauseCount := by decide

/-- A dropout at the limit and one past it; an ETCH at its end gated time, with and without endpoint, confirmed and not. -/
theorem test_PlasmaRowsAct_etch :
    let r := { record .etch with endpoint := some endpoint, duration := 100 }
    let e := etching.setReu .c1 ⟨true, 0, 0, 0, 0, 0, 100, 10, 100⟩
    let x := etching.setReu .c1 ⟨true, 0, 0, 0, 0, 0, 100, 11, 100⟩
    inPhase e (.ch .c1) .etch = some r ∧ ((e.reuOf .c1).dropout : Int) ≤ e.items.dropoutLimit.get .c1
      ∧ e.items.dropoutLimit.get .c1 < ((x.reuOf .c1).dropout : Int) ∧ (e.reuOf .c1).endGated ≤ (e.reuOf .c1).gated
      ∧ 0 < (e.reuOf .c1).gated ∧ r.endpoint = some endpoint ∧ (e.detector .c1).endpointAt = none
      ∧ endpoint.required = false ∧ ({ endpoint with required := true }).required = true
      ∧ ((e.setDetector .c1 ⟨false, 5, 2, some 80⟩).detector .c1).endpointAt = some 80
      ∧ (record .etch).endpoint = none := by decide

/-- R138, R139: the strike timer one below its limit of 300 and at it, in IGNITE and in CONFIRM with the confirm count one
below the duration of 3; at the duration the strike is confirmed and does not time out. A retry pause of 19. -/
theorem test_PlasmaRowsAct_strike_edges :
    let s := fun p n m => (inStep (.ch .c1) (record .strike) p ready).setReu .c1 ⟨true, 1, n, m, 1, 19, 0, 0, 0⟩
    let out := fun p n m => ((strikeTimeout? .c1 (s p n m)).map fun t => ((t.vol (.ch .c1)).phase, (t.reuOf .c1).retriesLeft))
    inPhase (s .confirm 300 2) (.ch .c1) .confirm = some (record .strike)
      ∧ ((s .confirm 300 2).reuOf .c1).confirmCount < (record .strike).duration
      ∧ (((s .ignite 299 0).reuOf .c1).strikeTimer : Int) < (s .ignite 299 0).items.strikeTimeout.get .c1
      ∧ out .ignite 299 0 = none ∧ out .ignite 300 0 = some (.retryPause, 0) ∧ out .confirm 299 2 = none
      ∧ out .confirm 300 2 = some (.retryPause, 0) ∧ out .confirm 300 3 = none
      ∧ retryPauseEnd? .c1 (s .retryPause 0 0) = none := by decide

/-- R142, R144, R145: a gated timer one below its end; an ETCH of duration 0 before its first step tick and after one with and
without plasma, and by a confirmed endpoint at 0; a dropout past its limit keeps the end from being taken. -/
theorem test_PlasmaRowsAct_etch_edges :
    let s := fun (e : Option Endpoint) g d n => (inStep (.ch .c1) { record .etch with endpoint := e } .etch ready).setReu .c1
      ⟨true, 0, 0, 0, 0, 0, g, d, n⟩
    let ends := fun x => (gatedTimeEnd? .c1 x).isSome
    let z := s (some endpoint) 0 0 0
    ends (s none 2 0 3) = false ∧ ends (s none 3 0 3) = true ∧ ends (s none 0 0 0) = false ∧ ends (s none 1 0 0) = true
      ∧ ends (s none 0 1 0) = true ∧ ends z = false ∧ ends (z.setDetector .c1 ⟨false, 5, 2, some 0⟩) = true
      ∧ (dropoutLimitExceeded? .c1 (s none 3 10 3)).isSome = false ∧ (dropoutLimitExceeded? .c1 (s none 3 11 3)).isSome = true
      ∧ ends (s none 3 11 3) = false := by decide

theorem test_WindDownAndTransitionEnd_met :
    let e := (serving.modVol .tc fun x => { x with state := .ending, current := some (record .dwell) })
    let h := (serving.modVol .tc fun x =>
      { x with state := .safing, current := some (record .dwell), hold := some ⟨.requested, none, 7, .dwell⟩ })
    let t := inStep (.ch .c1) { record .gas with flows := [⟨.k1, 500, 0⟩] } .transition ready
    e.drained .tc = true ∧ (e.vol .tc).state = .ending ∧ h.drained .tc = true ∧ (h.vol .tc).state = .safing
      ∧ (h.vol .tc).hold = some ⟨.requested, none, 7, .dwell⟩ ∧ (withFlow 500 true serving).drained (.ch .c1) = false
      ∧ inPhase t (.ch .c1) .transition = some { record .gas with flows := [⟨.k1, 500, 0⟩] }
      ∧ (t.row .c1 .k1).inFlight = false ∧ ((withFlow 500 true t).row .c1 .k1).inFlight = true := by decide

/-- R140: an ETCH of 1500 W enters its phase with RF on at power code 2047. -/
theorem test_WindDownAndTransitionEnd_etch :
    let t := inStep (.ch .c1) { record .etch with power := 1500 } .transition ready
    inPhase t (.ch .c1) .transition = some { record .etch with power := 1500 }
      ∧ ((transitionEnd? .c1 t).map fun u => ((u.vol (.ch .c1)).phase, (u.reuOf .c1).rfOn, (u.reuOf .c1).powerCode))
        = some (.etch, true, 2047) := by decide

/-- A head that does not fit its source, in front of one that does: at the overtake limit it is overtaken, above it not.
The increases and totals of R100, R104 and R111. -/
theorem test_GasAdmissionOrder_met :
    let e : GasEntry := ⟨.c1, (Per6.fill ⟨0, 0⟩).set .k1 ⟨20001, 0⟩⟩
    let f : GasEntry := ⟨.c2, (Per6.fill ⟨0, 0⟩).set .k1 ⟨20000, 0⟩⟩
    let s := fun n => { ready with gat := { ready.gat with queue := [e, f] } }.modVol (.ch .c1)
      fun x => { x with admissionCount := n }
    (s 30).gat.queue = e :: [f] ∧ admissible (s 30) e = false ∧ admissible (s 30) f = true
      ∧ ((s 30).vol (.ch .c1)).admissionCount = 30 ∧ (s 30).items.overtakeLimit = 30
      ∧ (nextAdmission (s 30)).map (·.chamber) = some .c2 ∧ nextAdmission (s 31) = none
      ∧ increase (withFlow 500 false ready) e .k1 = 19501 ∧ totalIncrease (withFlow 500 false ready) e = 19501
      ∧ sourceIncrease (withFlow 500 false ready) e 1 = 19501 ∧ sourceIncrease (withFlow 500 false ready) e 2 = 0
      ∧ (withFlow 500 false ready).sourceTotal 1 = 500 ∧ (withFlow 500 false ready).sourceTotal 2 = 0
      ∧ (withFlow 500 false ready).headerTotal = 500 ∧ ready.sourceCapacity 10 = 20000 := by decide

/-- R111 with thresholds 80000 and 60000: the header is HELD at 80000 and not below, OPEN again at 60000 and not above; the
change is told to the masters of the fitted chambers. -/
theorem test_GasAdmissionOrder_header :
    let s := fun h n => { ready.setRow .c1 .k1 ⟨n, 0, true⟩ with hlm := ⟨h, false⟩ }
    (headerTest (s false 80000)).hlm.held = true ∧ (headerTest (s false 79999)).hlm.held = false
      ∧ (headerTest (s true 60000)).hlm.held = false ∧ (headerTest (s true 60001)).hlm.held = true
      ∧ heldAt Items.default false 80000 ≠ false ∧ heldAt Items.default true 60001 = true
      ∧ isFinalWrite (withFlow 500 true serving) .c1 .k1 = true
      ∧ (headerTest (s false 80000)).outbox
        = [⟨[.cc .c1, .cc .c2, .cc .c3, .cc .c4], ⟨.headerChanged, 0, 0, 1, 0, 80000⟩⟩] := by decide

/-- R107, R115: at an admission channel 1 keeps its 500, channel 2 jumps to 300, channel 3 starts a ramp of 3 ticks to 10; the
chamber's step leaves WAIT_GAS, a PURGE for FILL. -/
theorem test_GasAdmissionOrder_channels :
    let e : GasEntry := ⟨.c1, ((Per6.fill ⟨0, 0⟩).set .k1 ⟨500, 0⟩).set .k2 ⟨300, 0⟩ |>.set .k3 ⟨10, 3⟩⟩
    let t := fun k p => admitEntry e (inStep (.ch .c1) (record k) p (withFlow 500 false ready))
    (t .gas .waitGas).row .c1 .k1 = ⟨500, 500, false⟩ ∧ (t .gas .waitGas).row .c1 .k2 = ⟨300, 300, true⟩
      ∧ (t .gas .waitGas).row .c1 .k3 = ⟨10, 10, true⟩ ∧ (t .gas .waitGas).row .c1 .k4 = ⟨0, 0, false⟩
      ∧ (t .gas .waitGas).gen .c1 .k3 = ⟨0, 10, true, 3, 3, 1, 0, 3, .normal⟩
      ∧ ((t .gas .waitGas).gen .c1 .k2).posted = 300
      ∧ (t .gas .waitGas).dbc.inFlight = some ⟨.mfc .c1 .k2, .set ⟨.flow 300, .normal, 0⟩, 0, false⟩
      ∧ ((t .gas .waitGas).device (.mfc .c1 .k3)).pending = none
      ∧ ((t .gas .waitGas).vol (.ch .c1)).phase = .transition ∧ ((t .purge .waitGas).vol (.ch .c1)).phase = .fill
      ∧ ((t .etch .etch).vol (.ch .c1)).phase = .etch := by decide

/-! ### The device bus -/

/-- Two pending writes, the urgent one younger; eight writes in a row with a poll possible. -/
theorem test_ArbiterChoice_met :
    let s := (serving.setDevice (.mfc .c1 .k1) { DeviceRow.reset with pending := some ⟨.flow 5, .normal, 0⟩ }).setDevice
      (.throttle .c1) { DeviceRow.reset with pending := some ⟨.opened, .urgent, 1⟩ }
    (setInFlight serving).dbc.inFlight.isSome = true ∧ State.reset.dbc.inFlight = none ∧ mostUrgent State.reset = none
      ∧ nextPoll State.reset = none ∧ mostUrgent s = some (.throttle .c1, ⟨.opened, .urgent, 1⟩) ∧ s.dbc.writes ≠ 8
      ∧ nextPoll s = some (1, .mfc .c1 .k1)
      ∧ (mostUrgent { s with dbc := { s.dbc with writes := 8 } }).isSome = true ∧ mostUrgent serving = none := by decide

/-- R123: the poll from scan position 28 takes device 28, or past a FAILED 28 the first; all FAILED or CONFIGURING, none. -/
theorem test_ArbiterChoice_poll :
    let p := fun n => { serving with dbc := { serving.dbc with scanPos := n } }
    let down : DeviceRow := { DeviceRow.reset with failed := true }
    nextPoll (p 28) = some (28, .throttle .c4) ∧ nextPoll ((p 28).setDevice (.throttle .c4) down) = some (1, .mfc .c1 .k1)
      ∧ nextPoll { serving with dbc := { serving.dbc with devices := .fill down } } = none ∧ nextPoll State.reset = none
      ∧ serving.scanList.length = 28 ∧ serving.items.scanEntry.length = 32 ∧ serving.scanList[24]? = some (.throttle .c1)
      ∧ (∀ a ∈ serving.items.scanEntry, 1 ≤ a ∧ a ≤ 28) ∧ 1 ≤ (p 28).dbc.scanPos ∧ (p 28).dbc.scanPos ≤ 28 := by decide

theorem test_PostTable_met :
    let p := serving.setDevice (.mfc .c1 .k1) { DeviceRow.reset with pending := some ⟨.flow 5, .normal, 0⟩ }
    let f := serving.setDevice (.mfc .c1 .k1) { DeviceRow.reset with failed := true }
    (f.device (.mfc .c1 .k1)).failed = true ∧ (serving.device (.mfc .c1 .k1)).failed = false
      ∧ (serving.device (.mfc .c1 .k1)).pending = none ∧ (p.device (.mfc .c1 .k1)).failed = false
      ∧ (p.device (.mfc .c1 .k1)).pending = some ⟨.flow 5, .normal, 0⟩ := by decide

theorem test_GoodAnswersTaken_met :
    (setInFlight serving).dbc.inFlight = some ⟨.mfc .c1 .k1, .set ⟨.flow 500, .normal, 0⟩, 0, false⟩
      ∧ (readInFlight serving).dbc.inFlight = some ⟨.mfc .c1 .k1, .read, 0, false⟩
      ∧ readingFits (.mfc .c1 .k1) (.flow 500) = true ∧ readingFits (.throttle .c1) (.throttle .opened true) = true
      ∧ serving.dbc.inFlight = none := by decide

/-- R131: a good answer to a discarded SET writes no value and frees the bus, as a bad one and a timeout do. R98, R130: a final
write ends its transition, and a reading that deviates is counted. Answers of the other kind fit neither. -/
theorem test_GoodAnswersTaken_outcomes :
    let x := { ready with dbc := { ready.dbc with inFlight := some ⟨.mfc .c1 .k1, .set ⟨.flow 500, .normal, 0⟩, 1, true⟩ } }
    let go := fun i s => match exec i s with | .next t => t | _ => s
    let v := go .setGoodAnswer (setInFlight (withFlow 500 true serving))
    let w := go (.readGoodAnswer (.flow 551)) (readInFlight ((inStep (.ch .c1) (record .gas) .settle
      (withFlow 500 false ready)).setCheck .c1 .k1 ⟨300, 0⟩))
    x.dbc.inFlight = some ⟨.mfc .c1 .k1, .set ⟨.flow 500, .normal, 0⟩, 1, true⟩ ∧ nextDue? x = none ∧ x.outbox = []
      ∧ (∀ i ∈ [Instr.setGoodAnswer, .busBadAnswer, .responseTimeout], (go i x).device (.mfc .c1 .k1) = DeviceRow.reset
          ∧ (go i x).dbc.inFlight = some ⟨.mfc .c1 .k1, .read, 0, false⟩)
      ∧ readingFits (.throttle .c1) (.flow 5) = false ∧ BusOp.set ⟨.flow 500, .normal, 0⟩ ≠ .read
      ∧ (v.row .c1 .k1).inFlight = false ∧ (v.device (.mfc .c1 .k1)).written = some (.flow 500)
      ∧ (w.check .c1 .k1).deviation = 1 ∧ (w.device (.mfc .c1 .k1)).reading = some (.flow 551) := by decide

/-- The no-answer before the third in a row, and the third; a newer value waiting meanwhile, and none. -/
theorem test_NoAnswersCounted_met :
    let s := fun n => (setInFlight serving).setDevice (.mfc .c1 .k1) { DeviceRow.reset with consecutive := n }
    Instr.busBadAnswer ∈ [Instr.busBadAnswer, .responseTimeout]
      ∧ (s 1).dbc.inFlight = some ⟨.mfc .c1 .k1, .set ⟨.flow 500, .normal, 0⟩, 0, false⟩
      ∧ ((s 1).device (.mfc .c1 .k1)).consecutive < 2 ∧ 2 ≤ ((s 2).device (.mfc .c1 .k1)).consecutive
      ∧ ((s 1).device (.mfc .c1 .k1)).pending = none ∧ (s 1).fitted (.ch .c1) = true
      ∧ (readInFlight serving).dbc.inFlight = some ⟨.mfc .c1 .k1, .read, 0, false⟩
      ∧ (countNoAnswer (.mfc .c1 .k1) (s 2)).device (.mfc .c1 .k1) = ⟨true, 3, 1, none, none, none⟩ := by decide

/-- R127 at the third no-answer: a waiting request that lists the channel fails its step; a commitment above 0 faults the
chamber, a commitment of 0 only flags it; a throttle faults a gas kind and not a DWELL. -/
theorem test_NoAnswersCounted_stages :
    let r := fun k => { record k with flows := [⟨.k1, 500, 0⟩] }
    let e : GasEntry := ⟨.c1, (Per6.fill ⟨0, 0⟩).set .k1 ⟨500, 0⟩⟩
    let w := { inStep (.ch .c1) (r .gas) .waitGas ready with gat := { ready.gat with queue := [e] } }
    let x := fun d s => (failDevice d s).vol (.ch .c1)
    w.inGasQueue .c1 = true ∧ (w.vol (.ch .c1)).current = some (r .gas) ∧ (w.vol (.ch .c1)).state = .running
      ∧ (x (.mfc .c1 .k1) w).hold = some ⟨.stepFailed, some .deviceFailed, 7, .waitGas⟩
      ∧ (x (.mfc .c1 .k2) w).state = .running ∧ (x (.mfc .c1 .k2) w).hasFlag .deviceFailed = true
      ∧ (x (.mfc .c1 .k1) (withFlow 500 false etching)).hold = some ⟨.deviceFailed, none, 7, .etch⟩
      ∧ (x (.mfc .c1 .k1) etching).state = .running ∧ (x (.throttle .c1) etching).state = .safing
      ∧ (x (.throttle .c1) (inStep (.ch .c1) (record .dwell) .dwell ready)).state = .running
      ∧ (failDevice (.mfc .c1 .k2) w).outbox.getLast? = some ⟨[.cc .c1], ⟨.deviceFailed, 1, 7, 0, 2, 0⟩⟩ := by decide

/-- A final write, and one still ramping; a deviation at the tolerance (50 fu) and past it, before and at the debounce. -/
theorem test_AnswersOfMfcs_met :
    let s := withFlow 500 true serving
    let d := fun n => (inStep (.ch .c1) (record .gas) .settle (withFlow 500 false ready)).setCheck .c1 .k1 ⟨300, n⟩
    isFinalWrite s .c1 .k1 = true ∧ ((withFlow 500 false serving).row .c1 .k1).inFlight = false
      ∧ ((d 0).vol (.ch .c1)).state = .running ∧ ((d 0).row .c1 .k1).inFlight = false ∧ 0 < ((d 0).row .c1 .k1).target
      ∧ (d 0).items.settleTime.get .c1 ≤ (((d 0).check .c1 .k1).settle : Int) ∧ tolerance (d 0) .c1 500 = 50
      ∧ ((deviationCheck .c1 .k1 550 (d 1)).check .c1 .k1).deviation = 0
      ∧ ((deviationCheck .c1 .k1 551 (d 1)).check .c1 .k1).deviation = 2
      ∧ ((deviationCheck .c1 .k1 551 (d 2)).vol (.ch .c1)).state = .safing := by decide

/-! ### Field lines and links -/

theorem test_InputLinesRead_met : InputFn.exhaustOk ≠ .emergencyOff
    ∧ functionValue Items.default (some 4#24) .emergencyOff = true ∧ functionValue Items.default (some 4#24) .exhaustOk = false
    ∧ functionValue { Items.default with inputMap := List.replicate 24 0 } (some 4#24) .emergencyOff = false := by decide

/-- The changes of the other functions: a permit lost with gas flowing and without; a turbo lost with its gate open, RUNNING
and at rest; the turbo that TURBO_WAIT waits for; plasma lit in IGNITE, lost in CONFIRM, back in ETCH. -/
theorem test_InputLinesRead_changes :
    let x := fun f b s v => ((functionChanged f b s).vol v)
    let g := (inStep .tc (record .dwell) .dwell ready).setGate .tc true
    let h := ready.setGate .tc true
    let l := { State.reset with flu := ⟨some 1#24, .fill false⟩ }
    let i := fun p => (inStep (.ch .c1) (record .strike) p ready).setReu .c1 ⟨true, 1, 9, 4, 0, 0, 0, 3, 9⟩
    functionValue l.items l.flu.levels .facilityGasOk = !l.fn .facilityGasOk
      ∧ functionValue l.items l.flu.levels .exhaustOk = l.fn .exhaustOk
      ∧ ready.permit .c1 = true ∧ serving.permit .c1 = false
      ∧ (x .exhaustOk false (withFlow 500 false etching) (.ch .c1)).state = .safing
      ∧ (x .exhaustOk false etching (.ch .c1)).state = .running
      ∧ (x .exhaustOk false etching (.ch .c1)).hasFlag .permitLost = true
      ∧ g.gateOpen .tc = true ∧ ((x (.turbo .tc) false g .tc).hold.map (·.cause)) = some .turboLost
      ∧ (functionChanged (.turbo .tc) false h).gateOpen .tc = false ∧ (x (.turbo .tc) false h .tc).state = .idle
      ∧ inPhase (inStep .tc (record .pump) .turboWait ready) .tc .turboWait = some (record .pump)
      ∧ ((turboReady? .tc (inStep .tc (record .pump) .turboWait ready)).map fun t => t.gateOpen .tc) = some true
      ∧ turboReady? .tc (inStep .tc (record .pump) .turboWait serving) = none
      ∧ inPhase (i .ignite) (.ch .c1) .ignite = some (record .strike)
      ∧ ((plasmaLit? .c1 (i .ignite)).map fun t => (t.vol (.ch .c1)).phase) = some .confirm
      ∧ plasmaLit? .c1 (inStep (.ch .c1) (record .strike) .ignite serving) = none
      ∧ (x (.plasma .c1) false (i .confirm) (.ch .c1)).phase = .ignite
      ∧ ((functionChanged (.plasma .c1) true (i .etch)).reuOf .c1).dropout = 0 := by decide

theorem test_EmergencyOffAssertion_met :
    let s := withFlow 500 false etching
    s.fn .emergencyOff = false ∧ s.fitted (.ch .c1) = true ∧ (s.vol (.ch .c1)).state = .running ∧ s.permit .c1 = true
      ∧ (s.vol .tc).state = .idle ∧ ({ s with flu := ⟨none, .fill true⟩ }).fn .emergencyOff = true
      ∧ State.reset.cfg.serving = false := by decide

/-- R101, R155, R156: in SERVING the rough valve of TC, the source and final valves of a RUNNING chamber with a flow, and its
RF; with polarity 1 the line is the command inverted; the same flow at rest leaves the final valve shut. -/
theorem test_EmergencyOffAssertion_lines :
    let s := withFlow 500 false (etching.setReu .c1 { Reu.reset with rfOn := true })
    let i := { s with cfg := ⟨true, { Items.default with outputPolarity := List.replicate 45 1 }⟩ }
    let e := { s with flu := ⟨none, .fill true⟩, tiu := { Tiu.reset with slits := .fill true } }
    s.cfg.serving = true ∧ lineDriven roughingTc (.rough .tc) = true ∧ lineDriven s (.src 1) = true ∧ lineDriven s (.src 2) = false
      ∧ lineDriven s (.final .c1) = true ∧ lineDriven (withFlow 500 false ready) (.final .c1) = false
      ∧ lineDriven s (.rfEn .c1) = true ∧ lineEnergised s 6 (.rfEn .c1) = true ∧ lineEnergised i 6 (.rfEn .c1) = false
      ∧ lineEnergised i 1 (.rough (.ch .c1)) = true ∧ e.fn .emergencyOff = true ∧ lineDriven e (.slit (.ch .c1)) = true
      ∧ lineDriven e (.src 1) = false := by decide

/-- An ALIVE of tag 9 as a frame, one with a wrong check, and a port with a reply in service. -/
theorem test_FramesTaken_met :
    let r : Reply := ⟨29, 9, .ok, none, []⟩
    let p := serving.setPort .txc { Port.reset with inService := some r }
    let b := serving.setPort .txc { Port.reset with inService := some r, busy := some ⟨29, 9, false⟩ }
    frameCheck [29, 9] ≠ frameCheck [29, 9] ^^^ 1 ∧ (serving.port .txc).inService = none
      ∧ readRequest 29 [] = some .alive ∧ readRequest 30 [] = none
      ∧ (p.port .txc).inService = some r ∧ (p.port .txc).busy = none ∧ (b.port .txc).busy = some ⟨29, 9, false⟩
      ∧ (⟨29, 9, true⟩ : Busy).sending = true
      ∧ ((serving.setPort .txc { Port.reset with lost := true }).port .txc).lost = true
      ∧ (State.reset.port .txc).silence = none ∧ (State.reset.port .txc).lost = false
      ∧ ((hear .txc State.reset).port .txc).silence = none := by decide

/-- R158, Table 10-6: the reply OK to an ALIVE of tag 9, and FORMAT to a kind 30 of tag 1, as the characters sent (the CRC of
an independent calculator). -/
theorem test_FramesTaken_reply_frames :
    let sent := fun b => match exec (.frameReceived .txc b (frameCheck b)) serving with
      | .next t => t.transmitted .txc | _ => none
    sent [29, 9] = some [0xA5#8, 4#8, 29#8, 9#8, 0#8, 0#8, 0x24#8, 0xBA#8]
      ∧ sent [30, 1] = some [0xA5#8, 4#8, 30#8, 1#8, 3#8, 7#8, 0x33#8, 0x73#8] := by decide

/-- R158: the longest body, 60 characters, is a frame, and one of 61 is none. -/
theorem test_FramesTaken_lengths : frameGood (List.replicate 60 0) (frameCheck (List.replicate 60 0)) = true
    ∧ frameGood (List.replicate 61 0) (frameCheck (List.replicate 61 0)) = false
    ∧ frameGood [29] (frameCheck [29]) = false := by decide

/-- Table 10-4, Table 10-5: a body is read back from its layout, a record with a flow and an endpoint part among them; each
fixed bit that is set where it must not be; a LOAD of six flows with an endpoint is 58 characters, one of seven is too long. -/
theorem test_FramesTaken_bodies :
    let six := { rawEtch with flows := List.replicate 6 ⟨1, 0, 0⟩ }
    (Request.load 1 rawEtch).wf = true ∧ (Request.writeConfig 7 1 (-2)).wf = true
      ∧ (Request.writeConfig 7 1 (-2)).body = [0#8, 7#8, 1#8, 255#8, 255#8, 255#8, 254#8]
      ∧ readRequest 1 (Request.load 1 rawEtch).body = some (.load 1 rawEtch)
      ∧ readRequest 1 (Request.load 1 rawEtch).body.dropLast = none ∧ readRequest 2 [] = none
      ∧ (Request.load 1 { rawDwell with flags := 8 }).formed = false ∧ (Request.load 1 { rawDwell with flags := 4 }).formed = false
      ∧ (Request.load 1 { rawEtch with endpoint := some ⟨1000, 4, 20, 2, 0, 0, 50⟩ }).formed = false
      ∧ (Request.clearConditions 5 0x4000).formed = false ∧ (Request.setNoticeMask 128).formed = false
      ∧ (Request.load 1 six).body.length = 58
      ∧ 58 < (Request.load 1 { six with flows := List.replicate 7 ⟨1, 0, 0⟩ }).body.length := by decide

theorem test_LinkExpiryCourse_met :
    let s := roughingTc.setPort .txc { Port.reset with silence := some 499, linkDowns := 255 }
    (s.port .txc).silence = some 499 ∧ (s.port (.cc .c1)).silence = none ∧ Volume.tc.master = .txc ∧ s.fitted .tc = true
      ∧ (s.vol .tc).state = .running ∧ (s.vol (.ll .a)).state = .idle
      ∧ ((s.port .txc).expire).linkDowns = 0 := by decide

/-- A kind that the mask enables, at the count that wraps, and one that it disables. -/
theorem test_NoticesWrittenInOrder_met :
    let p := { Port.reset with mask := 1#7, sequence := 7 }
    p.mask.getLsbD (NoticeKind.code .stepDone - 1) = true ∧ p.mask.getLsbD (NoticeKind.code .headerChanged - 1) = false
      ∧ (writeNotice ⟨.stepDone, 5, 7, 1, 0, 0⟩ p).sequence = 0 := by decide

/-- R62, R127: the notices of one event that arose in the wrong order; the two of one rank keep theirs. -/
theorem test_NoticesWrittenInOrder_event :
    let n := fun k v c => (⟨[Link.txc], ⟨k, v, 0, c, 0, 0⟩⟩ : Posting)
    let s := { serving with outbox := [n .headerChanged 0 0, n .volumeHold 5 0, n .condition 5 9, n .slitChanged 6 0,
      n .condition 5 2, n .volumeIdle 6 0, n .stepDone 5 0, n .condition 4 13, n .deviceFailed 1 0] }
    (∀ p ∈ s.outbox, p.addressees.Nodup ∧ p.notice.volume ≤ 7 ∧ (p.notice.kind = .condition → p.notice.code ≤ 13))
      ∧ inOrder s.outbox = [n .deviceFailed 1 0, n .condition 4 13, n .stepDone 5 0, n .condition 5 2, n .condition 5 9,
        n .volumeHold 5 0, n .volumeIdle 6 0, n .headerChanged 0 0, n .slitChanged 6 0]
      ∧ ((flush s).port .txc).sequence = 1 ∧ serving.fitted .tc = true ∧ (serving.vol .tc).hasFlag .underflow = false
      ∧ ((setFlag .tc .underflow serving).vol .tc).hasFlag .underflow = true
      ∧ (roughingTc.vol .tc).current = some (record .pump) := by decide

/-! ### Requests -/

/-- The part with TC not fitted. -/
def withoutTc : State := { serving with cfg := ⟨true, { Items.default with capacity := Items.default.capacity.set .tc 0 }⟩ }

theorem test_VolumeRequestChecks_met : Volume.ofNum 0 = none ∧ Volume.ofNum 8 = none ∧ Volume.ofNum 7 = some (.ll .b)
    ∧ Volume.ofNum 5 = some .tc ∧ withoutTc.fitted .tc = false ∧ serving.fitted .tc = true ∧ Volume.tc.master ≠ .cc .c1
    ∧ (Request.load 5 rawDwell).fits = true ∧ (Request.load 5 rawDwell).formed = true := by decide

/-- A record that passes, one of an unknown kind, and a queue with one place left and with none. -/
theorem test_LoadCourse_met :
    let s := serving.modVol .tc fun x => { x with queue := List.replicate 7 (record .dwell) }
    let f := serving.modVol .tc fun x => { x with queue := List.replicate 8 (record .dwell) }
    Volume.tc.master = .txc ∧ recordCheck .tc rawDwell s = .ok .dwell
      ∧ recordCheck .tc { rawDwell with kind := 0 } s = .error .kind ∧ recordCheck .tc { rawDwell with kind := 8 } s = .error .kind
      ∧ (s.vol .tc).queue.length < s.capacity .tc ∧ s.stored < 96 ∧ f.capacity .tc ≤ (f.vol .tc).queue.length := by decide

/-- R23: each of checks 5 and 7 to 14 fails where those before it pass, and its reason; R24: a record that no clamp changes,
and one that a clamp does. -/
theorem test_LoadCourse_checks :
    let e := fun v r => match recordCheck v r serving with | .error x => some x | .ok _ => none
    let f : RawFlow := ⟨1, 0, 0⟩
    let gas := fun l => { rawDwell with kind := 5, flows := l }
    e .tc { rawDwell with kind := 5 } = some .kind ∧ e .tc { rawDwell with flows := List.replicate 7 f } = some .format
      ∧ e .tc { rawDwell with flows := [f] } = some .format ∧ e (.ch .c1) { rawDwell with kind := 3 } = some .format
      ∧ e (.ch .c1) (gas [⟨7, 0, 0⟩]) = some .range ∧ e (.ch .c1) (gas [f, f]) = some .format
      ∧ recordCheck (.ch .c1) (gas [f]) { serving with cfg := ⟨true, { Items.default with sourceMap := .fill (.fill 0) }⟩ }
        = .error .format
      ∧ e (.ch .c1) { rawEtch with kind := 6 } = some .format ∧ e (.ch .c1) { gas [f] with window := 201 } = some .range
      ∧ e (.ch .c1) (gas [⟨1, 0, 6001⟩]) = some .range ∧ e (.ch .c1) (gas [f]) = none
      ∧ Kind.code .gas = (gas [f]).kind
      ∧ clampChanges serving (.ch .c1) .etch rawEtch = true ∧ clampChanges serving .tc .dwell rawDwell = false := by decide

/-- An ETCH with its power, target flow and cycles outside their ranges is stored clamped (R24). -/
theorem test_StoredRecordInRange_met : recordCheck (.ch .c1) rawEtch serving = .ok .etch ∧ rawEtch.wf = true
    ∧ recordCheck .tc rawDwell serving = .ok .dwell
    ∧ recordCheck .tc { rawDwell with kind := 3, cycles := 33 } serving = .ok .purge
    ∧ (storeRecord serving (.ch .c1) .etch rawEtch).power = 3000
    ∧ (storeRecord serving (.ch .c1) .etch rawEtch).flows = [⟨.k1, 10000, 6000⟩]
    ∧ (storeRecord serving .tc .purge { rawDwell with kind := 3, cycles := 33 }).cycles = 32
    ∧ (storeRecord serving .tc .purge { rawDwell with kind := 3 }).cycles = 1
    ∧ (storeRecord serving .tc .purge { rawDwell with kind := 3, target := 601 }).target = 600 := by decide

/-- RUN refused by each of its tests, at a start depth of 2, and accepted with two records; RESUME with one. -/
theorem test_RunAndResumeCourse_met :
    let q := fun n => ready.modVol .tc fun x => { x with queue := List.replicate n (record .dwell) }
    let o := { q 2 with tiu := { Tiu.reset with slits := (PerSlit.fill false).set (.ch .c4) true } }
    let h := (q 1).modVol .tc fun x => { x with state := .hold }
    State.reset.cfg.serving = false ∧ (roughingTc.vol .tc).state ≠ .idle
      ∧ ({ q 2 with flu := ⟨none, .fill true⟩ }).fn .emergencyOff = true ∧ interlockPasses o .tc = false
      ∧ interlockPasses (q 2) .tc = true ∧ ((q 1).vol .tc).queue.length < (q 1).startDepth .tc
      ∧ ((q 2).vol .tc).queue = record .dwell :: [record .dwell] ∧ (q 2).startDepth .tc ≤ ((q 2).vol .tc).queue.length
      ∧ (h.vol .tc).state = .hold ∧ (h.vol .tc).queue = record .dwell :: []
      ∧ ((h.modVol .tc fun x => { x with queue := [] }).vol .tc).queue = [] := by decide

/-- A start that stands, for each kind; and the head of a queue of two RUNNING with the other waiting. -/
theorem test_RunAndResumeCourse_starts :
    let r := { record .pump with target := 100 }
    let f := { record .gas with flows := [⟨.k1, 500, 0⟩] }
    let s := withCode (.vol .tc) 350 ready
    let t := (startSteps .tc [r, record .dwell] false s).vol .tc
    lidOpen s .tc = false ∧ s.atOrBelow (.vol .tc) r.target = false ∧ t.state = .running ∧ t.current = some r
      ∧ t.queue = [record .dwell] ∧ t.phase = .waitRough
      ∧ s.atOrAbove (.vol .tc) 351 = false ∧ f.kind.isGas = true ∧ s.source .c1 .k1 ≠ 0
      ∧ (s.device (.mfc .c1 .k1)).failed = false
      ∧ ((startSteps (.ch .c1) [f] false s).vol (.ch .c1)).phase = .waitGas := by decide

theorem test_HoldClearAndAbortCourse_met : (roughingTc.vol .tc).state = .running
    ∧ (roughingTc.vol .tc).current = some (record .pump) ∧ (serving.vol .tc).state ≠ .running
    ∧ Volume.tc.master = .txc ∧ roughingTc.fitted .tc = true := by decide

theorem test_HoldClearAndAbortCourse_clear_met :
    let s := fun x => serving.modVol .tc fun y => { y with state := x }
    ((s .ending).vol .tc).state = .ending ∧ ((s .safing).vol .tc).state = .safing ∧ ((s .running).vol .tc).state = .running
      ∧ (serving.vol .tc).state = .idle ∧ ((s .hold).vol .tc).state = .hold := by decide

theorem test_ChamberConsents_met : Chamber.ofNum 1 = some .c1 ∧ Chamber.ofNum 4 = some .c4 ∧ Chamber.ofNum 0 = none
    ∧ Chamber.ofNum 5 = none ∧ serving.fitted (.ch .c1) = true ∧ Link.txc ≠ .cc .c1
    ∧ ({ serving with cfg := ⟨true, { Items.default with capacity := .fill 0 }⟩ }).fitted (.ch .c1) = false
    ∧ ready.permit .c1 = true ∧ ready.gat.enable.get .c1 = true ∧ serving.gat.enable.get .c1 = false
    ∧ serving.permit .c1 = false := by decide

/-- R110: GAS ENABLE off faults a RUNNING chamber with gas, and only flags one without gas, at rest or ending. -/
theorem test_ChamberConsents_permit :
    let off := fun s => (Sys2Proof.Machine.setEnable .c1 false s).vol (.ch .c1)
    let e := etching.modVol (.ch .c1) fun x => { x with state := .ending, phase := .none }
    (withFlow 500 false etching).permit .c1 = true ∧ (withFlow 500 false etching).hasCommitment .c1 = true
      ∧ (etching.vol (.ch .c1)).state = .running ∧ etching.hasCommitment .c1 = false
      ∧ (off (withFlow 500 false etching)).state = .safing
      ∧ ((off (withFlow 500 false etching)).hold.map (·.cause)) = some .permitLost
      ∧ (off (withFlow 500 false e)).state = .safing ∧ (off e).state = .ending ∧ (off etching).state = .running
      ∧ (off etching).hasFlag .permitLost = true ∧ (ready.vol (.ch .c1)).state = .idle := by decide

/-- Codes at the match window and one past it; a loadlock at the vented code and one below; both commands already there. -/
theorem test_SlitAndDoorRequests_met :
    let s := fun p => withCode (.vol (.ll .a)) p (withCode (.vol .tc) 100 ready)
    let v := fun p => withCode (.vol (.ll .a)) p ready
    let o := { ready with tiu := { Tiu.reset with slits := .fill true, doors := ⟨true, true⟩ } }
    Volume.ofNum 6 = some (Slit.ll .a).volume ∧ ready.fitted (.ll .a) = true ∧ slitTest (s 150) (.ll .a) = none
      ∧ slitTest (s 151) (.ll .a) = some .interlock ∧ doorTest (v 580) .a = none ∧ doorTest (v 579) .a = some .interlock
      ∧ o.tiu.slits.get (.ll .a) = true ∧ o.tiu.doors.get .a = true ∧ ready.tiu.slits.get (.ll .a) = false := by decide

/-- The tests of OPEN SLIT and OPEN DOOR in their order: each reason with those behind it failing too; what no slit or door
has for a number; a loadlock that is not fitted; the notice of a chamber's slit. -/
theorem test_SlitAndDoorRequests_order :
    let off := { ready with flu := ⟨none, .fill true⟩ }
    let run := inStep .tc (record .dwell) .dwell ready
    let none' := { ready with cfg := ⟨true, { Items.default with capacity := .fill 0 }⟩ }
    slitTest State.reset (.ch .c1) = some .config ∧ slitTest off (.ch .c1) = some .permit
      ∧ slitTest run (.ch .c1) = some .state ∧ slitTest ready (.ch .c1) = some .interlock
      ∧ doorTest State.reset .a = some .config ∧ doorTest off .a = some .permit
      ∧ doorTest (inStep (.ll .a) (record .dwell) .dwell ready) .a = some .state ∧ doorTest ready .a = some .interlock
      ∧ (take .txc (.openSlit 5) ready).2 = refuse .range ∧ (take .txc (.closeDoor 5) ready).2 = refuse .range
      ∧ (take .txc (.openDoor 8) ready).2 = refuse .range ∧ none'.fitted (.ll .a) = false ∧ Link.cc .c1 ≠ .txc
      ∧ ((Sys2Proof.Machine.setSlit (.ch .c1) true ready).outbox) = [⟨[.txc, .cc .c1], ⟨.slitChanged, 1, 0, 1, 0, 0⟩⟩] := by
  decide

theorem test_ReadsAnswerAndChangeNothing_met :
    let s := serving.modVol .tc fun x => { x with current := some (record .dwell), queue := [record .gas] }
    Volume.ofNum 5 = some .tc ∧ s.fitted .tc = true ∧ (s.vol .tc).current = some (record .dwell)
      ∧ (serving.vol .tc).current = none ∧ (s.vol .tc).queue[1 - 1]? = some (record .gas)
      ∧ (s.vol .tc).queue.length < 2 := by decide

/-- Table 10-3, R113, R146: a sample's field and one of no sample; the place of a chamber second in the gas queue; a chamber's
RF block; a volume that is not fitted. -/
theorem test_ReadsAnswerAndChangeNothing_fields :
    let e : GasEntry := ⟨.c1, (Per6.fill ⟨0, 0⟩).set .k1 ⟨70000, 4⟩⟩
    let q := { ready with gat := { ready.gat with queue := [⟨.c2, .fill ⟨0, 0⟩⟩, e] } }
    encGauge ⟨some ⟨2000, -100, false, true⟩, false, false, false⟩ = [0, 7, 208, 255, 156, 0, 1, 0]
      ∧ encGauge ⟨none, false, false, true⟩ = [1, 0, 0, 0, 0, 0, 0, 1]
      ∧ (volumeR113 q (.ch .c1)).take 10 = [1, 1, 2, 1, 0, 1, 17, 112, 0, 4]
      ∧ q.inGasQueue .c1 = true ∧ volumeR113 ready (.ch .c1) = [1, 1, 0, 0] ++ List.replicate 36 0
      ∧ (volumeR146 etching (.ch .c1)).take 6 = [1, 0, 0, 1, 0, 0]
      ∧ (volumeR146 etching (.ch .c1)).drop 20 = [100, 1, 0, 5, 0, 1, 0, 0, 0]
      ∧ Volume.tc.chamber? = none ∧ withoutTc.fitted .tc = false := by decide

/-- 54 characters make one page, 55 two, and none no page. -/
theorem test_PagesHoldTheAnswer_boundaries : pageCount (List.replicate 54 0) = 1 ∧ pageCount (List.replicate 55 0) = 2
    ∧ pageCount [] = 0 ∧ pageData (List.replicate 55 0) 1 = some [1, 2, 0] ∧ pageData (List.replicate 54 0) 1 = none := by
  decide

theorem test_NoticeRequests_met : (127#8 >>> 7 = 0) ∧ (128#8 >>> 7 ≠ 0) := by decide

theorem test_ReadConfigAnswers_met : Items.default.get? 38 0 = none ∧ Items.default.get? 7 8 = none
    ∧ Items.default.get? 7 5 = some 8 ∧ Items.default.get? 36 45 = some 0 ∧ Items.default.get? 36 46 = none := by decide

/-- Table 11-1 at the ends of its lists: channel 24 of the source map, position 29 of the scan list, line 19 of the input map;
a global item has index 0 alone; item 8 ends at its capacity, and is 1 alone at capacity 0. -/
theorem test_ReadConfigAnswers_table : itemRow 25 4 1 20 5 ∈ itemTable ∧ (itemRow 25 4 1 20 5).defaults = [5, 5, 5, 5]
    ∧ (itemRow 11 0 (-1000) 1000 400).defaults = [400]
    ∧ Items.default.get? 16 24 = some 6 ∧ Items.default.get? 16 25 = none ∧ Items.default.get? 24 28 = some 28
    ∧ Items.default.get? 24 29 = some 1 ∧ Items.default.get? 35 18 = some 18 ∧ Items.default.get? 35 19 = some 0
    ∧ Items.default.get? 11 0 = some 400 ∧ Items.default.get? 11 1 = none ∧ Items.default.range 8 5 = (1, 8)
    ∧ (Items.default.put 7 5 0).range 8 5 = (1, 1) ∧ (Items.default.put 16 24 9).get? 16 24 = some 9
    ∧ ((Items.default.put 16 24 9).sourceMap.getK .c4 .k6) = 9 := by decide

theorem test_ClearConditionsCourse_met : (0x3FFF#16 >>> 14 = 0) ∧ Volume.ofNum 7 = some (.ll .b)
    ∧ serving.fitted .tc = true ∧ withoutTc.fitted .tc = false ∧ Volume.tc.master = .txc ∧ Volume.tc.master ≠ .cc .c1 := by
  decide

theorem test_ResetCountersCourse_met : Volume.ofNum 1 = some (.ch .c1) ∧ serving.fitted (.ch .c1) = true
    ∧ withoutTc.fitted .tc = false ∧ (Volume.ch .c1).master = .cc .c1 ∧ (Volume.ch .c1).master ≠ .txc
    ∧ (resetVolumeCounters (.ch .c1) (serving.setDevice (.mfc .c1 .k1) { DeviceRow.reset with noAnswers := 9 })).device
        (.mfc .c1 .k1) = DeviceRow.reset := by decide

theorem test_ClearDeviceCourse_met : Device.ofAddr 28 = some (.throttle .c4)
    ∧ serving.fitted (.ch .c4) = true ∧ Link.txc ≠ .cc (Device.throttle .c4).chamber
    ∧ ({ serving with cfg := ⟨true, { Items.default with capacity := .fill 0 }⟩ }).fitted (.ch .c4) = false
    ∧ ((serving.setDevice (.throttle .c4) { DeviceRow.reset with failed := true }).device (.throttle .c4)).failed = true
    ∧ (serving.device (.throttle .c4)).failed = false := by decide

/-- R128: on a free bus the class-1 zero of a FAILED MFC starts at once; an OK device gets no post, and the write of another
device that waits is taken up. -/
theorem test_ClearDeviceCourse_posts :
    let d : Device := .mfc .c1 .k1
    let s := serving.setDevice (.throttle .c2) { DeviceRow.reset with pending := some ⟨.opened, .normal, 0⟩ }
    let f := s.setDevice d { DeviceRow.reset with failed := true, consecutive := 3 }
    (clearDevice d f).dbc.inFlight.map (fun t => (t.device, t.op)) = some (d, .set ⟨.flow 0, .urgent, 0⟩)
      ∧ ((clearDevice d f).device (.throttle .c2)).pending = some ⟨.opened, .normal, 0⟩
      ∧ ((clearDevice d s).device d).pending = none
      ∧ (clearDevice d s).dbc.inFlight.map (fun t => (t.device, t.op)) = some (.throttle .c2, .set ⟨.opened, .normal, 0⟩)
      ∧ ((clearDevice d s).device (.throttle .c2)).pending = none := by decide

/-- R25: a capacity that makes the sum 97, one below the queue, and one that passes and takes the start depth along. -/
theorem test_WriteConfigCourse_met :
    let s := State.reset.modVol .tc fun x => { x with queue := [record .dwell, record .dwell] }
    itemAccepts s 7 5 9 = false ∧ itemAccepts s 7 5 8 = true ∧ itemAccepts s 7 5 1 = false ∧ itemAccepts s 7 5 2 = true
      ∧ itemAccepts s 9 5 0 = false ∧ itemAccepts s 9 5 1 = true ∧ itemAccepts s 9 5 3601 = false
      ∧ s.items.get? 38 0 = none ∧ State.reset.cfg.serving = false ∧ itemAccepts s 34 1 1 = true
      ∧ (Items.default.put 7 6 1).startDepth.get (.ll .a) = 1 ∧ (Items.default.put 7 6 0).startDepth.get (.ll .a) = 1
      ∧ (Items.default.put 7 5 1).get? 8 5 = some 1 ∧ (Items.default.put 7 5 1).get? 8 6 = Items.default.get? 8 6
      ∧ Items.default.sourceCapacity.length = 10 ∧ Items.default.scanEntry.length = 32
      ∧ Items.default.inputPolarity.length = 24 ∧ Items.default.inputMap.length = 24
      ∧ Items.default.outputPolarity.length = 45 := by decide

theorem test_CloseConfigurationCourse_met : closeFault Items.default = none
    ∧ closeFault { Items.default with capacity := .fill 14 } = some 7
    ∧ closeFault { Items.default with releaseThreshold := 80000 } = some 20
    ∧ closeFault { Items.default with hi := .fill (-300) } = some 2
    ∧ closeFault { Items.default with scanLength := 0 } = some 23
    ∧ closeFault { Items.default with fullScale := .fill (.fill 99) } = some 21
    ∧ closeFault { Items.default with heavyLimit := 601 } = some 11
    ∧ serving.source .c1 .k1 ≠ 0 ∧ (serving.device (.throttle .c1)).failed = false
    ∧ ((hear .txc State.reset).port .txc).lost = false := by decide

/-- R131: an unmapped MFC and a FAILED throttle get no closing post: what is pending stands, or the free bus takes it up. -/
theorem test_CloseConfigurationCourse_posts :
    let w : PendingWrite := ⟨.flow 500, .urgent, 0⟩
    let s := (({ State.reset with cfg := ⟨false, { Items.default with sourceMap := Items.default.sourceMap.setK .c1 .k1 0 }⟩
      }).setDevice (.mfc .c1 .k1) { DeviceRow.reset with pending := some w }).setDevice (.throttle .c1)
        { DeviceRow.reset with failed := true }
    let c := fun s => match exec (.closeConfiguration .txc 0) s with | .next t => t | _ => s
    s.source .c1 .k1 = 0 ∧ ((c s).device (.mfc .c1 .k1)).pending = none ∧ (c s).dbc.inFlight.map (·.op) = some (.set w)
      ∧ ((c (setInFlight s)).device (.mfc .c1 .k1)).pending = some w
      ∧ ((c s).device (.throttle .c1)).pending = none ∧ ((c s).device (.throttle .c2)).pending.isSome = true := by decide

/-- The scan position and count at the close: with the bus busy, with a closing write to start, with every device FAILED, and
with the unmapped channel at scan position 24 alone OK, which is polled at once. -/
theorem test_CloseConfigurationCourse_scan :
    let c := fun s => match exec (.closeConfiguration .txc 0) s with
      | .next t => (t.dbc.inFlight.map (·.op), t.dbc.scanPos, t.dbc.writes) | _ => (none, 0, 0)
    let s := { State.reset with dbc := { State.reset.dbc with scanPos := 9, writes := 5 } }
    let down : DeviceRow := { DeviceRow.reset with failed := true }
    let f := { s with dbc := { s.dbc with devices := .fill down } }
    let u := ({ f with cfg := ⟨false, { Items.default with sourceMap := Items.default.sourceMap.setK .c4 .k6 0 }⟩ }).setDevice
      (.mfc .c4 .k6) DeviceRow.reset
    c (setInFlight s) = (some (.set ⟨.flow 500, .normal, 0⟩), 1, 0) ∧ c s = (some (.set ⟨.flow 0, .urgent, 0⟩), 1, 1)
      ∧ c f = (none, 1, 0) ∧ c u = (some .read, 25, 0) := by decide

theorem test_ReopenCourse_met : reopenTest serving = none ∧ reopenTest State.reset = some .state
    ∧ reopenTest roughingTc = some .state ∧ reopenTest (withFlow 1 false serving) = some .state
    ∧ reopenTest { serving with tiu := { Tiu.reset with slits := .fill true } } = some .interlock
    ∧ ((withCode .header 0 serving).setGauge .header ⟨none, false, false, true⟩ |>.gauge .header).asserted = true := by decide

/-- R37, R173: a queue is discarded, and the last step end stands. -/
theorem test_ReopenCourse_volume :
    let s := serving.modVol .tc fun x => { x with queue := [record .dwell], lastEnd := some ⟨7, .dwell, .completed, none, none⟩ }
    reopenTest s = none ∧ ((reopen s).vol .tc).queue = []
      ∧ ((reopen s).vol .tc).lastEnd = some ⟨7, .dwell, .completed, none, none⟩ := by decide

/-- R173: the refusal of REOPEN CONFIGURATION and of RESTART by each test, an open slit behind a running volume among them. -/
theorem test_ReopenCourse_order :
    let o := { serving with tiu := { Tiu.reset with slits := .fill true } }
    let d := { serving with tiu := { Tiu.reset with doors := ⟨true, false⟩ } }
    let no := fun s => ((take .txc .reopenConfiguration s).2.reason, (take .txc .restart s).2.reason)
    no State.reset = (some .state, some .state) ∧ no (inStep .tc (record .dwell) .dwell o) = (some .state, some .state)
      ∧ no (withFlow 1 false o) = (some .state, some .state) ∧ no o = (some .interlock, some .interlock)
      ∧ no d = (some .interlock, some .interlock) ∧ no serving = (none, none) ∧ o.tiu.slits.get (.ch .c1) = true := by decide

theorem test_RestartCourse_met : reopenTest serving = none ∧ reopenTest State.reset = some .state
    ∧ (setInFlight serving).dbc.inFlight = some ⟨.mfc .c1 .k1, .set ⟨.flow 500, .normal, 0⟩, 0, false⟩ := by decide

/-- R131, R172: at RESTART a transaction in flight runs on, discarded; on a free bus a closing write starts; a channel without
a source gets none. -/
theorem test_RestartCourse_bus :
    let u := { serving with cfg := ⟨true, { Items.default with sourceMap := Items.default.sourceMap.setK .c1 .k1 0 }⟩ }
    let x := fun s => match exec (.restart .txc 0) s with | .next t => t | _ => s
    (x (setInFlight u)).dbc.inFlight = some ⟨.mfc .c1 .k1, .set ⟨.flow 500, .normal, 0⟩, 0, true⟩
      ∧ (x (setInFlight u)).dbc.writes = 0 ∧ u.source .c1 .k1 = 0 ∧ ((x u).device (.mfc .c1 .k1)).pending = none
      ∧ ((x u).dbc.inFlight.map (·.op)) = some (.set ⟨.flow 0, .urgent, 0⟩) ∧ (x u).dbc.writes = 1 ∧ (x u).dbc.scanPos = 1
      ∧ (((x u).device (.throttle .c4)).pending.map (·.value)) = some .opened := by decide

theorem test_AliveAndRefusals_met : (take .txc (.run 0) serving).2.code = .refused
    ∧ (take .txc (.run 0) serving).2.reason ≠ some .full := by decide

/-! ### Events from end to end -/

/-- The state after a command. -/
def after (i : Instr) (s : State) : State :=
  match exec i s with
  | .next t => t
  | _ => s

/-- R90, R49, R32: a VENT's overhang ends, the queue is empty: the vent closes and the volume underflows; with no gas to drain
it is at HOLD within the event, and the port's last notice is VOLUME_HOLD. -/
theorem test_event_underflow :
    let s := (inStep .tc (record .vent) .overhang ready).modVol .tc fun x => { x with overhangCount := 3, ventOpen := true }
    let t := after (.overhangEnd .tc) s
    (t.vol .tc).state = .hold ∧ (t.vol .tc).ventOpen = false ∧ (t.vol .tc).counters.underflow = 1
      ∧ (t.port .txc).slot = some ⟨⟨.volumeHold, 5, 7, 3, 0, 0⟩, true⟩ ∧ (t.port .txc).sequence = 3 := by decide

/-- R138: a confirm count of 2 of 3 takes its last step tick and the STRIKE completes into the queued ETCH, which carries RF
over at its own power (R47, R141). -/
theorem test_event_carry :
    let s := ((inStep (.ch .c1) (record .strike) .confirm ready).setReu .c1 ⟨true, 100, 5, 2, 0, 0, 0, 0, 0⟩).modVol (.ch .c1)
      fun x => { x with queue := [{ record .etch with power := 3000, tag := 9, duration := 100 }] }
    let t := after .stepTick { s with flu := ⟨none, (Per18.fill true).set .emergencyOff false⟩ }
    (t.vol (.ch .c1)).phase = .etch ∧ (t.vol (.ch .c1)).currentTag = 9 ∧ (t.reuOf .c1).rfOn = true
      ∧ (t.reuOf .c1).powerCode = 4095 := by decide

/-- R86: TC's fall of 50 codes is above the minimum: the window starts afresh at 350. -/
theorem test_event_stall_check :
    let t := after (.stallCheck .tc) (roughingTc.modVol .tc fun x => { x with stallCount := 10 })
    (t.vol .tc).stallBaseline = 350 ∧ (t.vol .tc).stallCount = 0 ∧ (t.vol .tc).phase = .rough := by decide

/-- R159: ALIVE in a frame is answered OK, and one that arrives before the reply is sent is answered BUSY after it. -/
theorem test_event_busy :
    let f := Instr.frameReceived .txc [29, 9] (frameCheck [29, 9])
    let t := after f (after f serving)
    (t.port .txc).lastReply = some ⟨29, 9, .ok, none, []⟩
      ∧ ((after (.replySent .txc) t).port .txc).lastReply = some ⟨29, 9, .busy, none, []⟩ := by decide

end Sys2Proof.Tests
end

section
/-! Proofs of the scope statements: the frame of an event, the ticks, and the sample tick of an idle step. -/

namespace Sys2Proof.Machine

open Sys2Proof

/-! ## Step starts and completions stay inside the frame of an event -/

/-- The state that a step's start came to, completed or not. -/
def Started.state : Started → State
  | .stands s => s
  | .completes s => s

theorem leaveStep_eventFrame (v : Volume) (s : State) : EventFrame s (leaveStep v s) := by
  cases v <;> exact EventFrame.refl s

theorem enterHighPump_eventFrame (v : Volume) (s : State) : EventFrame s (enterHighPump v s) :=
  (modVol_eventFrame v _ s).trans (setGate_eventFrame v true _)

theorem enterIgnite_eventFrame (c : Chamber) (r : StepRecord) (s : State) : EventFrame s (enterIgnite c r s) :=
  EventFrame.refl s

theorem enterEtch_eventFrame (c : Chamber) (r : StepRecord) (s : State) : EventFrame s (enterEtch c r s) := by
  unfold enterEtch
  dsimp only
  split <;> exact EventFrame.refl s

theorem enterFill_eventFrame (v : Volume) (r : StepRecord) (s : State) : EventFrame s (enterFill v r s) := by
  cases v with
  | ch c => exact (modVol_eventFrame _ _ s).trans (requestGas_eventFrame c r.flows _)
  | tc => exact EventFrame.refl s
  | ll l => exact EventFrame.refl s

theorem startPump_eventFrame (v : Volume) (r : StepRecord) (s : State) : EventFrame s (startPump v r s).state := by
  have closed : EventFrame s ((setVent v false s).setGate v false) := setGate_eventFrame v false (setVent v false s)
  unfold startPump
  split
  · exact failStep_eventFrame v .lidOpen s
  split
  · exact EventFrame.refl s
  split
  · exact enterHighPump_eventFrame v (setVent v false s)
  dsimp only
  split
  · split
    · exact closed.trans (EventFrame.refl _)
    · exact closed
  · exact closed.trans (joinRough_eventFrame v _)

theorem startVent_eventFrame (v : Volume) (s : State) : EventFrame s (startVent v s) :=
  (setGate_eventFrame v false s).trans (EventFrame.refl _)

theorem purgeFrom_eventFrame (v : Volume) (r : StepRecord) (n : Nat) (s : State) :
    EventFrame s (purgeFrom v r n s).state := by
  induction n generalizing s with
  | zero => exact EventFrame.refl s
  | succ n ih =>
    unfold purgeFrom
    dsimp only
    split
    · split
      · exact EventFrame.refl s
      · split
        · exact EventFrame.trans (EventFrame.refl s) (ih _)
        · exact EventFrame.trans (EventFrame.refl s) (enterFill_eventFrame v r _)
    · exact EventFrame.refl s

theorem beginCycle_eventFrame (v : Volume) (r : StepRecord) (s : State) : EventFrame s (beginCycle v r s).state := by
  unfold beginCycle
  dsimp only
  split
  · exact (modVol_eventFrame v _ s).trans (purgeFrom_eventFrame v r _ _)
  · exact (modVol_eventFrame v _ s).trans (enterFill_eventFrame v r _)

theorem startPurge_eventFrame (v : Volume) (r : StepRecord) (s : State) : EventFrame s (startPurge v r s).state :=
  (setGate_eventFrame v false s).trans (beginCycle_eventFrame v r _)

theorem startGasKind_eventFrame (c : Chamber) (r : StepRecord) (carry : Bool) (s : State) :
    EventFrame s (startGasKind c r carry s) := by
  unfold startGasKind
  dsimp only
  refine EventFrame.trans ?_ (requestGas_eventFrame c r.flows _)
  split
  · exact (modVol_eventFrame _ _ s).trans (enterEtch_eventFrame c r _)
  · exact EventFrame.refl s

theorem startChamberPlant_eventFrame (c : Chamber) (r : StepRecord) (carry : Bool) (s : State) :
    EventFrame s (startChamberPlant c r carry s) := by
  have zeroed : EventFrame s (match r.kind with
      | .pump | .vent | .purge => zeroChamber c .normal (s.modReu c fun u => u.begin r carry)
      | _ => s.modReu c fun u => u.begin r carry) := by
    split
    · exact (modReu_eventFrame c _ s).trans (zeroChamber_eventFrame c .normal _)
    · exact (modReu_eventFrame c _ s).trans (zeroChamber_eventFrame c .normal _)
    · exact (modReu_eventFrame c _ s).trans (zeroChamber_eventFrame c .normal _)
    · exact modReu_eventFrame c _ s
  unfold startChamberPlant
  dsimp only
  split
  · exact zeroed.trans (postWrite_eventFrame _ _ _ _)
  · exact zeroed

theorem enterKind_eventFrame (v : Volume) (r : StepRecord) (carry : Bool) (s : State) :
    EventFrame s (enterKind v r carry s).state := by
  have gas : EventFrame s (match v with
      | .ch c => Started.stands (startGasKind c r carry s)
      | _ => .stands s).state := by
    cases v with
    | ch c => exact startGasKind_eventFrame c r carry s
    | tc => exact EventFrame.refl s
    | ll l => exact EventFrame.refl s
  unfold enterKind
  cases r.kind with
  | pump => exact startPump_eventFrame v r s
  | vent => exact startVent_eventFrame v s
  | purge => exact startPurge_eventFrame v r s
  | dwell => exact EventFrame.refl s
  | gas => exact gas
  | strike => exact gas
  | etch => exact gas

theorem startStep_eventFrame (v : Volume) (r : StepRecord) (rest : List StepRecord) (carry : Bool) (s : State) :
    EventFrame s (startStep v r rest carry s).state := by
  unfold startStep
  refine EventFrame.trans ?_ (enterKind_eventFrame v r _ _)
  cases v with
  | ch c => exact (modVol_eventFrame _ _ s).trans (startChamberPlant_eventFrame c r _ _)
  | tc => exact EventFrame.refl s
  | ll l => exact EventFrame.refl s

theorem startSteps_eventFrame (v : Volume) (l : List StepRecord) (carry : Bool) (s : State) :
    EventFrame s (startSteps v l carry s) := by
  induction l generalizing carry s with
  | nil => exact underflow_eventFrame v s
  | cons r rest ih =>
    have started := startStep_eventFrame v r rest carry s
    unfold startSteps
    cases h : startStep v r rest carry s with
    | stands t =>
      rw [h] at started
      exact started
    | completes t =>
      rw [h] at started
      have recorded := started.trans (recordEnd_eventFrame v .completed none none t)
      dsimp only
      split
      · exact recorded.trans (windDown_eventFrame v none _)
      · exact recorded.trans (ih false _)

theorem completeStep_eventFrame (v : Volume) (n : Option Note) (s : State) : EventFrame s (completeStep v n s) := by
  unfold completeStep
  split
  · have recorded := (leaveStep_eventFrame v s).trans (recordEnd_eventFrame v .completed none n (leaveStep v s))
    dsimp only
    split
    · exact recorded.trans (windDown_eventFrame v none _)
    · exact recorded.trans (startSteps_eventFrame v _ _ _)
  · exact EventFrame.refl s

/-- A completion that follows a start within the event stays inside the frame that the start stayed in. -/
theorem Started.settle_eventFrame {s : State} {x : Started} (v : Volume) (h : EventFrame s x.state) :
    EventFrame s (x.settle v) := by
  cases x with
  | stands t => exact h
  | completes t => exact h.trans (completeStep_eventFrame v none t)

/-! ## Each row that the part takes by itself stays inside the frame -/

/-- What a row leads to, if its condition stands, lies inside the frame of `s`. -/
def DueFrame (s : State) (o : Option State) : Prop := ∀ t, o = some t → EventFrame s t

theorem DueFrame.none {s : State} : DueFrame s none := fun _ h => nomatch h

theorem DueFrame.some {s t : State} (h : EventFrame s t) : DueFrame s (some t) := fun _ e => Option.some.inj e ▸ h

theorem DueFrame.ite {s t : State} {p : Prop} [Decidable p] (h : EventFrame s t) :
    DueFrame s (if p then Option.some t else Option.none) := by
  split
  · exact .some h
  · exact .none

theorem DueFrame.or {s : State} {a b : Option State} (ha : DueFrame s a) (hb : DueFrame s b) : DueFrame s (a.or b) := by
  cases a with
  | none => exact hb
  | some t => exact ha

theorem DueFrame.findSome? {s : State} {f : Volume → Option State} (h : ∀ v, DueFrame s (f v)) (l : List Volume) :
    DueFrame s (l.findSome? f) := by
  intro t ht
  obtain ⟨v, -, hv⟩ := List.exists_of_findSome?_eq_some ht
  exact h v t hv

theorem stepLimitExpiry?_dueFrame (v : Volume) (s : State) : DueFrame s (stepLimitExpiry? v s) := by
  unfold stepLimitExpiry?
  split
  · exact .ite (failStep_eventFrame v _ s)
  · exact .none

theorem admissionLimitExpiry?_dueFrame (v : Volume) (s : State) : DueFrame s (admissionLimitExpiry? v s) := by
  unfold admissionLimitExpiry?
  split
  · exact .ite (failStep_eventFrame v _ s)
  · exact .none

theorem stallOutcome_eventFrame (v : Volume) (p : Int) (s : State) : EventFrame s (stallOutcome v p s) := by
  unfold stallOutcome
  split
  · exact modVol_eventFrame v _ s
  split
  · exact ((modVol_eventFrame v _ s).trans (setFlag_eventFrame v .pumpRetry _)).trans
      ((countOn_eventFrame v _ _).trans (EventFrame.refl _))
  · exact failStep_eventFrame v .pumpStall s

theorem stallCheck?_dueFrame (v : Volume) (s : State) : DueFrame s (stallCheck? v s) := by
  unfold stallCheck?
  split
  · exact .ite (stallOutcome_eventFrame v _ s)
  · exact .none

theorem dwellComplete?_dueFrame (v : Volume) (s : State) : DueFrame s (dwellComplete? v s) := by
  unfold dwellComplete?
  split
  · exact .ite (completeStep_eventFrame v none s)
  · exact .none

theorem overhangEnd?_dueFrame (v : Volume) (s : State) : DueFrame s (overhangEnd? v s) := by
  unfold overhangEnd?
  split
  · exact .ite ((modVol_eventFrame v _ s).trans (completeStep_eventFrame v none _))
  · exact .none

theorem settleComplete?_dueFrame (c : Chamber) (s : State) : DueFrame s (settleComplete? c s) := by
  unfold settleComplete?
  split
  · exact .ite (completeStep_eventFrame _ none s)
  · exact .none

theorem strikeConfirmed?_dueFrame (c : Chamber) (s : State) : DueFrame s (strikeConfirmed? c s) := by
  unfold strikeConfirmed?
  split
  · exact .ite (completeStep_eventFrame _ none s)
  · exact .none

theorem strikeRetry_eventFrame (c : Chamber) (s : State) : EventFrame s (strikeRetry c s) := by
  unfold strikeRetry
  refine EventFrame.trans (EventFrame.trans (EventFrame.trans ?_ (setFlag_eventFrame (.ch c) .strikeRetry _))
    (countOn_eventFrame (.ch c) _ _)) (modVol_eventFrame _ _ _)
  exact EventFrame.refl s

theorem strikeTimeout?_dueFrame (c : Chamber) (s : State) : DueFrame s (strikeTimeout? c s) := by
  unfold strikeTimeout?
  split
  · split
    · split
      · exact .some (strikeRetry_eventFrame c s)
      · exact .some (failStep_eventFrame _ .strikeFail s)
    · exact .none
  · exact .none

theorem retryPauseEnd?_dueFrame (c : Chamber) (s : State) : DueFrame s (retryPauseEnd? c s) := by
  unfold retryPauseEnd?
  split
  · exact .ite (enterIgnite_eventFrame c _ s)
  · exact .none

theorem dropoutLimitExceeded?_dueFrame (c : Chamber) (s : State) : DueFrame s (dropoutLimitExceeded? c s) := by
  unfold dropoutLimitExceeded?
  split
  · exact .ite (failStep_eventFrame _ .plasmaLost s)
  · exact .none

theorem endEtch_eventFrame (c : Chamber) (r : StepRecord) (s : State) : EventFrame s (endEtch c r s) := by
  unfold endEtch
  split
  · exact completeStep_eventFrame _ _ s
  · split
    · exact failStep_eventFrame _ .endpointMissed s
    · exact completeStep_eventFrame _ _ s
  · exact completeStep_eventFrame _ none s

theorem gatedTimeEnd?_dueFrame (c : Chamber) (s : State) : DueFrame s (gatedTimeEnd? c s) := by
  unfold gatedTimeEnd?
  split
  · exact .ite (endEtch_eventFrame c _ s)
  · exact .none

theorem windDownEnd?_dueFrame (v : Volume) (s : State) : DueFrame s (windDownEnd? v s) := by
  unfold windDownEnd?
  split
  · split
    · exact .some (EventFrame.refl s)
    · exact .some (EventFrame.refl s)
    · exact .none
  · exact .none

theorem afterTransition_eventFrame (c : Chamber) (r : StepRecord) (s : State) : EventFrame s (afterTransition c r s) := by
  unfold afterTransition
  split
  · exact enterIgnite_eventFrame c r s
  · exact enterEtch_eventFrame c r s
  · exact modVol_eventFrame _ _ s

theorem transitionEnd?_dueFrame (c : Chamber) (s : State) : DueFrame s (transitionEnd? c s) := by
  unfold transitionEnd?
  split
  · split
    · exact .none
    · exact .some (afterTransition_eventFrame c _ s)
  · exact .none

theorem plasmaLit?_dueFrame (c : Chamber) (s : State) : DueFrame s (plasmaLit? c s) := by
  unfold plasmaLit?
  split
  · exact .ite (EventFrame.refl s)
  · exact .none

theorem turboReady?_dueFrame (v : Volume) (s : State) : DueFrame s (turboReady? v s) := by
  unfold turboReady?
  split
  · exact .ite (enterHighPump_eventFrame v s)
  · exact .none

theorem endRough_eventFrame (v : Volume) (r : StepRecord) (s : State) : EventFrame s (endRough v r s) := by
  unfold endRough
  dsimp only
  split
  · exact EventFrame.refl s
  · exact (releaseRough_eventFrame v s).trans (completeStep_eventFrame v none _)

theorem endFill_eventFrame (v : Volume) (r : StepRecord) (s : State) : EventFrame s (endFill v r s) := by
  unfold endFill
  refine Started.settle_eventFrame v (EventFrame.trans ?_ (purgeFrom_eventFrame v r _ _))
  cases v with
  | ch c => exact foldl_eventFrame _ (fun s (f : FlowEntry) => zeroChannel_eventFrame c .normal f.chan s) _ s
  | tc => exact EventFrame.refl s
  | ll l => exact EventFrame.refl s

theorem endPumpBack_eventFrame (v : Volume) (r : StepRecord) (s : State) : EventFrame s (endPumpBack v r s) := by
  have released : EventFrame s ((releaseRough v s).modVol v fun x => { x with cyclesLeft := x.cyclesLeft - 1 }) :=
    EventFrame.refl s
  unfold endPumpBack
  dsimp only
  split
  · exact released.trans (completeStep_eventFrame v none _)
  · exact Started.settle_eventFrame v (released.trans (beginCycle_eventFrame v r _))

theorem codeReached?_dueFrame (v : Volume) (s : State) : DueFrame s (codeReached? v s) := by
  unfold codeReached?
  split
  · split
    · exact .ite (endRough_eventFrame v _ s)
    · exact .ite (completeStep_eventFrame v none s)
    · exact .ite (modVol_eventFrame v _ s)
    · exact .ite (endFill_eventFrame v _ s)
    · exact .ite (endPumpBack_eventFrame v _ s)
    · exact .none
  · exact .none

theorem grantHead?_dueFrame (s : State) : DueFrame s (grantHead? s) := by
  unfold grantHead?
  split
  · exact .none
  · exact .ite (EventFrame.refl s)

theorem openValve?_dueFrame (v : Volume) (s : State) : DueFrame s (openValve? v s) := by
  unfold openValve?
  split
  · exact .ite (EventFrame.refl s)
  · exact .none

theorem admitChannel_eventFrame (c : Chamber) (aims : Per6 Aim) (s : State) (k : Chan) :
    EventFrame s (admitChannel c aims s k) := by
  unfold admitChannel
  dsimp only
  split
  · exact EventFrame.refl s
  · exact startTransition_eventFrame c k _ _ .normal s

theorem admitEntry_eventFrame (e : GasEntry) (s : State) : EventFrame s (admitEntry e s) :=
  (withdrawGas_eventFrame e.chamber s).trans
    ((foldl_eventFrame _ (admitChannel_eventFrame e.chamber e.aims) Chan.all _).trans
      ((headerTest_eventFrame _).trans (modVol_eventFrame _ _ _)))

theorem gasAdmission?_dueFrame (s : State) : DueFrame s (gasAdmission? s) := by
  unfold gasAdmission?
  cases nextAdmission s with
  | none => exact .none
  | some e => exact .some (admitEntry_eventFrame e s)

/-! ## Settling and the posting of notices -/

theorem tickDue?_dueFrame (v : Volume) (s : State) : DueFrame s (tickDue? v s) := by
  unfold tickDue?
  refine (dwellComplete?_dueFrame v s).or ((overhangEnd?_dueFrame v s).or (DueFrame.or ?_
    ((stepLimitExpiry?_dueFrame v s).or ((admissionLimitExpiry?_dueFrame v s).or (stallCheck?_dueFrame v s)))))
  cases v with
  | ch c =>
    exact (settleComplete?_dueFrame c s).or ((strikeConfirmed?_dueFrame c s).or ((strikeTimeout?_dueFrame c s).or
      ((retryPauseEnd?_dueFrame c s).or ((dropoutLimitExceeded?_dueFrame c s).or (gatedTimeEnd?_dueFrame c s)))))
  | tc => exact .none
  | ll l => exact .none

theorem stateDue?_dueFrame (v : Volume) (s : State) : DueFrame s (stateDue? v s) := by
  unfold stateDue?
  refine (windDownEnd?_dueFrame v s).or (DueFrame.or ?_ ((turboReady?_dueFrame v s).or (codeReached?_dueFrame v s)))
  cases v with
  | ch c => exact (transitionEnd?_dueFrame c s).or (plasmaLit?_dueFrame c s)
  | tc => exact .none
  | ll l => exact .none

theorem nextDue?_dueFrame (s : State) : DueFrame s (nextDue? s) :=
  (DueFrame.findSome? (fun v => tickDue?_dueFrame v s) _).or
    ((DueFrame.findSome? (fun v => stateDue?_dueFrame v s) _).or
      ((DueFrame.findSome? (fun v => openValve?_dueFrame v s) _).or
        ((grantHead?_dueFrame s).or (gasAdmission?_dueFrame s))))

theorem settle_eventFrame (n : Nat) (s : State) : EventFrame s (settle n s) := by
  induction n generalizing s with
  | zero => exact EventFrame.refl s
  | succ n ih =>
    unfold settle
    cases h : nextDue? s with
    | none => exact EventFrame.refl s
    | some t => exact (nextDue?_dueFrame s t h).trans (ih t)

/-- A notice taken by a port changes its slot, sequence count and attention line alone (R163). -/
theorem writeNotice_besideNotice (n : Notice) (p : Port) : (writeNotice n p).besideNotice = p.besideNotice := by
  unfold writeNotice
  split <;> rfl

theorem postTo_eventFrame (n : Notice) (s : State) (l : Link) : EventFrame s (postTo n s l) := by
  refine ⟨rfl, rfl, rfl, rfl, rfl, rfl, rfl, rfl, rfl, rfl, rfl, fun m => ?_⟩
  by_cases h : m = l
  · subst h
    rw [postTo, State.port_modPort_self, writeNotice_besideNotice]
  · rw [postTo, State.port_modPort_ne s l m _ h]

theorem deliver_eventFrame (s : State) (p : Posting) : EventFrame s (deliver s p) :=
  foldl_eventFrame _ (postTo_eventFrame p.notice) p.addressees s

theorem flush_eventFrame (s : State) : EventFrame s (flush s) := by
  have emptied : EventFrame s { s with outbox := [] } := EventFrame.refl s
  exact emptied.trans (foldl_eventFrame _ deliver_eventFrame (inOrder s.outbox) _)

/-- Whatever follows within an event stays inside its frame. -/
theorem finish_eventFrame (s : State) : EventFrame s (finish s) :=
  (settle_eventFrame settleBound s).trans (flush_eventFrame _)

/-! ## Folding an operation over the things it changes one at a time -/

section Fold

variable {ι β : Type} {f : State → ι → State} {get : State → ι → β}

/-- Where the operation at `i` leaves every other reading alone, a fold leaves the readings outside its list alone. -/
theorem foldl_reading_of_notMem (other : ∀ s i j, j ≠ i → get (f s i) j = get s j) (l : List ι) (s : State) (j : ι)
    (h : j ∉ l) : get (l.foldl f s) j = get s j := by
  induction l generalizing s with
  | nil => rfl
  | cons i l ih =>
    obtain ⟨hi, hl⟩ := not_or.1 (fun e => h (List.mem_cons.2 e))
    rw [List.foldl_cons, ih _ hl, other s i j hi]

/-- Where, besides, the operation at `i` updates reading `i` as long as `P` stands, and keeps `P`, a fold updates each
reading in its list once, from the value before the fold. -/
theorem foldl_reading_of_mem {P : State → Prop} {upd : ι → β → β} (keeps : ∀ s i, P s → P (f s i))
    (self : ∀ s i, P s → get (f s i) i = upd i (get s i)) (other : ∀ s i j, j ≠ i → get (f s i) j = get s j)
    (l : List ι) (distinct : l.Nodup) (s : State) (hs : P s) (j : ι) (h : j ∈ l) :
    get (l.foldl f s) j = upd j (get s j) := by
  induction l generalizing s with
  | nil => exact absurd h List.not_mem_nil
  | cons i l ih =>
    obtain ⟨hi, hl⟩ := List.nodup_cons.1 distinct
    rw [List.foldl_cons]
    rcases List.mem_cons.1 h with rfl | hj
    · rw [foldl_reading_of_notMem other l _ _ hi, self s _ hs]
    · have ne : j ≠ i := fun e => hi (e ▸ hj)
      rw [ih hl _ (keeps s i hs) hj, other s i j ne]

end Fold

theorem nodup_volumes : Volume.all.Nodup := by decide

theorem nodup_chambers : Chamber.all.Nodup := by decide

theorem nodup_channels : channels.Nodup := by decide

/-! ## What a post leaves alone in the device bus -/

/-- From `s` to `t` the flow checks stand, and of each device row everything but its place in the pending-write table. -/
def PlacesOnly (s t : State) : Prop :=
  t.dbc.checks = s.dbc.checks ∧ ∀ d, t.device d = { s.device d with pending := (t.device d).pending }

theorem PlacesOnly.refl (s : State) : PlacesOnly s s := ⟨rfl, fun _ => rfl⟩

theorem PlacesOnly.trans {s t u : State} (h : PlacesOnly s t) (k : PlacesOnly t u) : PlacesOnly s u := by
  obtain ⟨hc, hd⟩ := h
  obtain ⟨kc, kd⟩ := k
  refine ⟨kc.trans hc, fun d => ?_⟩
  rw [kd d, hd d]

theorem arbitrate_placesOnly (s : State) : PlacesOnly s (arbitrate s) := by
  refine ⟨?_, arbitrate_device s⟩
  rcases arbitrate_cases s with h | ⟨d, w, -, -, -, h⟩ | ⟨n, d, -, -, -, h⟩ <;> rw [h] <;> rfl

theorem placeWrite_placesOnly (d : Device) (x : BusValue) (k : WriteClass) (s : State) :
    PlacesOnly s (placeWrite d x k s) := by
  rcases placeWrite_cases d x k s with ⟨-, h⟩ | ⟨-, w, -, -, -, n, h⟩ <;> rw [h]
  · exact PlacesOnly.refl s
  · refine ⟨rfl, fun e => ?_⟩
    by_cases he : e = d
    · subst he
      simp [State.device, State.setDevice]
    · simp [State.device, State.setDevice, he]

theorem postWrite_placesOnly (d : Device) (x : BusValue) (k : WriteClass) (s : State) :
    PlacesOnly s (postWrite d x k s) :=
  (placeWrite_placesOnly d x k s).trans (arbitrate_placesOnly _)

/-! ## The counts of a step tick, one kind after another -/

/-- The settle count of a channel at a step tick, given the settle time (R130). -/
def FlowCheck.settleTick (x : FlowCheck) (limit : Int) : FlowCheck :=
  if (x.settle : Int) < limit then { x with settle := x.settle + 1 } else x

/-- A generator at a step tick (R116). -/
def Generator.rampTick (g : Generator) : Generator := if g.left = 0 then g else g.step

/-- A chamber's REU at a step tick: its counts advance while the chamber is RUNNING (R138, R139, R140). -/
def State.reuTick (s : State) (c : Chamber) : Reu :=
  if (s.vol (.ch c)).state = .running then (s.reuOf c).stepTick (s.vol (.ch c)).phase (s.fn (.plasma c)) else s.reuOf c

theorem tickCheck_eq (s : State) (ck : Chamber × Chan) :
    tickCheck s ck
      = s.setCheck ck.1 ck.2 ((s.check ck.1 ck.2).settleTick (s.items.settleTime.get ck.1)) := by
  unfold tickCheck FlowCheck.settleTick
  dsimp only
  split
  · rfl
  · simp [State.setCheck, State.check]

theorem foldl_tickCheck_frame (l : List (Chamber × Chan)) (s : State) :
    ∃ x, l.foldl tickCheck s = { s with dbc := { s.dbc with checks := x } } := by
  refine List.foldlRecOn (motive := fun t => ∃ x, t = { s with dbc := { s.dbc with checks := x } })
    l tickCheck ⟨s.dbc.checks, rfl⟩ ?_
  rintro _ ⟨x, rfl⟩ ck -
  exact ⟨_, tickCheck_eq _ ck⟩

theorem tickChecks_eq (s : State) : ∃ x, channels.foldl tickCheck s = { s with dbc := { s.dbc with checks := x } }
    ∧ ∀ c k, x.getK c k = (s.check c k).settleTick (s.items.settleTime.get c) := by
  obtain ⟨x, hx⟩ := foldl_tickCheck_frame channels s
  refine ⟨x, hx, fun c k => ?_⟩
  have h := foldl_reading_of_mem (f := tickCheck) (get := fun t ck => t.check ck.1 ck.2) (P := fun t => t.items = s.items)
    (upd := fun ck y => y.settleTick (s.items.settleTime.get ck.1))
    (fun t ck ht => by rw [tickCheck_eq]; exact ht)
    (fun t ck ht => by rw [tickCheck_eq, State.check_setCheck_self, ht])
    (fun t ck dj ne => by rw [tickCheck_eq]; exact State.check_setCheck_ne t _ _ _ _ _ ne)
    channels nodup_channels s rfl (c, k) (mem_channels c k)
  rw [hx] at h
  exact h

theorem foldl_tickVol_frame (l : List Volume) (s : State) : ∃ x, l.foldl tickVol s = { s with vols := x } := by
  refine List.foldlRecOn (motive := fun t => ∃ x, t = { s with vols := x }) l tickVol ⟨s.vols, rfl⟩ ?_
  rintro _ ⟨x, rfl⟩ v -
  exact ⟨_, rfl⟩

theorem tickVols_eq (s : State) : ∃ x, Volume.all.foldl tickVol s = { s with vols := x }
    ∧ ∀ v, x.get v = (s.vol v).stepTick := by
  obtain ⟨x, hx⟩ := foldl_tickVol_frame Volume.all s
  refine ⟨x, hx, fun v => ?_⟩
  have h := foldl_reading_of_mem (f := tickVol) (get := State.vol) (P := fun _ => True) (upd := fun _ => Vol.stepTick)
    (fun _ _ _ => trivial) (fun t v _ => State.vol_modVol_self t v _) (fun t v w ne => State.vol_modVol_ne t v w _ ne)
    Volume.all nodup_volumes s trivial v v.mem_all
  rw [hx] at h
  exact h

theorem tickChamber_eq (s : State) (c : Chamber) :
    tickChamber s c = (s.setReu c (s.reuTick c)).setDetector c (s.detector c).tick := by
  unfold tickChamber State.reuTick
  dsimp only
  split
  · rfl
  · simp [State.setReu, State.reuOf, State.modDetector]

theorem foldl_tickChamber_frame (l : List Chamber) (s : State) :
    ∃ r d, l.foldl tickChamber s = { s with reu := r, pec := { s.pec with detectors := d } } := by
  refine List.foldlRecOn (motive := fun t => ∃ r d, t = { s with reu := r, pec := { s.pec with detectors := d } })
    l tickChamber ⟨s.reu, s.pec.detectors, rfl⟩ ?_
  rintro _ ⟨r, d, rfl⟩ c -
  exact ⟨_, _, tickChamber_eq _ c⟩

theorem tickChambers_eq (s : State) :
    ∃ r d, Chamber.all.foldl tickChamber s = { s with reu := r, pec := { s.pec with detectors := d } }
      ∧ (∀ c, r.get c = s.reuTick c) ∧ ∀ c, d.get c = (s.detector c).tick := by
  obtain ⟨r, d, hx⟩ := foldl_tickChamber_frame Chamber.all s
  have hr := fun c => foldl_reading_of_mem (f := tickChamber) (get := State.reuOf)
    (P := fun t => t.vols = s.vols ∧ t.flu = s.flu)
    (upd := fun c u => ({ s with reu := s.reu.set c u } : State).reuTick c)
    (fun t c ht => by rw [tickChamber_eq]; exact ht)
    (fun t c ⟨hv, hf⟩ => by
      rw [tickChamber_eq]
      simp [State.reuTick, State.vol, State.fn, State.reuOf, State.setReu, State.setDetector, hv, hf])
    (fun t c d ne => by rw [tickChamber_eq]; simp [ne])
    Chamber.all nodup_chambers s ⟨rfl, rfl⟩ c c.mem_all
  have hd := fun c => foldl_reading_of_mem (f := tickChamber) (get := State.detector) (P := fun _ => True)
    (upd := fun _ => Detector.tick) (fun _ _ _ => trivial)
    (fun t c _ => by rw [tickChamber_eq, State.detector_setDetector_self])
    (fun t c d ne => by rw [tickChamber_eq]; simp [ne])
    Chamber.all nodup_chambers s trivial c c.mem_all
  rw [hx] at hr hd
  refine ⟨r, d, hx, fun c => (hr c).trans ?_, hd⟩
  simp [State.reuOf]

/-- A ramp step changes its generator and, by its post, the device bus (R116, R118). -/
theorem rampTick_eq (s : State) (ck : Chamber × Chan) :
    ∃ b, rampTick s ck = { s with fru := s.fru.setK ck.1 ck.2 (s.gen ck.1 ck.2).rampTick, dbc := b }
      ∧ PlacesOnly s (rampTick s ck) := by
  unfold rampTick Generator.rampTick
  dsimp only
  split
  · exact ⟨s.dbc, by simp [State.gen], PlacesOnly.refl s⟩
  split
  · obtain ⟨b, hb⟩ := postWrite_dbc (.mfc ck.1 ck.2)
      (.flow ((s.setGen ck.1 ck.2 (s.gen ck.1 ck.2).step).gen ck.1 ck.2).posted)
      ((s.setGen ck.1 ck.2 (s.gen ck.1 ck.2).step).gen ck.1 ck.2).cls (s.setGen ck.1 ck.2 (s.gen ck.1 ck.2).step)
    exact ⟨b, hb, postWrite_placesOnly _ _ _ _⟩
  · exact ⟨s.dbc, rfl, PlacesOnly.refl s⟩

theorem rampTick_gen_self (s : State) (ck : Chamber × Chan) :
    (rampTick s ck).gen ck.1 ck.2 = (s.gen ck.1 ck.2).rampTick := by
  obtain ⟨b, hb, -⟩ := rampTick_eq s ck
  rw [hb]
  exact Per4.getK_setK_self _ _ _ _

theorem rampTick_gen_ne (s : State) (ck dj : Chamber × Chan) (ne : dj ≠ ck) :
    (rampTick s ck).gen dj.1 dj.2 = s.gen dj.1 dj.2 := by
  obtain ⟨b, hb, -⟩ := rampTick_eq s ck
  rw [hb]
  exact Per4.getK_setK_ne _ _ _ _ _ _ ne

theorem foldl_rampTick_frame (l : List (Chamber × Chan)) (s : State) :
    (∃ f b, l.foldl rampTick s = { s with fru := f, dbc := b }) ∧ PlacesOnly s (l.foldl rampTick s) := by
  refine List.foldlRecOn (motive := fun t => (∃ f b, t = { s with fru := f, dbc := b }) ∧ PlacesOnly s t)
    l rampTick ⟨⟨s.fru, s.dbc, rfl⟩, PlacesOnly.refl s⟩ ?_
  rintro _ ⟨⟨f, b, rfl⟩, places⟩ ck -
  obtain ⟨b', hb, step⟩ := rampTick_eq { s with fru := f, dbc := b } ck
  exact ⟨⟨_, b', hb⟩, places.trans step⟩

theorem rampTicks_eq (s : State) : ∃ f b, channels.foldl rampTick s = { s with fru := f, dbc := b }
    ∧ (∀ c k, f.getK c k = (s.gen c k).rampTick) ∧ PlacesOnly s (channels.foldl rampTick s) := by
  obtain ⟨⟨f, b, hx⟩, places⟩ := foldl_rampTick_frame channels s
  refine ⟨f, b, hx, fun c k => ?_, places⟩
  have h := foldl_reading_of_mem (f := rampTick) (get := fun t ck => t.gen ck.1 ck.2) (P := fun _ => True)
    (upd := fun _ => Generator.rampTick) (fun _ _ _ => trivial) (fun t ck _ => rampTick_gen_self t ck)
    (fun t ck dj ne => rampTick_gen_ne t ck dj ne) channels nodup_channels s trivial (c, k) (mem_channels c k)
  rw [hx] at h
  exact h

/-! ## The step tick -/

/-- The sequencer's tick keeps what the REU's tick looks at. -/
theorem Vol.stepTick_state_phase (x : Vol) : x.stepTick.state = x.state ∧ x.stepTick.phase = x.phase := by
  unfold Vol.stepTick
  split
  · exact ⟨rfl, rfl⟩
  · exact ⟨rfl, rfl⟩
  · split <;> exact ⟨rfl, rfl⟩
  · exact ⟨rfl, rfl⟩

/-- A chamber's REU ticks alike before and after the tick of its sequencer. -/
theorem State.reuTick_after_stepTick {s t : State} {c : Chamber} (hv : t.vol (.ch c) = (s.vol (.ch c)).stepTick)
    (hr : t.reuOf c = s.reuOf c) (hf : t.fn (.plasma c) = s.fn (.plasma c)) : t.reuTick c = s.reuTick c := by
  obtain ⟨hs, hp⟩ := Vol.stepTick_state_phase (s.vol (.ch c))
  simp only [State.reuTick, hv, hs, hp, hr, hf]

/-- Everything that a step tick changes before what has fallen due is taken, each count by the state before the tick. -/
theorem stepTickEffect_eq (s : State) : ∃ vols detectors fru dbc reu,
    stepTickEffect s = { s with
      vols := vols
      pec := { s.pec with detectors := detectors, blanking := blankingEnds (s.pec.blanking.map (· + 1)) }
      fru := fru
      dbc := dbc
      reu := reu }
    ∧ (∀ v, vols.get v = (s.vol v).stepTick) ∧ (∀ c, detectors.get c = (s.detector c).tick)
    ∧ (∀ c k, fru.getK c k = (s.gen c k).rampTick) ∧ (∀ c, reu.get c = s.reuTick c)
    ∧ (∀ c k, dbc.checks.getK c k = (s.check c k).settleTick (s.items.settleTime.get c))
    ∧ ∀ d, dbc.devices.get d = { s.device d with pending := (dbc.devices.get d).pending } := by
  obtain ⟨checks, e1, hchecks⟩ := tickChecks_eq (tickBlanking s)
  obtain ⟨vols, e2, hvols⟩ := tickVols_eq
    { s with pec := (tickBlanking s).pec, dbc := { s.dbc with checks := checks } }
  obtain ⟨reu, detectors, e3, hreu, hdetectors⟩ := tickChambers_eq
    { s with vols := vols, pec := (tickBlanking s).pec, dbc := { s.dbc with checks := checks } }
  obtain ⟨fru, dbc, e4, hfru, places⟩ := rampTicks_eq
    { s with
      vols := vols
      pec := { (tickBlanking s).pec with detectors := detectors }
      dbc := { s.dbc with checks := checks }
      reu := reu }
  rw [e4] at places
  obtain ⟨same, devices⟩ := places
  refine ⟨vols, detectors, fru, dbc, reu, ?_, hvols, hdetectors, hfru,
    fun c => (hreu c).trans (State.reuTick_after_stepTick (hvols (.ch c)) rfl rfl), fun c k => ?_, devices⟩
  · unfold stepTickEffect
    dsimp only
    rw [e1]
    exact ((congrArg (fun t => channels.foldl rampTick (Chamber.all.foldl tickChamber t)) e2).trans
      (congrArg (channels.foldl rampTick) e3)).trans e4
  · exact (congrArg (fun x => x.getK c k) same).trans (hchecks c k)

/-! ## Each count of a tick, written out -/

theorem Vol.stepTick_eq (x : Vol) : x.stepTick = { x with
    dwellCount := x.dwellCount + (if x.state = .running ∧ x.phase = .dwell then 1 else 0)
    overhangCount := x.overhangCount + (if x.state = .running ∧ x.phase = .overhang then 1 else 0)
    settleCount := x.settleCount
      + (if x.state = .running ∧ x.phase = .settle ∧ x.window ≠ .outside then 1 else 0) } := by
  unfold Vol.stepTick
  split
  case h_1 hs hp => simp [hs, hp]
  case h_2 hs hp => simp [hs, hp]
  case h_3 hs hp =>
    cases x
    split <;> simp_all
  case h_4 hd ho hw =>
    have noDwell : ¬(x.state = .running ∧ x.phase = .dwell) := fun ⟨hs, hp⟩ => hd hs hp
    have noOverhang : ¬(x.state = .running ∧ x.phase = .overhang) := fun ⟨hs, hp⟩ => ho hs hp
    have noSettle : ¬(x.state = .running ∧ x.phase = .settle ∧ x.window ≠ .outside) := fun ⟨hs, hp, _⟩ => hw hs hp
    simp only [if_neg noDwell, if_neg noOverhang, if_neg noSettle, Nat.add_zero]

theorem Reu.stepTick_eq (u : Reu) (p : Phase) (plasma : Bool) : u.stepTick p plasma = { u with
    strikeTimer := u.strikeTimer + (if p = .ignite ∨ p = .confirm then 1 else 0)
    confirmCount := u.confirmCount + (if p = .confirm then 1 else 0)
    pauseCount := u.pauseCount + (if p = .retryPause then 1 else 0)
    gated := u.gated + (if p = .etch ∧ plasma = true then 1 else 0)
    dropout := u.dropout + (if p = .etch ∧ plasma = false then 1 else 0) } := by
  cases p with
  | etch => cases plasma <;> simp [Reu.stepTick]
  | _ => simp [Reu.stepTick]

/-- The blanking count at a step tick ends at its 100th (R13). -/
theorem blankingEnds_succ (n : Nat) : blankingEnds (some (n + 1)) = if n < 99 then some (n + 1) else none := by
  by_cases h : n < 99
  · rw [if_pos h, blankingEnds, if_neg (by omega)]
  · rw [if_neg h, blankingEnds, if_pos (by omega)]

theorem Vol.secondTick_eq (x : Vol) (waits : Bool) : x.secondTick waits = { x with
    admissionCount := x.admissionCount + (if x.state = .running ∧ x.current ≠ none ∧ waits = true then 1 else 0)
    limitCount := x.limitCount
      + (if x.state = .running ∧ x.current.map (·.kind.hasLimit) = some true ∧ waits = false then 1 else 0) } := by
  unfold Vol.secondTick
  split
  case h_1 r hs hc =>
    cases x
    cases waits <;> cases hl : r.kind.hasLimit <;> simp_all
  case h_2 h =>
    by_cases hs : x.state = .running
    · have hc : x.current = none := Option.eq_none_iff_forall_ne_some.2 fun r hr => h r hs hr
      cases x
      simp_all
    · simp [hs]

/-! ## The second tick -/

/-- A volume is in its roughing stage when it is RUNNING in ROUGH or PUMPBACK and its grant's valve is open (R86). -/
theorem roughing_iff (s : State) (v : Volume) : roughing s v = true ↔
    (s.vol v).state = .running ∧ ((s.vol v).phase = .rough ∨ (s.vol v).phase = .pumpback)
      ∧ ∃ g, s.grant? v = some g ∧ g.valveOpen = true := by
  unfold roughing
  cases s.grant? v <;> simp [and_assoc]

/-- A volume after a second tick, with the waits and the grants of `s` (R50, R51, R86). -/
def State.secondTickVol (s : State) (v : Volume) : Vol :=
  let x := (s.vol v).secondTick (s.waits v)
  { x with stallCount := x.stallCount + (if roughing s v = true ∧ x.limitCount < x.effLimit then 1 else 0) }

@[simp] theorem State.setVol_setVol (s : State) (v : Volume) (x y : Vol) : (s.setVol v x).setVol v y = s.setVol v y := by
  rcases v with c | _ | l
  · cases c <;> rfl
  · rfl
  · cases l <;> rfl

/-- The second tick of a volume's counts keeps the volume in its roughing stage or out of it. -/
theorem roughing_modVol_secondTick (s : State) (v : Volume) (w : Bool) :
    roughing (s.modVol v fun x => x.secondTick w) v = roughing s v := by
  unfold roughing
  rw [State.vol_modVol_self, State.modVol_grant_opt, Vol.secondTick_eq]

theorem tickSecond_eq (s : State) (v : Volume) : tickSecond s v = s.setVol v (s.secondTickVol v) := by
  unfold tickSecond tickStall State.secondTickVol
  rw [roughing_modVol_secondTick, State.vol_modVol_self]
  simp only [Bool.and_eq_true, decide_eq_true_eq]
  by_cases h : roughing s v = true
      ∧ ((s.vol v).secondTick (s.waits v)).limitCount < ((s.vol v).secondTick (s.waits v)).effLimit
  · simp [h, State.modVol]
  · simp only [if_neg h]
    rfl

theorem foldl_tickSecond_frame (l : List Volume) (s : State) : ∃ x, l.foldl tickSecond s = { s with vols := x } := by
  refine List.foldlRecOn (motive := fun t => ∃ x, t = { s with vols := x }) l tickSecond ⟨s.vols, rfl⟩ ?_
  rintro _ ⟨x, rfl⟩ v -
  exact ⟨_, tickSecond_eq _ v⟩

/-- A volume's second tick looks at no other volume. -/
theorem State.secondTickVol_of_vol_eq {s t : State} {v : Volume} (hv : t.vol v = s.vol v) (hr : t.rma = s.rma)
    (hg : t.gat = s.gat) : t.secondTickVol v = s.secondTickVol v := by
  have grant : t.grant? v = s.grant? v := by rw [State.grant?, hr, State.grant?]
  have rough : roughing t v = roughing s v := by rw [roughing, hv, grant, roughing]
  have waits : t.waits v = s.waits v := by
    simp only [State.waits, State.inRoughQueue, State.inGasQueue, hr, hg]
  rw [State.secondTickVol, hv, rough, waits, State.secondTickVol]

/-- Everything that a second tick changes before what has fallen due is taken. -/
theorem secondTickEffect_eq (s : State) :
    ∃ vols, secondTickEffect s = { s with vols := vols } ∧ ∀ v, vols.get v = s.secondTickVol v := by
  obtain ⟨x, hx⟩ := foldl_tickSecond_frame Volume.all s
  refine ⟨x, hx, fun v => ?_⟩
  have h := foldl_reading_of_mem (f := tickSecond) (get := State.vol) (P := fun t => t.rma = s.rma ∧ t.gat = s.gat)
    (upd := fun v y => (s.setVol v y).secondTickVol v)
    (fun t v ht => by rw [tickSecond_eq]; exact ht)
    (fun t v ⟨hr, hg⟩ => by
      rw [tickSecond_eq, State.vol_setVol_self]
      exact State.secondTickVol_of_vol_eq (State.vol_setVol_self s v _).symm hr hg)
    (fun t v w ne => by rw [tickSecond_eq, State.vol_setVol_ne _ _ _ _ ne])
    Volume.all nodup_volumes s ⟨rfl, rfl⟩ v v.mem_all
  rw [hx, State.setVol_vol_self] at h
  exact h

theorem State.secondTickVol_eq (s : State) (v : Volume) : s.secondTickVol v = { s.vol v with
    admissionCount := (s.vol v).admissionCount
      + (if (s.vol v).state = .running ∧ (s.vol v).current ≠ none ∧ s.waits v = true then 1 else 0)
    limitCount := (s.vol v).limitCount
      + (if (s.vol v).state = .running ∧ (s.vol v).current.map (·.kind.hasLimit) = some true ∧ s.waits v = false
         then 1 else 0)
    stallCount := (s.vol v).stallCount
      + (if roughing s v = true ∧ (s.secondTickVol v).limitCount < (s.vol v).effLimit then 1 else 0) } := by
  have limit : (s.secondTickVol v).limitCount = ((s.vol v).secondTick (s.waits v)).limitCount := rfl
  rw [limit, State.secondTickVol, Vol.secondTick_eq]

/-! ## The statement about both ticks -/

/-- Settles O12: each count is the fold of its own tick over the things that have one; `finish` stays inside the frame. -/
theorem ticksAdvanceCounts : Obligations.TicksAdvanceCounts := by
  refine ⟨fun s => ?_, fun s => ?_, roughing_iff⟩
  · obtain ⟨vols, detectors, fru, dbc, reu, e, hvols, hdetectors, hfru, hreu, hchecks, hdevices⟩ := stepTickEffect_eq s
    refine ⟨stepTickEffect s, rfl, finish_eventFrame _, ?_⟩
    rw [e]
    refine ⟨fun v => (hvols v).trans (Vol.stepTick_eq _), fun c run => ?_, fun c stop => ?_, hdetectors, fun n hn => ?_,
      fun hn => ?_, hfru, hchecks, rfl, rfl, rfl, fun d => ?_, rfl⟩
    · exact ((hreu c).trans (if_pos run)).trans (Reu.stepTick_eq _ _ _)
    · exact (hreu c).trans (if_neg stop)
    · dsimp only
      rw [hn]
      exact blankingEnds_succ n
    · dsimp only
      rw [hn]
      rfl
    · exact ⟨(congrArg DeviceRow.failed (hdevices d)).trans rfl, (congrArg DeviceRow.written (hdevices d)).trans rfl,
        (congrArg DeviceRow.reading (hdevices d)).trans rfl⟩
  · obtain ⟨vols, e, hvols⟩ := secondTickEffect_eq s
    refine ⟨secondTickEffect s, rfl, finish_eventFrame _, ?_⟩
    rw [e]
    refine ⟨fun v => ?_, rfl⟩
    have hv : ({ s with vols := vols } : State).vol v = s.secondTickVol v := hvols v
    rw [hv]
    exact s.secondTickVol_eq v

/-! ## A step -/

/-- Settles O1: `step` takes the front of the queue by its definition. -/
theorem frontCommandRuns : Obligations.FrontCommandRuns := by
  intro c rest s h
  unfold step
  rw [h]

/-! ## The sample tick of an idle step -/

theorem step_of_idle {s : State} (h : s.pending = []) : step s = .next (sampleTick s) := by
  unfold step
  rw [h]

/-- The part of a sample tick before its own counts: the time base, with the step tick of every 10th (R2). -/
def baseTick (s : State) : State :=
  if s.base.samples < 9 then { s with base := { s.base with samples := s.base.samples + 1 } }
  else cascadeStep { s with base := { s.base with samples := 0 } }

theorem sampleTick_eq (s : State) : sampleTick s = Link.all.foldl tickSilence (tickTransaction (baseTick s)) := rfl

theorem baseTick_below {s : State} (h : s.base.samples < 9) :
    baseTick s = { s with base := ⟨s.base.samples + 1, s.base.steps⟩ } := if_pos h

theorem baseTick_tenth {s : State} (h : 9 ≤ s.base.samples) :
    baseTick s = cascadeStep { s with base := ⟨0, s.base.steps⟩ } :=
  if_neg (Nat.not_lt.2 h)

/-- Notices are posted alike whatever the time base reads. -/
theorem flush_withBase (s : State) (b : TimeBase) : flush { s with base := b } = { flush s with base := b } := by
  have posts : ∀ (n : Notice) (l : List Link) (t : State),
      l.foldl (postTo n) { t with base := b } = { l.foldl (postTo n) t with base := b } := by
    intro n l
    induction l with
    | nil => exact fun _ => rfl
    | cons m l ih => exact fun t => ih (postTo n t m)
  have deliveries : ∀ (l : List Posting) (t : State),
      l.foldl deliver { t with base := b } = { l.foldl deliver t with base := b } := by
    intro l
    induction l with
    | nil => exact fun _ => rfl
    | cons p l ih =>
      intro t
      rw [List.foldl_cons, deliver, posts, List.foldl_cons, deliver]
      exact ih _
  exact deliveries (inOrder s.outbox) { s with outbox := [] }

theorem cascadeStep_below {s : State} (h : s.base.steps < 99) :
    cascadeStep s = { finish (stepTickEffect s) with base := ⟨s.base.samples, s.base.steps + 1⟩ } := by
  unfold cascadeStep
  dsimp only
  rw [if_pos h, flush_withBase]
  rfl

theorem cascadeStep_hundredth {s : State} (h : 99 ≤ s.base.steps) :
    cascadeStep s
      = finish (secondTickEffect { settle settleBound (stepTickEffect s) with base := ⟨s.base.samples, 0⟩ }) := by
  unfold cascadeStep
  dsimp only
  rw [if_neg (Nat.not_lt.2 h)]

theorem tickTransaction_free {s : State} (h : s.dbc.inFlight = none) : tickTransaction s = s := by
  unfold tickTransaction
  rw [h]

/-- The state with one more sample tick counted on the transaction in flight `t` (R120). -/
def countedTransaction (s : State) (t : Transaction) : State :=
  { s with dbc := { s.dbc with inFlight := some { t with count := t.count + 1 } } }

theorem tickTransaction_flying {s : State} {t : Transaction} (h : s.dbc.inFlight = some t) :
    tickTransaction s = if s.items.responseTimeout ≤ (t.count : Int) + 1 then endUnanswered (countedTransaction s t)
      else countedTransaction s t := by
  unfold tickTransaction
  rw [h]
  rfl

theorem tickSilence_silenceTick (l : Link) (s : State) : SilenceTick l s (tickSilence s l) := by
  refine ⟨fun h => ?_, fun n h => ⟨fun below => ?_, fun reached => ?_⟩⟩
  · unfold tickSilence
    rw [h]
  · unfold tickSilence
    rw [h]
    exact if_neg (Int.not_le.2 below)
  · have running : ((s.setPort l { s.port l with silence := some (n + 1) }).port l).silence.isSome = true := by
      rw [State.port_setPort_self]
      rfl
    have expired : tickSilence s l = linkExpiry l (s.setPort l { s.port l with silence := some (n + 1) }) := by
      unfold tickSilence
      rw [h]
      exact if_pos reached
    rw [expired]
    exact congrArg _ (if_pos running)

/-- A sample tick of a silence timer that stays below its end (R161): a stopped one stays stopped. -/
def Port.countSilence (p : Port) : Port := { p with silence := p.silence.map (· + 1) }

/-- The silence timer of one link, below its end. -/
def countSilence (s : State) (l : Link) : State := s.modPort l Port.countSilence

/-- A link's silence timer has more than one tick to go to its timeout, or is stopped. -/
def SilenceBelow (s : State) (l : Link) : Prop :=
  ∀ n, (s.port l).silence = some n → (n : Int) + 1 < s.items.linkTimeout.get l

theorem tickSilence_below {s : State} {l : Link} (h : SilenceBelow s l) : tickSilence s l = countSilence s l := by
  obtain ⟨stopped, running⟩ := tickSilence_silenceTick l s
  unfold countSilence State.modPort Port.countSilence
  cases hn : (s.port l).silence with
  | none =>
    rw [stopped hn, Option.map_none, ← hn]
    exact (s.setPort_port_self l).symm
  | some n => exact (running n hn).1 (h n hn)

theorem foldl_tickSilence_below (l : List Link) (distinct : l.Nodup) (s : State) (h : ∀ m ∈ l, SilenceBelow s m) :
    l.foldl tickSilence s = l.foldl countSilence s := by
  induction l generalizing s with
  | nil => rfl
  | cons m l ih =>
    obtain ⟨hm, hl⟩ := List.nodup_cons.1 distinct
    obtain ⟨first, others⟩ := List.forall_mem_cons.1 h
    rw [List.foldl_cons, List.foldl_cons, tickSilence_below first]
    refine ih hl _ fun k hk n hn => ?_
    have ne : k ≠ m := fun e => hm (e ▸ hk)
    rw [countSilence, State.port_modPort_ne s m k _ ne] at hn
    exact others k hk n hn

theorem foldl_countSilence_frame (l : List Link) (s : State) : ∃ x, l.foldl countSilence s = { s with ports := x } := by
  refine List.foldlRecOn (motive := fun t => ∃ x, t = { s with ports := x }) l countSilence ⟨s.ports, rfl⟩ ?_
  rintro _ ⟨x, rfl⟩ m -
  exact ⟨_, rfl⟩

theorem nodup_links : Link.all.Nodup := by decide

/-- While every silence timer stays below its end, the links' part of a sample tick counts on the timers and nothing else. -/
theorem tickSilences_below {s : State} (h : ∀ l, SilenceBelow s l) :
    ∃ x, Link.all.foldl tickSilence s = { s with ports := x } ∧ ∀ l, x.get l = (s.port l).countSilence := by
  obtain ⟨x, hx⟩ := foldl_countSilence_frame Link.all s
  refine ⟨x, (foldl_tickSilence_below Link.all nodup_links s fun l _ => h l).trans hx, fun l => ?_⟩
  have counted := foldl_reading_of_mem (f := countSilence) (get := State.port) (P := fun _ => True)
    (upd := fun _ => Port.countSilence) (fun _ _ _ => trivial) (fun t l _ => State.port_modPort_self t l _)
    (fun t l m ne => State.port_modPort_ne t l m _ ne) Link.all nodup_links s trivial l l.mem_all
  rw [hx] at counted
  exact counted

/-- Settles O2: a sample tick is the time base's tick, then the transaction's, then that of each link in turn. -/
theorem idleStepIsSampleTick : Obligations.IdleStepIsSampleTick := by
  refine ⟨fun s idle early free below => ?_, fun s idle => ?_⟩
  · have noTransaction := tickTransaction_free (s := { s with base := ⟨s.base.samples + 1, s.base.steps⟩ }) free
    obtain ⟨x, hx, hports⟩ := tickSilences_below (s := { s with base := ⟨s.base.samples + 1, s.base.steps⟩ }) below
    refine ⟨{ s with base := ⟨s.base.samples + 1, s.base.steps⟩, ports := x }, ?_, rfl, hports, rfl⟩
    rw [step_of_idle idle, sampleTick_eq, baseTick_below early, noTransaction, hx]
  · refine ⟨baseTick s, tickTransaction (baseTick s), _, _, _, _, sampleTick s, step_of_idle idle, baseTick_below,
      fun tenth below => ?_, fun tenth hundredth => ?_, tickTransaction_free,
      fun t flying => ⟨fun below => ?_, fun reached => ?_⟩, tickSilence_silenceTick _ _, tickSilence_silenceTick _ _,
      tickSilence_silenceTick _ _, tickSilence_silenceTick _ _, tickSilence_silenceTick _ _⟩
    · exact ⟨_, rfl, (baseTick_tenth tenth).trans (cascadeStep_below below)⟩
    · exact ⟨rfl, congrArg Host.Outcome.next ((baseTick_tenth tenth).trans (cascadeStep_hundredth hundredth)).symm⟩
    · exact (tickTransaction_flying flying).trans (if_neg (Int.not_le.2 below))
    · exact congrArg Host.Outcome.next ((tickTransaction_flying flying).trans (if_pos reached)).symm

end Sys2Proof.Machine
end

section
/-! Proofs of the sample statements: the rows of one field, the pressure code, the endpoint detectors. -/

namespace Sys2Proof.Machine

open Sys2Proof

/-! ## Rows whose whole effect is one field -/

theorem endBlanking_counting {s : State} {k : Nat} (h : s.pec.blanking = some k) :
    endBlanking s = { s with pec := { s.pec with blanking := if 100 ≤ k then none else some k } } := by
  unfold endBlanking
  rw [h]
  rfl

theorem endBlanking_unblanked {s : State} (h : s.pec.blanking = none) : endBlanking s = s := by
  unfold endBlanking
  rw [h, blankingEnds, ← h]

/-- A discarded frame counts on its port alone (R158). -/
theorem execFrameDiscard_eq (l : Link) (s : State) : exec (.frameDiscard l) s = .next (s.setPort l
    { s.port l with
      assembling := false
      frameErrors := if (s.port l).frameErrors < 65535 then (s.port l).frameErrors + 1 else 65535 }) := rfl

theorem execFrameGapTimeout_assembling {l : Link} {s : State} (h : (s.port l).assembling = true) :
    exec (.frameGapTimeout l) s = exec (.frameDiscard l) s :=
  congrArg Host.Outcome.next (if_pos h)

theorem execFrameGapTimeout_hunting {l : Link} {s : State} (h : (s.port l).assembling = false) :
    exec (.frameGapTimeout l) s = .next s :=
  congrArg Host.Outcome.next (if_neg (Bool.eq_false_iff.1 h))

/-- Settles O19: each row by the definition of its command, the guarded ones by their guard. -/
theorem simpleRowsExact : Obligations.SimpleRowsExact := by
  refine ⟨fun _ _ _ => rfl, fun k s h => ?_, fun s h => ?_, fun _ => rfl, execFrameDiscard_eq, fun l s h => ?_,
    fun l s h => execFrameGapTimeout_hunting h, fun _ _ => rfl⟩
  · exact congrArg Host.Outcome.next (endBlanking_counting h)
  · exact congrArg Host.Outcome.next (endBlanking_unblanked h)
  · rw [execFrameGapTimeout_assembling h, execFrameDiscard_eq]

/-! ## The pressure code (R7) -/

/-- The exact floor of a quotient by 4095, toward minus infinity. -/
theorem fdiv_4095_bounds (x : Int) : 4095 * x.fdiv 4095 ≤ x ∧ x < 4095 * x.fdiv 4095 + 4095 := by
  rw [Int.fdiv_eq_ediv_of_nonneg x (by decide)]
  omega

/-- A clamped value lies in its range and is the value itself inside it; at an end the value lies at or beyond it. -/
theorem clampInt_cases {lo hi : Int} (h : lo ≤ hi) (x : Int) :
    (clampInt lo hi x = lo ∧ x ≤ lo) ∨ (clampInt lo hi x = hi ∧ hi ≤ x)
      ∨ (clampInt lo hi x = x ∧ lo < x ∧ x < hi) := by
  unfold clampInt
  split <;> [skip; split] <;> omega

/-- Settles O16: the clamp of R7 by its three cases, over the exact floor. -/
theorem pressureCodeExact : Obligations.PressureCodeExact := by
  intro lo hi n
  obtain ⟨below, above⟩ := fdiv_4095_bounds (n * (hi - lo))
  unfold pressureCode
  rcases clampInt_cases (lo := -400) (hi := 600) (by decide) (lo + Int.fdiv (n * (hi - lo)) 4095) with
    ⟨e, h⟩ | ⟨e, h⟩ | ⟨e, h, k⟩ <;> rw [e] <;> omega

/-! ## The endpoint detectors (R143, R144) -/

theorem examineSample_disarmed {c : Chamber} {s : State} (n : Nat) (h : (s.detector c).armed = false) :
    examineSample c n s = s := by
  unfold examineSample
  split
  · split
    · simp [h]
    · rfl
  · rfl

theorem inPhase_eq_some {s : State} {v : Volume} {f : Phase} {r : StepRecord} :
    inPhase s v f = some r ↔ (s.vol v).state = .running ∧ (s.vol v).phase = f ∧ (s.vol v).current = some r := by
  unfold inPhase
  split <;> simp_all

/-- An armed detector in its ETCH phase examines a sample once blanking and minimum time are over (R143). -/
theorem examineSample_armed {c : Chamber} {s : State} {r : StepRecord} {p : Endpoint} (n : Nat)
    (hr : inPhase s (.ch c) .etch = some r) (hp : r.endpoint = some p) (armed : (s.detector c).armed = true) :
    examineSample c n s = if (s.detector c).blanking < p.blanking ∨ (s.reuOf c).gated < p.minTime then s
      else judgeSample c r p n s := by
  unfold examineSample
  simp only [hr, hp, armed, Bool.not_true, Bool.false_or, Bool.or_eq_true, decide_eq_true_eq]

theorem judgeSample_counting {c : Chamber} {r : StepRecord} {p : Endpoint} {n : Nat} {s : State}
    (h : countsSample p n = true) :
    judgeSample c r p n s =
      if p.confirm ≤ (s.detector c).confirm + 1 then
        confirmEndpoint c r p (s.setDetector c { s.detector c with confirm := (s.detector c).confirm + 1 })
      else s.setDetector c { s.detector c with confirm := (s.detector c).confirm + 1 } := by
  simp [judgeSample, h, State.modDetector]

theorem judgeSample_resetting {c : Chamber} {r : StepRecord} {p : Endpoint} {n : Nat} {s : State}
    (h : countsSample p n = false) (k : resetsSample p n = true) :
    judgeSample c r p n s = s.setDetector c { s.detector c with confirm := 0 } := by
  simp [judgeSample, h, k, State.modDetector]

theorem judgeSample_holding {c : Chamber} {r : StepRecord} {p : Endpoint} {n : Nat} {s : State}
    (h : countsSample p n = false) (k : resetsSample p n = false) : judgeSample c r p n s = s := by
  simp [judgeSample, h, k]

/-- The confirmation changes the chamber's detector and end gated time alone (R144). -/
theorem confirmEndpoint_eq (c : Chamber) (r : StepRecord) (p : Endpoint) (s : State) :
    confirmEndpoint c r p s
      = (s.setDetector c { s.detector c with armed := false, endpointAt := some (s.reuOf c).gated }).setReu c
          { s.reuOf c with endGated := min ((s.reuOf c).gated + (s.reuOf c).gated * p.overEtch / 100) r.duration } := rfl

theorem countsSample_rise {p : Endpoint} (h : p.direction = .rise) (n : Nat) :
    (countsSample p n = true ↔ p.threshold ≤ n) ∧ (resetsSample p n = true ↔ n + p.hysteresis < p.threshold) := by
  simp [countsSample, resetsSample, h]

theorem countsSample_fall {p : Endpoint} (h : p.direction = .fall) (n : Nat) :
    (countsSample p n = true ↔ n ≤ p.threshold) ∧ (resetsSample p n = true ↔ p.threshold + p.hysteresis < n) := by
  simp [countsSample, resetsSample, h]

theorem judgeSample_eventFrame (c : Chamber) (r : StepRecord) (p : Endpoint) (n : Nat) (s : State) :
    EventFrame s (judgeSample c r p n s) := by
  cases h : countsSample p n with
  | true =>
    rw [judgeSample_counting h]
    split <;> exact EventFrame.refl s
  | false =>
    cases k : resetsSample p n with
    | true => rw [judgeSample_resetting h k]; exact EventFrame.refl s
    | false => rw [judgeSample_holding h k]; exact EventFrame.refl s

theorem examineSample_eventFrame (c : Chamber) (n : Nat) (s : State) : EventFrame s (examineSample c n s) := by
  unfold examineSample
  split
  · split
    · split
      · exact EventFrame.refl s
      · exact judgeSample_eventFrame c _ _ n s
    · exact EventFrame.refl s
  · exact EventFrame.refl s

/-- Settles O18: the sample is held in the frame of its event; an armed detector's sample by the cases of R143. -/
theorem endpointDetection : Obligations.EndpointDetection := by
  refine ⟨fun c n s => ⟨rfl, _, rfl, ?_⟩, fun c n s h => examineSample_disarmed n h,
    fun c n s r p hs hp hr he armed => ⟨?_, fun blanked early => ⟨?_, ?_, ?_, ?_⟩, (countsSample_rise · n),
      (countsSample_fall · n)⟩⟩
  · obtain ⟨cfg, flu, tiu, enable, -, gauges, emission, aux, -, base, pending, -⟩ :=
      (examineSample_eventFrame c n { s with pec := { s.pec with emission := s.pec.emission.set c (some n) } }).trans
        (finish_eventFrame _)
    exact ⟨emission, gauges, aux, cfg, flu, tiu, enable, base, pending⟩
  · intro waits
    rw [examineSample_armed n (inPhase_eq_some.2 ⟨hs, hp, hr⟩) he armed, if_pos waits]
  all_goals
    rw [examineSample_armed n (inPhase_eq_some.2 ⟨hs, hp, hr⟩) he armed, if_neg (by omega)]
  · intro counts below
    rw [judgeSample_counting counts, if_neg (by omega)]
  · intro counts reached
    rw [judgeSample_counting counts, if_pos reached, confirmEndpoint_eq]
    refine ⟨by simp, by simp, fun d ne => by simp [ne], rfl⟩
  · exact judgeSample_resetting
  · exact judgeSample_holding

end Sys2Proof.Machine
end

section
/-! Proofs of the reads: what a read answers, and the fields of each answer. -/

namespace Sys2Proof.Machine

open Sys2Proof

/-! ## A read answers on the state that heard the frame -/

/-- A request that changes no state answers on the state that heard the frame (R168). -/
theorem request_of_read {l : Link} {req : Request} {a : Answer} {s : State} (tag : Byte) (fits : req.fits = true)
    (formed : req.formed = true) (h : serve l req (hear l s) = (hear l s, a)) :
    request l tag req s = answered l tag req a (hear l s) := by
  rw [request_eq, take_of_formed l req (hear l s) fits formed, h]

theorem readCheck_range {n : Nat} {s : State} (h : Volume.ofNum n = none) : readCheck n s = .error .range := by
  simp [readCheck, h]

theorem readCheck_notFitted {n : Nat} {v : Volume} {s : State} (h : Volume.ofNum n = some v) (k : s.fitted v = false) :
    readCheck n s = .error .notFitted := by
  simp [readCheck, h, k]

theorem readCheck_ok {n : Nat} {v : Volume} {s : State} (h : Volume.ofNum n = some v) (k : s.fitted v = true) :
    readCheck n s = .ok v := by
  simp [readCheck, h, k]

theorem Volume.ofNum_outside {n : Nat} (h : n = 0 ∨ 7 < n) : Volume.ofNum n = none := by
  rcases h with rfl | h
  · rfl
  · obtain ⟨m, rfl⟩ := Nat.exists_eq_add_of_le' h
    rfl

theorem onReadVolume_eq (n p : Nat) (s : State) : onReadVolume n p s = match Volume.ofNum n with
    | none => refuse .range
    | some v => if s.fitted v then pageAnswer (volumeFields s v) p else refuse .notFitted := by
  cases h : Volume.ofNum n with
  | none => simp [onReadVolume, readCheck_range h]
  | some v => cases k : s.fitted v <;> simp [onReadVolume, readCheck_ok, readCheck_notFitted, h, k]

theorem onReadQueue_refused {n : Nat} {e : Reason} {s : State} (m p : Nat) (h : readCheck n s = .error e) :
    onReadQueue n m p s = refuse e := by
  rw [onReadQueue, h]

/-- READ QUEUE at position 0 answers the current step's record (R35). -/
theorem onReadQueue_current {l : Link} {n : Nat} {v : Volume} {s : State} (p : Nat) (hn : Volume.ofNum n = some v)
    (fitted : s.fitted v = true) : onReadQueue n 0 p (hear l s) = match (s.vol v).current with
      | some r => pageAnswer (queueFields (hear l s) v r) p
      | none => refuse .empty := by
  have checked : readCheck n (hear l s) = .ok v := readCheck_ok hn fitted
  unfold onReadQueue
  rw [checked]
  rfl

/-- READ QUEUE at a position from 1 answers the record queued there (R35). -/
theorem onReadQueue_queued {l : Link} {n m : Nat} {v : Volume} {s : State} (p : Nat) (hn : Volume.ofNum n = some v)
    (fitted : s.fitted v = true) (pos : 1 ≤ m) :
    onReadQueue n m p (hear l s) = match (s.vol v).queue[m - 1]? with
      | some r => pageAnswer (queueFields (hear l s) v r) p
      | none => refuse .range := by
  have checked : readCheck n (hear l s) = .ok v := readCheck_ok hn fitted
  unfold onReadQueue
  rw [checked]
  exact if_neg (by omega)

theorem execReadQueue_eq {n m p : Nat} {a : Answer} {l : Link} {s : State} (tag : Byte)
    (h : onReadQueue n m p (hear l s) = a) :
    exec (.readQueue l tag n m p) s = .next (answered l tag (.readQueue n m p) a (hear l s)) :=
  congrArg Host.Outcome.next (request_of_read tag rfl rfl (congrArg (Prod.mk _) h))

/-! ## Places in a queue -/

theorem placeIn_eq_zero {α : Type} (p : α → Bool) (l : List α) : placeIn p l = 0 ↔ l.any p = false := by
  induction l with
  | nil => simp [placeIn]
  | cons x l ih =>
    cases hx : p x with
    | true => simp [placeIn, hx]
    | false =>
      rw [List.any_cons, hx, Bool.false_or, ← ih]
      by_cases h : placeIn p l = 0 <;> simp [placeIn, hx, h]

/-- A place above 0 is that of the first entry asked for. -/
theorem placeIn_spec {α : Type} (p : α → Bool) (l : List α) (h : 0 < placeIn p l) :
    ∃ e, l[placeIn p l - 1]? = some e ∧ p e = true ∧ ∀ f ∈ l.take (placeIn p l - 1), p f = false := by
  induction l with
  | nil => exact absurd h (by simp [placeIn])
  | cons x l ih =>
    cases hx : p x with
    | true => exact ⟨x, by simp [placeIn, hx]⟩
    | false =>
      have pos : 0 < placeIn p l := by
        by_contra k
        simp [placeIn, hx, Nat.eq_zero_of_not_pos k] at h
      obtain ⟨n, hn⟩ := Nat.exists_eq_succ_of_ne_zero pos.ne'
      obtain ⟨e, at_place, he, before⟩ := ih pos
      have place : placeIn p (x :: l) - 1 = n + 1 := by simp [placeIn, hx, hn]
      rw [hn, Nat.succ_sub_one] at at_place before
      rw [place]
      refine ⟨e, at_place, he, fun f hf => ?_⟩
      rcases List.mem_cons.1 hf with rfl | hf
      · exact hx
      · exact before f hf

/-- The place of a value in a list of values, 0 where it is not in it. -/
theorem placeIn_beq {α : Type} [DecidableEq α] (a : α) (l : List α) :
    placeIn (fun x => x == a) l = if a ∈ l then l.idxOf a + 1 else 0 := by
  induction l with
  | nil => rfl
  | cons x l ih =>
    by_cases hx : x = a
    · subst hx
      simp [placeIn]
    · by_cases hl : a ∈ l <;> simp [placeIn, hx, Ne.symm hx, hl, ih, List.idxOf_cons_ne l hx]

/-! ## Queue entries named by a statement -/

theorem waits_iff (s : State) (v : Volume) :
    s.waits v = true ↔ v ∈ s.rma.queue ∨ ∃ c, v = .ch c ∧ ∃ e ∈ s.gat.queue, e.chamber = c := by
  have rough : s.inRoughQueue v = true ↔ v ∈ s.rma.queue := by simp [State.inRoughQueue]
  unfold State.waits
  rw [Bool.or_eq_true, rough]
  cases v with
  | ch c =>
    have gas : s.inGasQueue c = true ↔ ∃ e ∈ s.gat.queue, e.chamber = c := by simp [State.inGasQueue]
    exact or_congr_right (gas.trans ⟨fun h => ⟨c, rfl, h⟩, fun ⟨_, same, h⟩ => Volume.ch.inj same ▸ h⟩)
  | tc => simp
  | ll l => simp

/-! ## Lines (R155, R157) -/

theorem energisedLine_rfEn (s : State) (c : Chamber) :
    energisedLine s (.rfEn c) = lineEnergised s (6 * c.num) (.rfEn c) := by
  cases c <;> rfl

/-! ## The fields of the answers -/

theorem encRaw_eq : encRaw none = [1, 0, 0] ∧ ∀ n, encRaw (some n) = 0 :: enc2 n := ⟨rfl, fun _ => rfl⟩

theorem WriteClass.code_eq (k : WriteClass) : k.code = if k = .urgent then 1 else 2 := by cases k <;> rfl

theorem encGenerator_eq (g : Generator) : encGenerator g = enc4 g.posted ++ enc4 g.target ++ encB (!g.up) ++ enc2 g.ticks
    ++ enc4 g.quotient ++ enc4 g.remainder ++ enc4 g.accumulator ++ enc2 g.left
    ++ enc1 (if g.cls = .urgent then 1 else 2) := by
  rw [encGenerator, WriteClass.code_eq]

theorem encPending_eq (d : Device) (x : DeviceRow) : encPending d x = encOpt (valueWidth d + 1)
    (fun y : PendingWrite => encValue y.value ++ enc1 (if y.cls = .urgent then 1 else 2)) x.pending := by
  simp only [encPending, WriteClass.code_eq]

theorem busyWith_iff (s : State) (d : Device) :
    busyWith s d = true ↔ ∃ op n x, s.dbc.inFlight = some ⟨d, op, n, x⟩ := by
  unfold busyWith
  cases s.dbc.inFlight with
  | none => simp
  | some t =>
    obtain ⟨e, op, n, x⟩ := t
    simp

/-- Settles O49: the six reads on the state that heard the frame, then their fields rule by rule. -/
theorem readsAnswerAndChangeNothing : Obligations.ReadsAnswerAndChangeNothing := by
  refine ⟨fun l tag n m p s => ⟨?_, rfl, rfl, rfl, ?_, ?_, fun v hn fitted => ⟨?_, ?_, ?_, ?_⟩⟩,
    fun n => ⟨rfl, rfl, rfl⟩, fun x => ⟨rfl, rfl⟩, rfl, rfl, fun α w f => ⟨rfl, fun _ => rfl, fun _ => rfl⟩, rfl, rfl, rfl,
    fun _ _ => rfl, fun g => ⟨?_, ?_⟩, rfl, fun _ => rfl, fun _ _ => rfl, ?_, fun s v => ⟨waits_iff s v, ?_⟩, ?_,
    ?_, ?_, ?_, ?_, ?_, ?_, ?_, ?_, ?_, ?_⟩
  -- the answers
  · exact congrArg Host.Outcome.next (request_of_read tag rfl rfl (congrArg (Prod.mk _) (onReadVolume_eq n p _)))
  · exact fun h => execReadQueue_eq tag (onReadQueue_refused m p (readCheck_range (Volume.ofNum_outside h)))
  · exact fun v hn unfitted => execReadQueue_eq tag (onReadQueue_refused m p (readCheck_notFitted hn unfitted))
  · intro r hr
    exact execReadQueue_eq tag (by rw [onReadQueue_current p hn fitted, hr])
  · intro hr
    exact execReadQueue_eq tag (by rw [onReadQueue_current p hn fitted, hr])
  · intro r pos hr
    exact execReadQueue_eq tag (by rw [onReadQueue_queued p hn fitted pos, hr])
  · intro pos beyond
    have hr : (s.vol v).queue[m - 1]? = none := List.getElem?_eq_none (by omega)
    exact execReadQueue_eq tag (by rw [onReadQueue_queued p hn fitted pos, hr])
  -- READ VOLUME
  · intro h
    rw [encGauge, h]
    rfl
  · intro x h
    rw [encGauge, h]
    rfl
  · rintro s v x rfl
    rfl
  · rw [volumeR75, placeIn_beq]
    rfl
  · rintro s v x rfl
    cases v <;> rfl
  · intro s v h
    cases v with
    | ch c => exact nomatch h
    | tc => exact ⟨rfl, rfl⟩
    | ll l => exact ⟨rfl, rfl⟩
  · intro s c
    refine ⟨placeIn (fun e : GasEntry => e.chamber == c) s.gat.queue, rfl, placeIn_eq_zero _ _, fun h => ?_⟩
    obtain ⟨e, at_place, he, before⟩ := placeIn_spec _ _ h
    exact ⟨e, at_place, eq_of_beq he, fun f hf => ne_of_beq_false (before f hf)⟩
  · rintro s c u d x rfl rfl rfl
    rfl
  · exact fun s => ⟨fun c => by rw [volumeR157, energisedLine_rfEn], rfl, fun _ => rfl⟩
  -- READ SOURCE
  · intro s
    simp only [sourceFields, sourceR75, sourceR113, sourceR157, lineNumbers, List.flatMap_map, List.append_assoc]
    rfl
  -- READ CHANNEL and READ DEVICE
  · exact fun p f b => ⟨rfl, rfl, rfl, rfl, fun _ => rfl⟩
  · rintro d x w rfl
    rw [encPending_eq]
    cases d <;> exact ⟨rfl, rfl⟩
  · rintro s c k g x rfl rfl
    simp only [channelFields, channelR113, channelR132, encGenerator_eq, encCheck, List.append_assoc]
  · exact fun s d => ⟨busyWith s d, busyWith_iff s d, by cases d <;> rfl⟩
  -- READ QUEUE
  · intro s v q
    refine ⟨recordFlags q, rfl, ?_⟩
    simp only [queueFields, encRecord, List.append_assoc]
    rfl

end Sys2Proof.Machine
end

section
/-! Proofs about the trip comparators: what a flag on several volumes, a zeroed channel, a wind-down and a fault change, and the
destinations of a comparator. -/

namespace Sys2Proof.Machine

open Sys2Proof

/-! ## Condition flags on several volumes -/

theorem setFlag_eq (v : Volume) (f : Flag) (s : State) :
    ∃ vols outbox, setFlag v f s = { s with vols := vols, outbox := outbox } := by
  unfold setFlag
  split
  · dsimp only
    split <;> exact ⟨_, _, rfl⟩
  · exact ⟨_, _, rfl⟩

theorem setFlag_fitted (v w : Volume) (f : Flag) (s : State) : (setFlag v f s).fitted w = s.fitted w := by
  obtain ⟨vols, outbox, h⟩ := setFlag_eq v f s
  rw [h]
  rfl

/-- A flag changes flags alone (R60). -/
theorem setFlag_flagsOnly (v w : Volume) (f : Flag) (s : State) :
    (setFlag v f s).vol w = { s.vol w with flags := ((setFlag v f s).vol w).flags } := by
  by_cases hw : w = v
  · subst hw
    by_cases hf : s.fitted w = true
    · rw [setFlag_vol_self w f s hf]
    · simp [setFlag, hf]
  · simp [hw]

/-- A flag is set where it is named, on a fitted volume (R28, R60). -/
theorem setFlag_hasFlag_iff (v w : Volume) (f g : Flag) (s : State) :
    ((setFlag v f s).vol w).hasFlag g = true ↔
      (s.vol w).hasFlag g = true ∨ (g = f ∧ s.fitted w = true ∧ w = v) := by
  by_cases hw : w = v
  · subst hw
    by_cases hf : s.fitted w = true
    · simp [setFlag_hasFlag w f g s hf, hf]
    · simp [setFlag, hf]
  · simp [hw]

theorem setFlags_eq (vs : List Volume) (f : Flag) (s : State) :
    ∃ vols outbox, setFlags vs f s = { s with vols := vols, outbox := outbox } := by
  refine List.foldlRecOn (motive := fun t : State => ∃ vols outbox, t = { s with vols := vols, outbox := outbox }) vs
    (fun s v => setFlag v f s) ⟨s.vols, s.outbox, rfl⟩ ?_
  rintro _ ⟨vols, outbox, rfl⟩ v -
  exact setFlag_eq v f _

theorem setFlags_flagsOnly (vs : List Volume) (f : Flag) (s : State) (w : Volume) :
    (setFlags vs f s).vol w = { s.vol w with flags := ((setFlags vs f s).vol w).flags } := by
  refine List.foldlRecOn (motive := fun t : State => t.vol w = { s.vol w with flags := (t.vol w).flags }) vs
    (fun s v => setFlag v f s) rfl ?_
  rintro t ht v -
  rw [setFlag_flagsOnly v w f t, ht]

theorem setFlags_hasFlag_iff (vs : List Volume) (f g : Flag) (s : State) (w : Volume) :
    ((setFlags vs f s).vol w).hasFlag g = true ↔
      (s.vol w).hasFlag g = true ∨ (g = f ∧ s.fitted w = true ∧ w ∈ vs) := by
  induction vs generalizing s with
  | nil => simp [setFlags]
  | cons v vs ih =>
    have first : setFlags (v :: vs) f s = setFlags vs f (setFlag v f s) := rfl
    rw [first, ih, setFlag_hasFlag_iff, setFlag_fitted, List.mem_cons]
    tauto

theorem setFlags_eventFrame (vs : List Volume) (f : Flag) (s : State) : EventFrame s (setFlags vs f s) :=
  foldl_eventFrame _ (fun t v => setFlag_eventFrame v f t) vs s

theorem onManifold_iff (s : State) (v : Volume) :
    s.onManifold v = true ↔ (s.grant? v).isSome = true ∨ v ∈ s.rma.queue := by
  simp [State.onManifold, State.inRoughQueue]

/-! ## Channels given target 0 (R102) -/

/-- Channels given target 0 as a jump change GAT's rows, the generators and the device bus alone. -/
theorem foldl_zeroChannel_eq (c : Chamber) (cls : WriteClass) (l : List Chan) (s : State) : ∃ rows fru dbc,
    l.foldl (zeroChannel c cls) s = { s with gat := { s.gat with rows := rows }, fru := fru, dbc := dbc } := by
  refine List.foldlRecOn
    (motive := fun t : State => ∃ rows fru dbc, t = { s with gat := { s.gat with rows := rows }, fru := fru, dbc := dbc })
    l _ ⟨s.gat.rows, s.fru, s.dbc, rfl⟩ ?_
  rintro _ ⟨rows, fru, dbc, rfl⟩ k -
  unfold zeroChannel
  split
  · exact ⟨_, _, _, rfl⟩
  · obtain ⟨b, h⟩ := startTransition_eq c k 0 0 cls
      { s with gat := { s.gat with rows := rows }, fru := fru, dbc := dbc }
    exact ⟨_, _, b, h⟩

/-- A channel given target 0 keeps its commitment (R97), and every other channel its row. -/
theorem zeroChannel_commitment (c d : Chamber) (k j : Chan) (cls : WriteClass) (s : State) :
    ((zeroChannel c cls s k).row d j).commitment = (s.row d j).commitment := by
  unfold zeroChannel
  split
  · rfl
  · obtain ⟨b, h⟩ := startTransition_eq c k 0 0 cls s
    rw [h]
    by_cases e : (d, j) = (c, k)
    · obtain ⟨rfl, rfl⟩ := Prod.mk.inj e
      simp [State.row, ChannelRow.start]
    · exact congrArg ChannelRow.commitment (Per4.getK_setK_ne _ _ _ _ _ _ e)

theorem zeroChamber_commitment (c d : Chamber) (j : Chan) (cls : WriteClass) (s : State) :
    ((zeroChamber c cls s).row d j).commitment = (s.row d j).commitment := by
  refine List.foldlRecOn (motive := fun t : State => (t.row d j).commitment = (s.row d j).commitment) Chan.all _ rfl ?_
  rintro t ht k -
  rw [zeroChannel_commitment, ht]

theorem zeroChamber_vols (c : Chamber) (cls : WriteClass) (s : State) : (zeroChamber c cls s).vols = s.vols := by
  obtain ⟨rows, fru, dbc, h⟩ := foldl_zeroChannel_eq c cls Chan.all s
  rw [zeroChamber, h]

theorem hasCommitment_iff (s : State) (c : Chamber) : s.hasCommitment c = true ↔ ∃ k, 0 < (s.row c k).commitment := by
  simp [State.hasCommitment, Chan.mem_all]

/-! ## An operation on one volume -/

/-- From `s` to `t` every volume but `v` stands, and so does every commitment. -/
def OneVolume (v : Volume) (s t : State) : Prop :=
  (∀ w, w ≠ v → t.vol w = s.vol w) ∧ ∀ c k, (t.row c k).commitment = (s.row c k).commitment

theorem OneVolume.refl (v : Volume) (s : State) : OneVolume v s s := ⟨fun _ _ => rfl, fun _ _ => rfl⟩

theorem OneVolume.trans {v : Volume} {s t u : State} (h : OneVolume v s t) (k : OneVolume v t u) : OneVolume v s u :=
  ⟨fun w ne => (k.1 w ne).trans (h.1 w ne), fun c j => (k.2 c j).trans (h.2 c j)⟩

theorem OneVolume.hasCommitment {v : Volume} {s t : State} (h : OneVolume v s t) (c : Chamber) :
    t.hasCommitment c = s.hasCommitment c := by
  simp only [State.hasCommitment, h.2]

theorem modVol_oneVolume (v : Volume) (f : Vol → Vol) (s : State) : OneVolume v s (s.modVol v f) :=
  ⟨fun w ne => State.vol_modVol_ne s v w f ne, fun _ _ => rfl⟩

theorem setFlag?_oneVolume (v : Volume) (f : Option Flag) (s : State) : OneVolume v s (setFlag? v f s) := by
  cases f with
  | none => exact .refl v s
  | some f =>
    refine ⟨fun w ne => setFlag_vol_ne v w f s ne, fun c k => ?_⟩
    obtain ⟨vols, outbox, h⟩ := setFlag_eq v f s
    rw [setFlag?, h]
    rfl

theorem recordEnd_oneVolume (v : Volume) (o : StepOutcome) (f : Option FailKind) (n : Option Note) (s : State) :
    OneVolume v s (recordEnd v o f n s) := by
  refine ⟨fun w ne => recordEnd_vol_ne v w o f n s ne, fun c k => ?_⟩
  unfold recordEnd
  split <;> rfl

theorem setGate_oneVolume (v : Volume) (x : Bool) (s : State) : OneVolume v s (s.setGate v x) := by
  obtain ⟨g, h⟩ := s.setGate_eq v x
  rw [h]
  exact .refl v s

theorem setGate_vol (v w : Volume) (x : Bool) (s : State) : (s.setGate v x).vol w = s.vol w := by
  obtain ⟨g, h⟩ := s.setGate_eq v x
  rw [h]
  rfl

/-! ## Wind-down -/

/-- A chamber's plant winds down with every sequencer and every commitment left as it stands (R55). -/
theorem windDownChamber_vols (c : Chamber) (s : State) : (windDownChamber c s).vols = s.vols
    ∧ ∀ d k, ((windDownChamber c s).row d k).commitment = (s.row d k).commitment := by
  unfold windDownChamber
  dsimp only
  obtain ⟨b, h⟩ := postWrite_dbc (.throttle c) .opened .urgent
    (zeroChamber c .urgent (withdrawGas c (disarm c (rfOff c s))))
  rw [h]
  exact ⟨zeroChamber_vols c .urgent _, fun d k => zeroChamber_commitment c d k .urgent _⟩

/-- Wind-down of a volume's plant closes its rough valve and its vent (R55), and changes no other sequencer. -/
theorem windDownPlant_vol (v : Volume) (x : Bool) (s : State) : OneVolume v s (windDownPlant v x s)
    ∧ (windDownPlant v x s).vol v = { s.vol v with roughOpen := false, ventOpen := false } := by
  have owners : ∀ t : State, t.vols = s.vols → (∀ c k, (t.row c k).commitment = (s.row c k).commitment) →
      OneVolume v s (setVent v false (releaseRough v t))
        ∧ (setVent v false (releaseRough v t)).vol v = { s.vol v with roughOpen := false, ventOpen := false } := by
    intro t vols rows
    have hv : ∀ w, t.vol w = s.vol w := fun w => congrArg (Per7.get · w) vols
    refine ⟨⟨fun w ne => ?_, rows⟩, ?_⟩
    · rw [setVent, State.vol_modVol_ne _ v w _ ne, releaseRough, State.vol_modVol_ne _ v w _ ne]
      exact hv w
    · rw [setVent, State.vol_modVol_self, releaseRough, State.vol_modVol_self, ← hv v]
      rfl
  have plant : ∃ t : State, windDownPlant v x s
        = (if x then (setVent v false (releaseRough v t)).setGate v false else setVent v false (releaseRough v t))
      ∧ t.vols = s.vols ∧ ∀ c k, (t.row c k).commitment = (s.row c k).commitment := by
    cases v with
    | ch c => exact ⟨_, rfl, windDownChamber_vols c s⟩
    | tc => exact ⟨s, rfl, rfl, fun _ _ => rfl⟩
    | ll l => exact ⟨s, rfl, rfl, fun _ _ => rfl⟩
  obtain ⟨t, h, vols, rows⟩ := plant
  obtain ⟨others, self⟩ := owners t vols rows
  rw [h]
  split
  · exact ⟨others.trans (setGate_oneVolume v false _), (setGate_vol v v false _).trans self⟩
  · exact ⟨others, self⟩

/-- Wind-down on its volume (R54, R55). -/
theorem windDown_vol (v : Volume) (hold : Option HoldRecord) (s : State) : OneVolume v s (windDown v hold s)
    ∧ (windDown v hold s).vol v = { s.vol v with
        state := if hold.isSome then .safing else .ending
        phase := .none
        hold := hold
        roughOpen := false
        ventOpen := false } := by
  unfold windDown
  dsimp only
  obtain ⟨others, self⟩ := windDownPlant_vol v ((hold.map fun h => h.cause.closesGate).getD false)
    (s.modVol v fun x => { x with state := if hold.isSome then .safing else .ending, phase := .none, hold := hold })
  exact ⟨(modVol_oneVolume v _ s).trans others, by rw [self, State.vol_modVol_self]⟩

/-! ## A fault (R53) -/

theorem setFlag?_flagsOnly (v : Volume) (f : Option Flag) (s : State) (w : Volume) :
    (setFlag? v f s).vol w = { s.vol w with flags := ((setFlag? v f s).vol w).flags } := by
  cases f with
  | none => rfl
  | some f => exact setFlag_flagsOnly v w f s

theorem recordEnd_lastEndOnly (v : Volume) (o : StepOutcome) (f : Option FailKind) (n : Option Note) (s : State) :
    (recordEnd v o f n s).vol v = { s.vol v with lastEnd := ((recordEnd v o f n s).vol v).lastEnd } := by
  cases hc : (s.vol v).current with
  | none =>
    have unchanged : recordEnd v o f n s = s := by simp only [recordEnd, hc]
    rw [unchanged]
  | some r => rw [recordEnd_vol_self v o f n r s hc]

theorem takeFault_oneVolume (v : Volume) (k : HoldCause) (s : State) : OneVolume v s (takeFault v k s) := by
  unfold takeFault
  split
  · have flagged := setFlag?_oneVolume v k.flag s
    dsimp only
    split
    · exact (flagged.trans (recordEnd_oneVolume v _ _ _ _)).trans (windDown_vol v _ _).1
    · have safing := flagged.trans (modVol_oneVolume v
        (fun x => { x with state := .safing, phase := .none, hold := some ⟨k, none, x.currentTag, .none⟩ }) _)
      split
      · exact safing.trans (setGate_oneVolume v false _)
      · exact safing
    · exact flagged
    · exact flagged
    · exact flagged
  · exact .refl v s

/-- A fault with a flag sets it on a fitted volume; a volume RUNNING or ENDING goes to SAFING with the cause. -/
theorem takeFault_vol {v : Volume} {k : HoldCause} {f : Flag} {s : State} (hf : s.fitted v = true)
    (hk : k.flag = some f) :
    ((takeFault v k s).vol v).hasFlag f = true
      ∧ ((s.vol v).state = .running ∨ (s.vol v).state = .ending →
          ((takeFault v k s).vol v).state = .safing ∧ ∃ h, ((takeFault v k s).vol v).hold = some h ∧ h.cause = k) := by
  have kept := setFlag?_flagsOnly v k.flag s v
  have flag : ((setFlag? v k.flag s).vol v).hasFlag f = true := by
    rw [hk]
    exact (setFlag_hasFlag_iff v v f f s).2 (.inr ⟨rfl, hf, rfl⟩)
  have state : ((setFlag? v k.flag s).vol v).state = (s.vol v).state := by rw [kept]
  unfold takeFault
  rw [if_pos hf]
  dsimp only
  rw [state]
  cases hs : (s.vol v).state with
  | running =>
    have ended := recordEnd_lastEndOnly v .stopped none none (setFlag? v k.flag s)
    rw [enterSafing, (windDown_vol v _ _).2]
    refine ⟨?_, fun _ => ⟨rfl, _, rfl, rfl⟩⟩
    exact (congrArg (fun x => x.hasFlag f) ended).trans flag
  | ending =>
    dsimp only
    split
    · rw [setGate_vol, State.vol_modVol_self]
      exact ⟨flag, fun _ => ⟨rfl, _, rfl, rfl⟩⟩
    · rw [State.vol_modVol_self]
      exact ⟨flag, fun _ => ⟨rfl, _, rfl, rfl⟩⟩
  | safing => exact ⟨flag, fun h => by simp at h⟩
  | hold => exact ⟨flag, fun h => by simp at h⟩
  | idle => exact ⟨flag, fun h => by simp at h⟩

/-! ## The destinations of a comparator (R14 to R16) -/

theorem headerTripChamber_oneVolume (c : Chamber) (s : State) : OneVolume (.ch c) s (headerTripChamber s c) := by
  unfold headerTripChamber
  dsimp only
  split
  · exact takeFault_oneVolume (.ch c) .headerTrip s
  · exact setFlag?_oneVolume (.ch c) (some .headerTrip) s

theorem headerTripChamber_eventFrame (s : State) (c : Chamber) : EventFrame s (headerTripChamber s c) := by
  unfold headerTripChamber
  dsimp only
  split
  · exact takeFault_eventFrame (.ch c) .headerTrip s
  · exact setFlag_eventFrame (.ch c) .headerTrip s

/-- A fitted chamber at an assertion of the header comparator (R14). -/
theorem headerTripChamber_vol {c : Chamber} {s : State} (hf : s.fitted (.ch c) = true) :
    ((headerTripChamber s c).vol (.ch c)).hasFlag .headerTrip = true
      ∧ (if ((s.vol (.ch c)).state = .running ∨ (s.vol (.ch c)).state = .ending) ∧ s.hasCommitment c = true then
          ((headerTripChamber s c).vol (.ch c)).state = .safing
            ∧ ∃ h, ((headerTripChamber s c).vol (.ch c)).hold = some h ∧ h.cause = .headerTrip
        else ((headerTripChamber s c).vol (.ch c)).state = (s.vol (.ch c)).state
          ∧ ((headerTripChamber s c).vol (.ch c)).hold = (s.vol (.ch c)).hold) := by
  unfold headerTripChamber
  simp only [Bool.and_eq_true, Bool.or_eq_true, beq_iff_eq]
  split
  next atWork =>
    obtain ⟨runs, -⟩ := atWork
    obtain ⟨flag, safing⟩ := takeFault_vol hf (k := .headerTrip) rfl
    exact ⟨flag, safing runs⟩
  next =>
    rw [setFlag_vol_self _ _ s hf]
    refine ⟨?_, rfl, rfl⟩
    simp [Vol.hasFlag, Flag.getLsbD_bit]

section Fold

variable {ι β : Type} {f : State → ι → State} {get : State → ι → β}

/-- Where the operation at `i` leaves every other reading alone and keeps `P`, the reading at an entry of a fold's list is the
one that its own turn gives, from a state where `P` stands and the reading is as before the fold. -/
theorem foldl_reading_at {P : State → Prop} (keeps : ∀ s i, P s → P (f s i))
    (other : ∀ s i j, j ≠ i → get (f s i) j = get s j) (l : List ι) (distinct : l.Nodup) (s : State) (hs : P s) (j : ι)
    (h : j ∈ l) : ∃ t, P t ∧ get t j = get s j ∧ get (l.foldl f s) j = get (f t j) j := by
  induction l generalizing s with
  | nil => exact absurd h List.not_mem_nil
  | cons i l ih =>
    obtain ⟨hi, hl⟩ := List.nodup_cons.1 distinct
    rcases List.mem_cons.1 h with rfl | hj
    · exact ⟨s, hs, rfl, foldl_reading_of_notMem other l _ _ hi⟩
    · have ne : j ≠ i := fun e => hi (e ▸ hj)
      obtain ⟨t, ht, same, e⟩ := ih hl (f s i) (keeps s i hs) hj
      exact ⟨t, ht, same.trans (other s i j ne), e⟩

end Fold

/-- The turn of one chamber at an assertion of the header comparator: it finds its own sequencer, the commitments and the
configuration as they were before. -/
theorem tripAsserted_header_turn (s : State) (c : Chamber) : ∃ t : State,
    ((∀ d, t.hasCommitment d = s.hasCommitment d) ∧ t.cfg = s.cfg) ∧ t.vol (.ch c) = s.vol (.ch c)
      ∧ (tripAsserted .header s).vol (.ch c) = (headerTripChamber t c).vol (.ch c) := by
  refine foldl_reading_at (f := headerTripChamber) (get := fun t c => t.vol (.ch c))
    (P := fun t => (∀ d, t.hasCommitment d = s.hasCommitment d) ∧ t.cfg = s.cfg) ?_ ?_ Chamber.all nodup_chambers
    { s with hlm := { s.hlm with trip := true } } ⟨fun _ => rfl, rfl⟩ c c.mem_all
  · rintro t c ⟨commitments, cfg⟩
    have one := headerTripChamber_oneVolume c t
    obtain ⟨kept, -⟩ := headerTripChamber_eventFrame t c
    exact ⟨fun d => (one.hasCommitment d).trans (commitments d), kept.trans cfg⟩
  · intro t c d ne
    obtain ⟨others, -⟩ := headerTripChamber_oneVolume c t
    exact others _ (fun e => ne (Volume.ch.inj e))

theorem tripAsserted_header_vol_other {v : Volume} (s : State) (h : v.chamber? = none) :
    (tripAsserted .header s).vol v = s.vol v := by
  have start : ({ s with hlm := { s.hlm with trip := true } } : State).vol v = s.vol v := rfl
  rw [tripAsserted, ← start]
  refine List.foldlRecOn (motive := fun t : State => t.vol v = _) Chamber.all headerTripChamber rfl ?_
  rintro t ht c -
  obtain ⟨others, -⟩ := headerTripChamber_oneVolume c t
  exact (others v (fun e => by subst e; exact nomatch h)).trans ht

/-- An assertion stays inside the frame of an event but for the header trip (R14 to R16). -/
theorem tripAsserted_eventFrame (g : Gauge) (s : State) :
    ∃ b, EventFrame { s with hlm := { s.hlm with trip := b } } (tripAsserted g s) := by
  cases g with
  | vol v => exact ⟨s.hlm.trip, takeFault_eventFrame v .pressureTrip s⟩
  | manifold => exact ⟨s.hlm.trip, setFlags_eventFrame _ .manifoldTrip s⟩
  | header => exact ⟨true, foldl_eventFrame _ headerTripChamber_eventFrame Chamber.all _⟩

theorem tripCleared_eventFrame (g : Gauge) (s : State) :
    ∃ b, EventFrame { s with hlm := { s.hlm with trip := b } } (tripCleared g s) := by
  cases g with
  | vol v => exact ⟨s.hlm.trip, EventFrame.refl s⟩
  | manifold => exact ⟨s.hlm.trip, EventFrame.refl s⟩
  | header => exact ⟨false, EventFrame.refl _⟩

/-! ## The comparator (R12) -/

/-- The comparator's state after a code. -/
def comparatorAfter (s : State) (g : Gauge) (p : Int) : Bool :=
  if comparatorRuns s g then comparatorNext s g (s.gauge g).asserted p else (s.gauge g).asserted

theorem comparatorRuns_iff (s : State) (g : Gauge) : comparatorRuns s g = true ↔
    s.cfg.serving = true ∧ s.pec.blanking = none ∧ s.items.tripEnable.get g = 1 := by
  simp [comparatorRuns, and_assoc]

theorem setGauge_asserted_self (s : State) (g : Gauge) :
    s.setGauge g { s.gauge g with asserted := (s.gauge g).asserted } = s :=
  congrArg (fun x => { s with pec := { s.pec with gauges := x } }) (Per9.set_get_self s.pec.gauges g)

/-- A comparator changes by its state before and after (R12): unchanged, asserted, or cleared. -/
theorem evalComparator_eq (g : Gauge) (p : Int) (s : State) : evalComparator g p s =
    match (s.gauge g).asserted, comparatorAfter s g p with
    | false, true => tripAsserted g (s.setGauge g { s.gauge g with asserted := true })
    | true, false => tripCleared g (s.setGauge g { s.gauge g with asserted := false })
    | _, _ => s := by
  have same : ∀ b, (s.gauge g).asserted = b → s.setGauge g { s.gauge g with asserted := b } = s := by
    rintro _ rfl
    exact setGauge_asserted_self s g
  unfold evalComparator comparatorAfter
  dsimp only
  split
  · cases was : (s.gauge g).asserted <;> cases now : comparatorNext s g _ p <;> simp [same, was]
  · cases (s.gauge g).asserted <;> rfl

/-- A comparator's turn stays inside the frame of an event but for its own state and the header trip. -/
theorem evalComparator_eventFrame (g : Gauge) (p : Int) (s : State) : ∃ b, EventFrame
    { s.setGauge g { s.gauge g with asserted := comparatorAfter s g p } with hlm := { s.hlm with trip := b } }
    (evalComparator g p s) := by
  have same := setGauge_asserted_self s g
  rw [evalComparator_eq]
  cases was : (s.gauge g).asserted <;> cases now : comparatorAfter s g p
  · rw [was] at same
    exact ⟨s.hlm.trip, by rw [same]; exact EventFrame.refl s⟩
  · exact tripAsserted_eventFrame g _
  · exact tripCleared_eventFrame g _
  · rw [was] at same
    exact ⟨s.hlm.trip, by rw [same]; exact EventFrame.refl s⟩

theorem evalComparator_asserted (g : Gauge) (p : Int) (s : State) :
    ((evalComparator g p s).gauge g).asserted = comparatorAfter s g p := by
  obtain ⟨b, -, -, -, -, -, gauges, -⟩ := evalComparator_eventFrame g p s
  have kept := congrArg (fun x => (Per9.get x g).asserted) gauges
  exact kept.trans (congrArg GaugeChannel.asserted (State.gauge_setGauge_self s g _))

theorem evalComparator_of_not_runs {g : Gauge} {s : State} (p : Int) (h : comparatorRuns s g = false) :
    evalComparator g p s = s := if_neg (Bool.eq_false_iff.1 h)

/-- The ABOVE columns of R12. -/
theorem comparatorNext_above {s : State} {g : Gauge} (h : s.items.tripDirection.get g = 0) (asserted : Bool) (p : Int) :
    comparatorNext s g asserted p = if asserted then
        decide (s.items.tripThreshold.get g - s.items.tripHysteresis.get g < p)
      else decide (s.items.tripThreshold.get g < p) := by
  simp [comparatorNext, h, ← decide_not]

/-- The BELOW columns of R12. -/
theorem comparatorNext_below {s : State} {g : Gauge} (h : s.items.tripDirection.get g = 1) (asserted : Bool) (p : Int) :
    comparatorNext s g asserted p = if asserted then
        decide (p < s.items.tripThreshold.get g + s.items.tripHysteresis.get g)
      else decide (p < s.items.tripThreshold.get g) := by
  simp [comparatorNext, h, ← decide_not]

/-- Settles O17: the columns of R12, a change by the comparator's state before and after, and each destination. -/
theorem tripComparators : Obligations.TripComparators := by
  refine ⟨fun g p s => ⟨comparatorRuns_iff s g, evalComparator_of_not_runs p, fun runs above => ?_, fun runs below => ?_,
    fun h => ?_, fun was now => ?_, fun was now => ?_⟩, fun s => ⟨?_, fun c hf => ?_, hasCommitment_iff s,
    fun v => tripAsserted_header_vol_other s⟩, fun v s => ⟨rfl, rfl⟩, fun s => ⟨rfl, rfl, setFlags_flagsOnly _ _ s,
    fun v f => ?_, ?_⟩⟩
  · rw [evalComparator_asserted, comparatorAfter, if_pos runs, comparatorNext_above above]
    cases (s.gauge g).asserted <;> simp
  · rw [evalComparator_asserted, comparatorAfter, if_pos runs, comparatorNext_below below]
    cases (s.gauge g).asserted <;> simp
  · rw [evalComparator_asserted] at h
    rw [evalComparator_eq, h]
    cases (s.gauge g).asserted <;> rfl
  · rw [evalComparator_asserted] at now
    rw [evalComparator_eq, was, now]
  · rw [evalComparator_asserted] at now
    rw [evalComparator_eq, was, now]
  · obtain ⟨-, -, -, -, trip, -⟩ := foldl_eventFrame _ headerTripChamber_eventFrame Chamber.all
      { s with hlm := { s.hlm with trip := true } }
    exact trip
  · obtain ⟨t, ⟨commitments, cfg⟩, same, turn⟩ := tripAsserted_header_turn s c
    have fitted : t.fitted (.ch c) = true := by rw [State.fitted, State.capacity, State.items, cfg]; exact hf
    have tripped := headerTripChamber_vol fitted
    rw [commitments, same, ← turn] at tripped
    exact tripped
  · rw [tripAsserted, setFlags_hasFlag_iff, List.mem_filter, onManifold_iff]
    simp [v.mem_all]
  · obtain ⟨vols, outbox, h⟩ := setFlags_eq (Volume.all.filter s.onManifold) .manifoldTrip s
    rw [tripAsserted, h]

end Sys2Proof.Machine
end

section
/-! Proofs about channels given target 0: the zero on the device bus, one channel's turn, and a flows list's (R102). -/

namespace Sys2Proof.Machine

open Sys2Proof

/-! ## The zero of a channel on the device bus (R115, R121, R122) -/

/-- The most urgent write is the one that waits in its device's place (R122). -/
theorem mostUrgent_pending {s : State} {d : Device} {w : PendingWrite} (h : mostUrgent s = some (d, w)) :
    (s.device d).pending = some w := by
  have waits : ∀ b, mostUrgent s = some b → (s.device b.1).pending = some b.2 := by
    refine List.foldlRecOn (motive := fun best => ∀ b, best = some b → (s.device b.1).pending = some b.2) Device.all
      (betterWrite s) ?_ ?_
    · exact fun b h => nomatch h
    rintro best ih e - b hb
    unfold betterWrite at hb
    split at hb
    · exact ih b hb
    next w he =>
      cases hb
      exact he
    next w f x he =>
      split at hb <;> cases hb
      · exact he
      · exact ih _ rfl
  exact waits (d, w) h

/-- The arbiter leaves a pending write in its place or takes it out (R122). -/
theorem arbitrate_pending (s : State) (d : Device) :
    ((arbitrate s).device d).pending = none ∨ ((arbitrate s).device d).pending = (s.device d).pending := by
  rcases arbitrate_cases s with h | ⟨e, w, -, -, -, h⟩ | ⟨n, e, -, -, -, h⟩ <;> rw [h]
  · exact .inr rfl
  · by_cases hd : d = e
    · subst hd
      exact .inl (congrArg DeviceRow.pending (State.device_setDevice_self s d _))
    · exact .inr (congrArg DeviceRow.pending (State.device_setDevice_ne s e d _ hd))
  · exact .inr rfl

/-- A write that waits in its device's place, or has just been started, still does after the arbiter's choice. -/
theorem arbitrate_stands {s : State} {d : Device} {w : PendingWrite}
    (h : (s.device d).pending = some w ∨ s.dbc.inFlight = some ⟨d, .set w, 0, false⟩) :
    ((arbitrate s).device d).pending = some w ∨ (arbitrate s).dbc.inFlight = some ⟨d, .set w, 0, false⟩ := by
  rcases arbitrate_cases s with e | ⟨f, x, free, urgent, -, e⟩ | ⟨n, f, free, -, -, e⟩ <;> rw [e]
  · exact h
  · have waits : (s.device d).pending = some w := h.resolve_right (by rw [free]; exact nofun)
    by_cases hd : d = f
    · subst hd
      have same := waits.symm.trans (mostUrgent_pending urgent)
      cases same
      exact .inr rfl
    · exact .inl ((congrArg DeviceRow.pending (State.device_setDevice_ne s f d _ hd)).trans waits)
  · have waits : (s.device d).pending = some w := h.resolve_right (by rw [free]; exact nofun)
    exact .inl waits

/-- A zero flow for a device waits in its place or has just been started, in class 2 where `N` stands. -/
def ZeroStands (d : Device) (N : Prop) (t : State) : Prop :=
  ∃ w : PendingWrite, w.value = .flow 0 ∧ (N → w.cls = .normal)
    ∧ ((t.device d).pending = some w ∨ t.dbc.inFlight = some ⟨d, .set w, 0, false⟩)

theorem placeWrite_device_ne (d e : Device) (x : BusValue) (k : WriteClass) (s : State) (h : e ≠ d) :
    (placeWrite d x k s).device e = s.device e := by
  rcases placeWrite_cases d x k s with ⟨-, hp⟩ | ⟨-, w, -, -, -, n, hp⟩ <;> rw [hp]
  exact State.device_setDevice_ne s d e _ h

theorem placeWrite_inFlight (d : Device) (x : BusValue) (k : WriteClass) (s : State) :
    (placeWrite d x k s).dbc.inFlight = s.dbc.inFlight := by
  rcases placeWrite_cases d x k s with ⟨-, hp⟩ | ⟨-, w, -, -, -, n, hp⟩ <;> rw [hp]
  rfl

/-- A class-2 zero posted to an OK device stands; its class is that of the write it joins (R121). -/
theorem postWrite_zeroStands_self {d : Device} {N : Prop} {s : State} (hf : (s.device d).failed = false)
    (cls : N → ∀ y, (s.device d).pending = some y → y.cls = .normal) :
    ZeroStands d N (postWrite d (.flow 0) .normal s) := by
  rcases placeWrite_cases d (.flow 0) .normal s with ⟨failed, -⟩ | ⟨-, w, value, fresh, joined, n, hp⟩
  · exact absurd failed (by simp [hf])
  · refine ⟨w, value, fun hN => ?_, arbitrate_stands (.inl ?_)⟩
    · cases hy : (s.device d).pending with
      | none => rw [fresh hy]
      | some y => rw [joined y hy, cls hN y hy]; rfl
    · rw [hp]
      exact congrArg DeviceRow.pending (State.device_setDevice_self s d _)

/-- A zero that stands still does after a class-2 zero posted to any device. -/
theorem postWrite_zeroStands {d : Device} {N : Prop} {s : State} (e : Device) (h : ZeroStands d N s) :
    ZeroStands d N (postWrite e (.flow 0) .normal s) := by
  obtain ⟨w, value, cls, waits | started⟩ := h
  · by_cases he : d = e
    · subst he
      cases hf : (s.device d).failed with
      | true =>
        have dropped : placeWrite d (.flow 0) .normal s = s := by simp [placeWrite, hf]
        rw [postWrite, dropped]
        exact ⟨w, value, cls, arbitrate_stands (.inl waits)⟩
      | false =>
        refine postWrite_zeroStands_self hf fun hN y hy => ?_
        cases waits.symm.trans hy
        exact cls hN
    · refine ⟨w, value, cls, arbitrate_stands (.inl ?_)⟩
      rw [placeWrite_device_ne e d _ _ s he, waits]
  · refine ⟨w, value, cls, arbitrate_stands (.inr ?_)⟩
    rw [placeWrite_inFlight, started]

/-! ## One channel given target 0 (R97, R102, R115) -/

/-- A channel's row, generator and flow check at the start of a jump to 0 in class 2, before the zero is posted. -/
def zeroStarted (c : Chamber) (k : Chan) (s : State) : State :=
  ((s.setRow c k ⟨(s.row c k).commitment, 0, true⟩).setCheck c k { s.check c k with deviation := 0 }).setGen c k
    ((s.gen c k).jump 0 .normal)

theorem zeroChannel_atRest {c : Chamber} {k : Chan} {s : State} (cls : WriteClass) (target : (s.row c k).target = 0)
    (inFlight : (s.row c k).inFlight = false) : zeroChannel c cls s k = s :=
  if_pos (by simp [target, inFlight])

theorem zeroChannel_moving {c : Chamber} {k : Chan} {s : State}
    (h : (s.row c k).target ≠ 0 ∨ (s.row c k).inFlight = true) :
    zeroChannel c .normal s k = postWrite (.mfc c k) (.flow 0) .normal (zeroStarted c k s) := by
  have moving : ((decide ((s.row c k).target = 0) && !(s.row c k).inFlight) = true) = False := by
    simpa [imp_iff_not_or] using h
  have row : (s.row c k).start 0 = ⟨(s.row c k).commitment, 0, true⟩ := by simp [ChannelRow.start]
  unfold zeroChannel startTransition startGenerator postGenerator
  simp only [moving, if_false, if_true, row, State.gen_setGen_self]
  rfl

/-- A channel given target 0 is at rest there and left alone, or it moves and its zero is posted (R102). -/
theorem zeroChannel_cases (c : Chamber) (k : Chan) (s : State) : zeroChannel c .normal s k = s
    ∨ zeroChannel c .normal s k = postWrite (.mfc c k) (.flow 0) .normal (zeroStarted c k s) := by
  by_cases moving : (s.row c k).target ≠ 0 ∨ (s.row c k).inFlight = true
  · exact .inr (zeroChannel_moving moving)
  · obtain ⟨target, inFlight⟩ := not_or.1 moving
    exact .inl (zeroChannel_atRest _ (not_ne_iff.1 target) (Bool.eq_false_iff.2 inFlight))

/-- A channel given target 0 leaves every other channel's row and generator alone. -/
theorem zeroChannel_other {c d : Chamber} {k j : Chan} (s : State) (h : (d, j) ≠ (c, k)) :
    (zeroChannel c .normal s k).row d j = s.row d j ∧ (zeroChannel c .normal s k).gen d j = s.gen d j := by
  unfold zeroChannel
  split
  · exact ⟨rfl, rfl⟩
  · obtain ⟨b, e⟩ := startTransition_eq c k 0 0 .normal s
    rw [e]
    exact ⟨Per4.getK_setK_ne _ _ _ _ _ _ h, Per4.getK_setK_ne _ _ _ _ _ _ h⟩

/-- The row and generator of a channel that a jump to 0 moves. -/
theorem zeroChannel_moved {c : Chamber} {k : Chan} {s : State}
    (h : (s.row c k).target ≠ 0 ∨ (s.row c k).inFlight = true) :
    (zeroChannel c .normal s k).row c k = ⟨(s.row c k).commitment, 0, true⟩
      ∧ (zeroChannel c .normal s k).gen c k = (s.gen c k).jump 0 .normal := by
  obtain ⟨b, e⟩ := postWrite_dbc (.mfc c k) (.flow 0) .normal (zeroStarted c k s)
  rw [zeroChannel_moving h, e]
  exact ⟨Per4.getK_setK_self _ _ _ _, Per4.getK_setK_self _ _ _ _⟩

/-- A device's row after a channel given target 0: only its place in the pending-write table can differ. -/
theorem zeroChannel_failed (c : Chamber) (k : Chan) (s : State) (d : Device) :
    ((zeroChannel c .normal s k).device d).failed = (s.device d).failed := by
  rcases zeroChannel_cases c k s with h | h <;> rw [h]
  obtain ⟨-, places⟩ := postWrite_placesOnly (.mfc c k) (.flow 0) .normal (zeroStarted c k s)
  rw [places d]
  rfl

/-! ## Several channels given target 0 -/

/-- From `s` to `t` channel `k` has not had its turn: its row and generator stand, and the arbiter at most took what waited
in its place. -/
def BeforeTurn (c : Chamber) (k : Chan) (s t : State) : Prop :=
  t.row c k = s.row c k ∧ t.gen c k = s.gen c k
    ∧ (t.device (.mfc c k)).failed = (s.device (.mfc c k)).failed
    ∧ ((t.device (.mfc c k)).pending = none ∨ (t.device (.mfc c k)).pending = (s.device (.mfc c k)).pending)

theorem zeroChannel_beforeTurn {c : Chamber} {k j : Chan} {s t : State} (h : BeforeTurn c k s t) (ne : j ≠ k) :
    BeforeTurn c k s (zeroChannel c .normal t j) := by
  obtain ⟨row, gen, failed, pending⟩ := h
  have apart : (c, k) ≠ (c, j) := fun e => ne (Prod.mk.inj e).2.symm
  obtain ⟨row', gen'⟩ := zeroChannel_other t apart
  refine ⟨row'.trans row, gen'.trans gen, (zeroChannel_failed c j t _).trans failed, ?_⟩
  rcases zeroChannel_cases c j t with turn | turn <;> rw [turn]
  · exact pending
  · rw [postWrite]
    have place : ((placeWrite (.mfc c j) (.flow 0) .normal (zeroStarted c j t)).device (.mfc c k)).pending
        = (t.device (.mfc c k)).pending :=
      congrArg DeviceRow.pending (placeWrite_device_ne (.mfc c j) (.mfc c k) _ _ (zeroStarted c j t)
        (fun e => ne (Device.mfc.inj e).2.symm))
    rcases arbitrate_pending (placeWrite (.mfc c j) (.flow 0) .normal (zeroStarted c j t)) (.mfc c k) with taken | same
    · exact .inl taken
    · rw [same, place]
      exact pending

/-- A channel's turn. -/
theorem zeroChannel_zeroJump {c : Chamber} {k : Chan} {s t : State} (h : BeforeTurn c k s t) :
    ZeroJump c k s (zeroChannel c .normal t k) := by
  obtain ⟨row, gen, failed, pending⟩ := h
  refine ⟨fun target inFlight => ?_, fun moving => ?_⟩
  · rw [zeroChannel_atRest _ (by rw [row, target]) (by rw [row, inFlight])]
    exact ⟨row, gen⟩
  · rw [← row] at moving
    obtain ⟨row', gen'⟩ := zeroChannel_moved moving
    rw [row', gen', row]
    refine ⟨rfl, rfl, rfl, rfl, rfl, fun ok => ?_⟩
    rw [zeroChannel_moving moving]
    refine postWrite_zeroStands_self (failed.trans ok) fun normal y hy => ?_
    rcases pending with taken | same
    · exact absurd (taken.symm.trans hy) nofun
    · exact normal y (same.symm.trans hy)

/-- A zeroed channel stays so at the turn of any channel. -/
theorem ZeroJump.zeroChannel {c : Chamber} {k : Chan} {s t : State} (h : ZeroJump c k s t) (j : Chan) :
    ZeroJump c k s (zeroChannel c .normal t j) := by
  obtain ⟨rest, moved⟩ := h
  by_cases hj : j = k
  · subst hj
    refine ⟨fun target inFlight => ?_, fun moving => ?_⟩
    · obtain ⟨row, gen⟩ := rest target inFlight
      rw [zeroChannel_atRest _ (by rw [row, target]) (by rw [row, inFlight])]
      exact ⟨row, gen⟩
    · obtain ⟨row, -, -, -, -, stands⟩ := moved moving
      have again : (t.row c j).target ≠ 0 ∨ (t.row c j).inFlight = true := .inr (by rw [row])
      obtain ⟨row', gen'⟩ := zeroChannel_moved again
      rw [row', gen', row]
      refine ⟨rfl, rfl, rfl, rfl, rfl, fun ok => ?_⟩
      rw [zeroChannel_moving again]
      exact postWrite_zeroStands (.mfc c j) (stands ok)
  · obtain ⟨row', gen'⟩ := zeroChannel_other t (show (c, k) ≠ (c, j) from fun e => hj (Prod.mk.inj e).2.symm)
    unfold ZeroJump
    rw [row', gen']
    refine ⟨rest, fun moving => ?_⟩
    obtain ⟨row, posted, target, left, cls, stands⟩ := moved moving
    refine ⟨row, posted, target, left, cls, fun ok => ?_⟩
    rcases zeroChannel_cases c j t with turn | turn <;> rw [turn]
    · exact stands ok
    · exact postWrite_zeroStands (.mfc c j) (stands ok)

theorem foldl_zeroChannel_zeroJump {c : Chamber} {k : Chan} {s : State} (l : List Chan) (h : k ∈ l) :
    ZeroJump c k s (l.foldl (zeroChannel c .normal) s) := by
  have turns : ∀ t, BeforeTurn c k s t → ZeroJump c k s (l.foldl (zeroChannel c .normal) t) := by
    induction l with
    | nil => exact absurd h List.not_mem_nil
    | cons j l ih =>
      intro t before
      rw [List.foldl_cons]
      by_cases hj : j = k
      · subst hj
        exact List.foldlRecOn (motive := fun u => ZeroJump c j s u) l _ (zeroChannel_zeroJump before)
          fun u hu i _ => hu.zeroChannel i
      · exact ih ((List.mem_cons.1 h).resolve_left (Ne.symm hj)) _ (zeroChannel_beforeTurn before hj)
  exact turns s ⟨rfl, rfl, rfl, .inr rfl⟩

/-- The channels of a flows list given target 0 (R92, R102), whether or not one is listed twice. -/
theorem foldl_zeroChannel_fillZeroed (c : Chamber) (flows : List FlowEntry) (s : State) :
    FillZeroed c flows s (flows.foldl (fun s f => zeroChannel c .normal s f.chan) s) := by
  rw [← List.foldl_map (f := FlowEntry.chan) (g := zeroChannel c .normal)]
  refine ⟨fun f hf => foldl_zeroChannel_zeroJump _ (List.mem_map_of_mem hf), fun d j apart => ?_⟩
  refine List.foldlRecOn (motive := fun t : State => t.row d j = s.row d j ∧ t.gen d j = s.gen d j) _ _ ⟨rfl, rfl⟩ ?_
  rintro t ⟨row, gen⟩ k hk
  obtain ⟨f, hf, rfl⟩ := List.mem_map.1 hk
  have ne : (d, j) ≠ (c, f.chan) := fun e => apart (Prod.mk.inj e).1 f hf (Prod.mk.inj e).2.symm
  obtain ⟨row', gen'⟩ := zeroChannel_other t ne
  exact ⟨row'.trans row, gen'.trans gen⟩

end Sys2Proof.Machine
end

section
/-! Proofs about a pressure sample: what it changes, its range flags, its window, and the phases that end at its code. -/

namespace Sys2Proof.Machine

open Sys2Proof

/-! ## Range flags of a sample (R9) -/

theorem mem_rangeVolumes (s : State) (g : Gauge) (v : Volume) : v ∈ rangeVolumes s g ↔
    g = .vol v ∨ (g = .manifold ∧ ((s.grant? v).isSome = true ∨ v ∈ s.rma.queue)) ∨ (g = .header ∧ v.chamber? ≠ none) := by
  cases g with
  | vol w =>
    have single : v ∈ rangeVolumes s (.vol w) ↔ v = w := List.mem_singleton
    refine single.trans ⟨fun same => .inl (congrArg Gauge.vol same.symm), ?_⟩
    rintro (same | ⟨other, -⟩ | ⟨other, -⟩)
    · exact (Gauge.vol.inj same).symm
    · exact nomatch other
    · exact nomatch other
  | manifold => simp [rangeVolumes, v.mem_all, onManifold_iff]
  | header => cases v <;> simp [rangeVolumes, Volume.chamber?, Chamber.mem_all]

theorem entersFlagged_iff (ch : GaugeChannel) (x : GaugeSample) : entersFlagged ch x = true ↔
    (x.underFlag = true ∧ ch.prevUnder = false) ∨ (x.overFlag = true ∧ ch.prevOver = false) := by
  simp [entersFlagged]

/-- The volumes that a sample flags GAUGE_RANGE (R9). -/
def flaggedVolumes (g : Gauge) (x : GaugeSample) (s : State) : List Volume :=
  if s.cfg.serving && entersFlagged (s.gauge g) x then rangeVolumes s g else []

/-- The channel with a sample held, before the flags it raises. -/
def heldSample (g : Gauge) (x : GaugeSample) (s : State) : State :=
  s.setGauge g { s.gauge g with sample := some x, prevUnder := x.underFlag, prevOver := x.overFlag }

theorem takeSample_eq (g : Gauge) (x : GaugeSample) (s : State) :
    takeSample g x s = setFlags (flaggedVolumes g x s) .gaugeRange (heldSample g x s) := by
  unfold takeSample flaggedVolumes
  dsimp only
  split <;> rfl

theorem mem_flaggedVolumes (g : Gauge) (x : GaugeSample) (s : State) (v : Volume) :
    v ∈ flaggedVolumes g x s ↔ s.cfg.serving = true
      ∧ ((x.underFlag = true ∧ (s.gauge g).prevUnder = false) ∨ (x.overFlag = true ∧ (s.gauge g).prevOver = false))
      ∧ (g = .vol v ∨ (g = .manifold ∧ ((s.grant? v).isSome = true ∨ v ∈ s.rma.queue))
        ∨ (g = .header ∧ v.chamber? ≠ none)) := by
  rw [← entersFlagged_iff, ← mem_rangeVolumes, ← and_assoc, ← Bool.and_eq_true, flaggedVolumes]
  split <;> simp [*]

theorem takeSample_pec (g : Gauge) (x : GaugeSample) (s : State) : (takeSample g x s).pec = (heldSample g x s).pec := by
  obtain ⟨vols, outbox, h⟩ := setFlags_eq (flaggedVolumes g x s) .gaugeRange (heldSample g x s)
  rw [takeSample_eq, h]

theorem takeSample_gauge_self (g : Gauge) (x : GaugeSample) (s : State) : (takeSample g x s).gauge g
    = { s.gauge g with sample := some x, prevUnder := x.underFlag, prevOver := x.overFlag } := by
  rw [State.gauge, takeSample_pec]
  exact State.gauge_setGauge_self s g _

/-! ## What a sample leaves alone -/

/-- What a sample of `g` leaves alone, whatever it leads to: the frame of an event but for the header trip and `g`'s own
channel. -/
def BesideGauge (g : Gauge) (s t : State) : Prop :=
  (∀ h, h ≠ g → t.gauge h = s.gauge h)
    ∧ t.cfg = s.cfg ∧ t.flu = s.flu ∧ t.tiu = s.tiu ∧ t.gat.enable = s.gat.enable
    ∧ t.pec.emission = s.pec.emission ∧ t.pec.aux = s.pec.aux ∧ t.pec.blanking = s.pec.blanking
    ∧ t.base = s.base ∧ t.pending = s.pending ∧ ∀ l, (t.port l).besideNotice = (s.port l).besideNotice

theorem BesideGauge.trans {g : Gauge} {s t u : State} (h : BesideGauge g s t) (k : BesideGauge g t u) :
    BesideGauge g s u := by
  obtain ⟨h1, h2, h3, h4, h5, h6, h7, h8, h9, h10, h11⟩ := h
  obtain ⟨k1, k2, k3, k4, k5, k6, k7, k8, k9, k10, k11⟩ := k
  exact ⟨fun i ne => (k1 i ne).trans (h1 i ne), k2.trans h2, k3.trans h3, k4.trans h4, k5.trans h5, k6.trans h6,
    k7.trans h7, k8.trans h8, k9.trans h9, k10.trans h10, fun l => (k11 l).trans (h11 l)⟩

theorem EventFrame.besideGauge {s t : State} (g : Gauge) (h : EventFrame s t) : BesideGauge g s t := by
  obtain ⟨cfg, flu, tiu, enable, -, gauges, emission, aux, blanking, base, pending, ports⟩ := h
  exact ⟨fun i _ => congrArg (Per9.get · i) gauges, cfg, flu, tiu, enable, emission, aux, blanking, base, pending, ports⟩

theorem EventFrame.gauge {s t : State} (h : EventFrame s t) (g : Gauge) : t.gauge g = s.gauge g := by
  obtain ⟨-, -, -, -, -, gauges, -⟩ := h
  exact congrArg (Per9.get · g) gauges

/-- A channel written over, with the header trip as it may be, changes nothing beside. -/
theorem setGauge_besideGauge (g : Gauge) (y : GaugeChannel) (b : Bool) (s : State) :
    BesideGauge g s { s.setGauge g y with hlm := { s.hlm with trip := b } } :=
  ⟨fun i ne => State.gauge_setGauge_ne s g i y ne, rfl, rfl, rfl, rfl, rfl, rfl, rfl, rfl, rfl, fun _ => rfl⟩

theorem takeSample_besideGauge (g : Gauge) (x : GaugeSample) (s : State) : BesideGauge g s (takeSample g x s) := by
  rw [takeSample_eq]
  exact (setGauge_besideGauge g _ s.hlm.trip s).trans
    ((setFlags_eventFrame (flaggedVolumes g x s) .gaugeRange (heldSample g x s)).besideGauge g)

theorem evalComparator_besideGauge (g : Gauge) (p : Int) (s : State) : BesideGauge g s (evalComparator g p s)
    ∧ ((evalComparator g p s).gauge g).sample = (s.gauge g).sample := by
  obtain ⟨b, frame⟩ := evalComparator_eventFrame g p s
  have own : (evalComparator g p s).gauge g = { s.gauge g with asserted := comparatorAfter s g p } :=
    (frame.gauge g).trans (State.gauge_setGauge_self s g _)
  exact ⟨(setGauge_besideGauge g _ b s).trans (frame.besideGauge g), by rw [own]⟩

theorem dropLoad_eventFrame (v : Volume) (s : State) : EventFrame s (dropLoad v s) := by
  unfold dropLoad
  split
  · split <;> exact EventFrame.refl s
  · exact EventFrame.refl s

theorem sampleWindow_eventFrame (c : Chamber) (s : State) : EventFrame s (sampleWindow c s) := by
  unfold sampleWindow
  split
  · split <;> exact EventFrame.refl s
  · exact EventFrame.refl s

theorem sampleVolume_eventFrame (v : Volume) (s : State) : EventFrame s (sampleVolume v s) := by
  unfold sampleVolume
  cases v with
  | ch c => exact (dropLoad_eventFrame (.ch c) s).trans (sampleWindow_eventFrame c _)
  | tc => exact dropLoad_eventFrame .tc s
  | ll l => exact dropLoad_eventFrame (.ll l) s

/-- A pressure sample, up to the tests of phases, holds its sample and leaves alone what a sample leaves alone (R5). -/
theorem pressureSampleEffect_frame (g : Gauge) (n : Nat) (s : State) : BesideGauge g s (pressureSampleEffect g n s)
    ∧ ((pressureSampleEffect g n s).gauge g).sample = some (sampleOf s g n) := by
  obtain ⟨beside, sample⟩ := evalComparator_besideGauge g (sampleOf s g n).code (takeSample g (sampleOf s g n) s)
  rw [takeSample_gauge_self] at sample
  have compared := (takeSample_besideGauge g (sampleOf s g n) s).trans beside
  cases g with
  | vol v =>
    have frame := sampleVolume_eventFrame v
      (evalComparator (.vol v) (sampleOf s (.vol v) n).code (takeSample (.vol v) (sampleOf s (.vol v) n) s))
    exact ⟨compared.trans (frame.besideGauge (.vol v)),
      (congrArg GaugeChannel.sample (frame.gauge (.vol v))).trans sample⟩
  | manifold => exact ⟨compared, sample⟩
  | header => exact ⟨compared, sample⟩

/-! ## The window state (R136) -/

theorem runningStep_eq_some {s : State} {v : Volume} {r : StepRecord} :
    runningStep s v = some r ↔ (s.vol v).state = .running ∧ (s.vol v).current = some r := by
  unfold runningStep
  split <;> simp [*]

theorem sampleWindow_gasKind {c : Chamber} {s : State} {r : StepRecord} (h : runningStep s (.ch c) = some r)
    (gas : r.kind.isGas = true) : sampleWindow c s = s.modVol (.ch c) fun x => { x with
      window := windowOf r (s.code? (.vol (.ch c)))
      settleCount := if windowOf r (s.code? (.vol (.ch c))) = .outside then 0 else x.settleCount } := by
  unfold sampleWindow
  simp only [h, gas, if_true]

theorem sampleWindow_other {c : Chamber} {s : State}
    (h : ¬((s.vol (.ch c)).state = .running ∧ (s.vol (.ch c)).current.map (·.kind.isGas) = some true)) :
    sampleWindow c s = s := by
  unfold sampleWindow
  split
  next r hr =>
    obtain ⟨running, current⟩ := runningStep_eq_some.1 hr
    exact if_neg fun gas => h ⟨running, by rw [current]; exact congrArg some gas⟩
  · rfl

theorem windowOf_off {r : StepRecord} (code : Option Int) (h : r.window = 0) : windowOf r code = .none := if_pos h

theorem windowOf_none {r : StepRecord} (h : 0 < r.window) : windowOf r none = .outside := if_neg h.ne'

theorem windowOf_some {r : StepRecord} (p : Int) (h : 0 < r.window) : windowOf r (some p)
    = if r.target - r.window ≤ p ∧ p ≤ r.target + r.window then .inside else .outside := if_neg h.ne'

/-! ## The phases that end at a code (R80) -/

theorem atOrBelow_of_code {s : State} {g : Gauge} {p : Int} (h : s.code? g = some p) (x : Int) :
    s.atOrBelow g x = decide (p ≤ x) := by
  rw [State.atOrBelow, h]

theorem atOrAbove_of_code {s : State} {g : Gauge} {p : Int} (h : s.code? g = some p) (x : Int) :
    s.atOrAbove g x = decide (x ≤ p) := by
  rw [State.atOrAbove, h]

/-- With no sample, no code condition is met (R6). -/
theorem codeReached?_none {v : Volume} {s : State} (h : s.code? (.vol v) = none) : codeReached? v s = none := by
  have below : ∀ x, s.atOrBelow (.vol v) x = false := fun x => by rw [State.atOrBelow, h]
  have above : ∀ x, s.atOrAbove (.vol v) x = false := fun x => by rw [State.atOrAbove, h]
  unfold codeReached?
  simp only [below, above]
  split
  · split <;> rfl
  · rfl

section Phases

variable {v : Volume} {r : StepRecord} {p : Int} {s : State}

theorem codeReached?_rough (h : inPhase s v .rough = some r) (code : s.code? (.vol v) = some p) :
    codeReached? v s = if p ≤ roughTarget s v r then some (endRough v r s) else none := by
  obtain ⟨running, phase, current⟩ := inPhase_eq_some.1 h
  simp [codeReached?, runningStep_eq_some.2 ⟨running, current⟩, phase, atOrBelow_of_code code]

theorem codeReached?_highPump (h : inPhase s v .highPump = some r) (code : s.code? (.vol v) = some p) :
    codeReached? v s = if p ≤ r.target then some (completeStep v none s) else none := by
  obtain ⟨running, phase, current⟩ := inPhase_eq_some.1 h
  simp [codeReached?, runningStep_eq_some.2 ⟨running, current⟩, phase, atOrBelow_of_code code]

theorem codeReached?_venting (h : inPhase s v .venting = some r) (code : s.code? (.vol v) = some p) :
    codeReached? v s = if r.target ≤ p then some (s.modVol v fun x => { x with phase := .overhang, overhangCount := 0 })
      else none := by
  obtain ⟨running, phase, current⟩ := inPhase_eq_some.1 h
  simp [codeReached?, runningStep_eq_some.2 ⟨running, current⟩, phase, atOrAbove_of_code code]

theorem codeReached?_fill (h : inPhase s v .fill = some r) (code : s.code? (.vol v) = some p) :
    codeReached? v s = if r.target ≤ p then some (endFill v r s) else none := by
  obtain ⟨running, phase, current⟩ := inPhase_eq_some.1 h
  simp [codeReached?, runningStep_eq_some.2 ⟨running, current⟩, phase, atOrAbove_of_code code]

theorem codeReached?_pumpback (h : inPhase s v .pumpback = some r) (code : s.code? (.vol v) = some p) :
    codeReached? v s = if p ≤ r.floor then some (endPumpBack v r s) else none := by
  obtain ⟨running, phase, current⟩ := inPhase_eq_some.1 h
  simp [codeReached?, runningStep_eq_some.2 ⟨running, current⟩, phase, atOrBelow_of_code code]

end Phases

/-! ## The end of ROUGH (R72, R83) -/

theorem handsToTurbo_iff {v : Volume} {t : Turbo} (s : State) (r : StepRecord) (h : v.turbo? = some t) :
    handsToTurbo s v r = true ↔ r.target < s.items.crossover.getT t := by
  simp [handsToTurbo, h]

theorem roughTarget_turbo {v : Volume} {t : Turbo} (s : State) (r : StepRecord) (h : v.turbo? = some t) :
    roughTarget s v r = max r.target (s.items.crossover.getT t) := by
  simp only [roughTarget, h]
  split <;> omega

theorem endRough_eq (v : Volume) (r : StepRecord) (s : State) : endRough v r s =
    if handsToTurbo s v r then (releaseRough v s).modVol v fun x => { x with phase := .turboWait }
    else completeStep v none (releaseRough v s) := rfl

/-! ## Cycles of a PURGE (R91 to R94) -/

theorem setVol_atOrBelow (s : State) (v : Volume) (y : Vol) (g : Gauge) (x : Int) :
    (s.setVol v y).atOrBelow g x = s.atOrBelow g x := rfl

theorem setVol_atOrAbove (s : State) (v : Volume) (y : Vol) (g : Gauge) (x : Int) :
    (s.setVol v y).atOrAbove g x = s.atOrAbove g x := rfl

/-- The state `u` differs from `s` in `v`'s retries, limit count and cycles left, of which none are left. -/
def CyclesDone (v : Volume) (s u : State) : Prop :=
  ∃ a b, u = s.setVol v { s.vol v with retriesLeft := a, limitCount := b, cyclesLeft := 0 }

theorem CyclesDone.of_setVol {v : Volume} {s u : State} {a b c : Nat}
    (h : CyclesDone v (s.setVol v { s.vol v with retriesLeft := a, limitCount := b, cyclesLeft := c }) u) :
    CyclesDone v s u := by
  obtain ⟨d, e, h⟩ := h
  rw [State.setVol_setVol, State.vol_setVol_self] at h
  exact ⟨d, e, h⟩

/-- One pump-back and fill of a PURGE whose code stands at both ends (R91, R94). -/
theorem purgeFrom_passes {v : Volume} {r : StepRecord} {p : Int} {n : Nat} {s : State}
    (code : s.code? (.vol v) = some p) (floor : p ≤ r.floor) (target : r.target ≤ p)
    (left : (s.vol v).cyclesLeft = n + 1) : purgeFrom v r (n + 1) s =
      if n = 0 then .completes (s.setVol v { s.vol v with
        retriesLeft := (s.items.pumpBackRetries.get v).toNat, cyclesLeft := n })
      else purgeFrom v r n (s.setVol v { s.vol v with
        retriesLeft := (s.items.pumpBackRetries.get v).toNat, limitCount := 0, cyclesLeft := n }) := by
  rw [purgeFrom]
  simp [State.modVol, setVol_atOrBelow, setVol_atOrAbove, atOrBelow_of_code code, atOrAbove_of_code code, floor, target,
    left]

/-- Where the code stands at both ends, every cycle still to come ends at once (R91, R94). -/
theorem purgeFrom_completes {v : Volume} {r : StepRecord} {p : Int} (n : Nat) (s : State)
    (code : s.code? (.vol v) = some p) (floor : p ≤ r.floor) (target : r.target ≤ p)
    (left : (s.vol v).cyclesLeft = n) : ∃ u, purgeFrom v r n s = .completes u ∧ CyclesDone v s u := by
  induction n generalizing s with
  | zero =>
    refine ⟨s, rfl, (s.vol v).retriesLeft, (s.vol v).limitCount, ?_⟩
    rw [← left]
    exact (s.setVol_vol_self v).symm
  | succ n ih =>
    rw [purgeFrom_passes code floor target left]
    split
    next last =>
      subst last
      exact ⟨_, rfl, _, _, rfl⟩
    next =>
      obtain ⟨u, completes, done⟩ := ih (s.setVol v { s.vol v with
        retriesLeft := (s.items.pumpBackRetries.get v).toNat, limitCount := 0, cyclesLeft := n }) code
        (congrArg Vol.cyclesLeft (State.vol_setVol_self s v _))
      exact ⟨u, completes, done.of_setVol⟩

/-- The first pump-back of a cycle whose code stands above the floor joins the rough queue (R91, R93). -/
theorem purgeFrom_waits {v : Volume} {r : StepRecord} {p : Int} {s : State} (n : Nat)
    (code : s.code? (.vol v) = some p) (floor : r.floor < p) : purgeFrom v r (n + 1) s
      = .stands (joinRough v (s.modVol v fun x => { x with retriesLeft := (s.items.pumpBackRetries.get v).toNat })) := by
  rw [purgeFrom]
  simp [State.modVol, setVol_atOrBelow, atOrBelow_of_code code, floor]

/-! ## The end of a FILL (R92, R93) -/

/-- The plant at the end of a fill: a chamber's listed channels go to 0, any other volume's vent is closed. -/
def fillClosed (v : Volume) (r : StepRecord) (s : State) : State :=
  match v with
  | .ch c => r.flows.foldl (fun s f => zeroChannel c .normal s f.chan) s
  | _ => setVent v false s

theorem endFill_eq (v : Volume) (r : StepRecord) (s : State) : endFill v r s
    = (purgeFrom v r ((fillClosed v r s).vol v).cyclesLeft (fillClosed v r s)).settle v := by
  cases v <;> rfl

/-- What the plant at the end of a fill does from `s` to `t` (R92, R93), and what it leaves alone. -/
def FillPlant (v : Volume) (r : StepRecord) (s t : State) : Prop :=
  t.pec = s.pec ∧ t.cfg = s.cfg ∧ t.rma = s.rma ∧ (∀ w, w ≠ v → t.vol w = s.vol w)
    ∧ (t.vol v).cyclesLeft = (s.vol v).cyclesLeft ∧ (v.chamber? = none → (t.vol v).ventOpen = false)
    ∧ ∀ c, v = .ch c → FillZeroed c r.flows s t

theorem setVent_fillPlant {v : Volume} (r : StepRecord) (s : State) (h : ∀ c, v ≠ .ch c) :
    FillPlant v r s (setVent v false s) := by
  unfold FillPlant setVent
  rw [State.vol_modVol_self]
  exact ⟨rfl, rfl, rfl, fun w ne => State.vol_modVol_ne s v w _ ne, rfl, fun _ => rfl, fun c e => absurd e (h c)⟩

theorem fillClosed_fillPlant (v : Volume) (r : StepRecord) (s : State) : FillPlant v r s (fillClosed v r s) := by
  cases v with
  | ch c =>
    have zeroed := foldl_zeroChannel_fillZeroed c r.flows s
    obtain ⟨rows, fru, dbc, e⟩ := foldl_zeroChannel_eq c .normal (r.flows.map (·.chan)) s
    rw [List.foldl_map] at e
    have closed : fillClosed (.ch c) r s = r.flows.foldl (fun s f => zeroChannel c .normal s f.chan) s := rfl
    rw [closed]
    rw [e] at zeroed ⊢
    exact ⟨rfl, rfl, rfl, fun _ _ => rfl, rfl, nofun, fun d same => Volume.ch.inj same ▸ zeroed⟩
  | tc => exact setVent_fillPlant r s fun _ => nofun
  | ll l => exact setVent_fillPlant r s fun _ => nofun

/-- The zeroing of a fill is read from GAT, the generators and the device bus alone. -/
theorem FillZeroed.congr {c : Chamber} {l : List FlowEntry} {s t u : State} (h : FillZeroed c l s t) (gat : u.gat = t.gat)
    (fru : u.fru = t.fru) (dbc : u.dbc = t.dbc) : FillZeroed c l s u := by
  unfold FillZeroed ZeroJump State.row State.gen State.device at h ⊢
  rw [gat, fru, dbc]
  exact h

/-- A fill that ends with its code above the floor and a cycle to go joins the rough queue (R93). -/
theorem endFill_waits {v : Volume} {r : StepRecord} {p : Int} {s : State} (code : s.code? (.vol v) = some p)
    (floor : r.floor < p) (left : 0 < (s.vol v).cyclesLeft) : endFill v r s = joinRough v ((fillClosed v r s).modVol v
      fun x => { x with retriesLeft := (s.items.pumpBackRetries.get v).toNat }) := by
  obtain ⟨pec, cfg, -, -, cycles, -, -⟩ := fillClosed_fillPlant v r s
  have items : (fillClosed v r s).items = s.items := congrArg Cfg.items cfg
  have code' : (fillClosed v r s).code? (.vol v) = some p := by
    rw [← code, State.code?, State.gauge, pec]
    rfl
  obtain ⟨n, hn⟩ := Nat.exists_eq_succ_of_ne_zero left.ne'
  rw [endFill_eq, cycles, hn, purgeFrom_waits n code' floor, items]
  rfl

/-- A fill that ends with its code at or below the floor ends the step with it (R91, R94). -/
theorem endFill_completes {v : Volume} {r : StepRecord} {p : Int} {s : State} (code : s.code? (.vol v) = some p)
    (floor : p ≤ r.floor) (target : r.target ≤ p) :
    ∃ u, endFill v r s = completeStep v none u ∧ CyclesDone v (fillClosed v r s) u := by
  obtain ⟨pec, -⟩ := fillClosed_fillPlant v r s
  have code' : (fillClosed v r s).code? (.vol v) = some p := by
    rw [← code, State.code?, State.gauge, pec]
    rfl
  obtain ⟨u, completes, done⟩ := purgeFrom_completes _ (fillClosed v r s) code' floor target rfl
  exact ⟨u, by rw [endFill_eq, completes]; rfl, done⟩

/-! ## The end of a PUMPBACK (R94) -/

/-- The state at the end of a pump-back: the grant released, one cycle less to go. -/
def pumpedBack (v : Volume) (s : State) : State :=
  (releaseRough v s).modVol v fun x => { x with cyclesLeft := x.cyclesLeft - 1 }

theorem endPumpBack_eq (v : Volume) (r : StepRecord) (s : State) : endPumpBack v r s =
    if ((pumpedBack v s).vol v).cyclesLeft = 0 then completeStep v none (pumpedBack v s)
    else (beginCycle v r (pumpedBack v s)).settle v := rfl

theorem releaseRough_grant (v : Volume) (s : State) : (releaseRough v s).grant? v = none := by
  have gone : (s.rma.grants.filter fun g => g.holder != v).find? (fun g => g.holder == v) = none := by
    rw [List.find?_eq_none]
    intro g hg held
    have ne := (List.mem_filter.1 hg).2
    simp [eq_of_beq held] at ne
  exact gone

theorem pumpedBack_spec (v : Volume) (s : State) : (pumpedBack v s).grant? v = none
    ∧ (pumpedBack v s).vol v = { s.vol v with roughOpen := false, cyclesLeft := (s.vol v).cyclesLeft - 1 }
    ∧ ∀ w, w ≠ v → (pumpedBack v s).vol w = s.vol w := by
  unfold pumpedBack releaseRough
  refine ⟨releaseRough_grant v s, ?_, fun w ne => ?_⟩
  · rw [State.vol_modVol_self, State.vol_modVol_self]
    rfl
  · rw [State.vol_modVol_ne _ v w _ ne, State.vol_modVol_ne _ v w _ ne]
    rfl

/-- A cycle whose code stands below the fill code enters its fill (R91, R92). -/
theorem beginCycle_fills {v : Volume} {r : StepRecord} {p : Int} {s : State} (code : s.code? (.vol v) = some p)
    (target : p < r.target) :
    beginCycle v r s = .stands (enterFill v r (s.modVol v fun x => { x with limitCount := 0 })) := by
  unfold beginCycle
  simp [State.modVol, setVol_atOrAbove, atOrAbove_of_code code, target]

/-- A cycle whose code stands at both ends passes at once, and so do those after it (R91, R94). -/
theorem beginCycle_completes {v : Volume} {r : StepRecord} {p : Int} {s : State} (code : s.code? (.vol v) = some p)
    (floor : p ≤ r.floor) (target : r.target ≤ p) : ∃ u, beginCycle v r s = .completes u ∧ CyclesDone v s u := by
  obtain ⟨u, completes, done⟩ := purgeFrom_completes _ (s.setVol v { s.vol v with limitCount := 0 }) code floor target rfl
  refine ⟨u, ?_, CyclesDone.of_setVol done⟩
  unfold beginCycle
  simp [State.modVol, setVol_atOrAbove, atOrAbove_of_code code, target] at completes ⊢
  exact completes

/-- What the cycles that end at once leave as it was. -/
theorem CyclesDone.spec {v : Volume} {s u : State} (h : CyclesDone v s u) : (u.vol v).cyclesLeft = 0
    ∧ (u.vol v).ventOpen = (s.vol v).ventOpen ∧ (u.vol v).roughOpen = (s.vol v).roughOpen ∧ u.rma = s.rma
    ∧ u.gat = s.gat ∧ u.fru = s.fru ∧ u.dbc = s.dbc ∧ ∀ w, w ≠ v → u.vol w = s.vol w := by
  obtain ⟨a, b, rfl⟩ := h
  rw [State.vol_setVol_self]
  exact ⟨rfl, rfl, rfl, rfl, rfl, rfl, rfl, fun w ne => State.vol_setVol_ne s v w _ ne⟩

/-- A pump-back that ends the last cycle, or with the code already at the fill code, ends the step (R91, R94). -/
theorem endPumpBack_completes {v : Volume} {r : StepRecord} {p : Int} {s : State} (code : s.code? (.vol v) = some p)
    (floor : p ≤ r.floor) (h : (s.vol v).cyclesLeft ≤ 1 ∨ r.target ≤ p) :
    ∃ u, endPumpBack v r s = completeStep v none u ∧ (u.vol v).cyclesLeft = 0 ∧ u.grant? v = none
      ∧ (u.vol v).roughOpen = false ∧ ∀ w, w ≠ v → u.vol w = s.vol w := by
  obtain ⟨grant, self, others⟩ := pumpedBack_spec v s
  rw [endPumpBack_eq]
  split
  next last => exact ⟨_, rfl, last, grant, by rw [self], others⟩
  next more =>
    rw [self] at more
    obtain ⟨u, completes, done⟩ := beginCycle_completes (s := pumpedBack v s) code floor 
      (h.resolve_left fun few => more (Nat.sub_eq_zero_of_le few))
    obtain ⟨cycles, -, rough, rma, -, -, -, others'⟩ := done.spec
    refine ⟨u, by rw [completes]; rfl, cycles, ?_, by rw [rough, self], fun w ne => (others' w ne).trans (others w ne)⟩
    rw [State.grant?, rma]
    exact grant

/-- The state in which the next cycle of a PURGE begins after a pump-back. -/
def nextCycle (v : Volume) (s : State) : State := (pumpedBack v s).modVol v fun x => { x with limitCount := 0 }

theorem nextCycle_spec (v : Volume) (s : State) : (nextCycle v s).grant? v = none
    ∧ (nextCycle v s).vol v
      = { s.vol v with roughOpen := false, cyclesLeft := (s.vol v).cyclesLeft - 1, limitCount := 0 } := by
  obtain ⟨grant, self, -⟩ := pumpedBack_spec v s
  unfold nextCycle
  exact ⟨by rw [State.modVol_grant_opt, grant], by rw [State.vol_modVol_self, self]⟩

/-- A pump-back with a cycle to go and the code below the fill code enters the next fill (R91, R94). -/
theorem endPumpBack_fills {v : Volume} {r : StepRecord} {p : Int} {s : State} (code : s.code? (.vol v) = some p)
    (left : 1 < (s.vol v).cyclesLeft) (target : p < r.target) : endPumpBack v r s = enterFill v r (nextCycle v s) := by
  obtain ⟨-, self, -⟩ := pumpedBack_spec v s
  have more : ((pumpedBack v s).vol v).cyclesLeft ≠ 0 := by rw [self]; exact Nat.sub_ne_zero_of_lt left
  rw [endPumpBack_eq, if_neg more, beginCycle_fills (s := pumpedBack v s) code target]
  rfl

theorem joinRough_modVol (v : Volume) (f : Vol → Vol) (s : State) :
    (joinRough v (s.modVol v f)).vol v = { f (s.vol v) with phase := .waitRough, admissionCount := 0 }
      ∧ ∀ w, w ≠ v → (joinRough v (s.modVol v f)).vol w = s.vol w := by
  have joined : ∀ t : State, (joinRough v t).vol v = { t.vol v with phase := .waitRough, admissionCount := 0 }
      ∧ ∀ w, w ≠ v → (joinRough v t).vol w = t.vol w := fun t =>
    ⟨State.vol_modVol_self _ v _, fun w ne => State.vol_modVol_ne _ v w _ ne⟩
  obtain ⟨self, others⟩ := joined (s.modVol v f)
  exact ⟨by rw [self, State.vol_modVol_self], fun w ne => (others w ne).trans (State.vol_modVol_ne s v w f ne)⟩

theorem enterFill_vented {v : Volume} (r : StepRecord) (s : State) (h : v.chamber? = none) :
    enterFill v r s = (setVent v true s).modVol v fun x => { x with phase := .fill } := by
  cases v with
  | ch c => exact nomatch h
  | tc => rfl
  | ll l => rfl

/-! ## The statement -/

theorem execPressureSample_eq (g : Gauge) (n : Nat) (s : State) :
    exec (.pressureSample g n) s = .next (finish (pressureSampleEffect g n s)) := rfl

/-- R136: the window of a gas-kind step at a sample, and what it does to the settle count. -/
theorem sampleWindow_vol {c : Chamber} {s : State} {r : StepRecord} (h : runningStep s (.ch c) = some r)
    (gas : r.kind.isGas = true) : ((sampleWindow c s).vol (.ch c)).window = windowOf r (s.code? (.vol (.ch c))) := by
  rw [sampleWindow_gasKind h gas, State.vol_modVol_self]

/-- Settles O15: the sample's frame, its parts in their order, and each phase that waits on a code by its own lemma. -/
theorem pressureSampleHeld : Obligations.PressureSampleHeld := by
  refine ⟨fun g n s => ?_, fun g n s => ⟨_, rfl, ?_⟩, fun g x s => ⟨takeSample_gauge_self g x s, ?_, fun v => ?_,
      fun v f => ?_, ?_⟩, fun v p s code => ⟨fun light => ?_, fun heavy => ?_⟩,
    fun c s => ⟨sampleWindow_other, fun r running current gas => ?_⟩, fun v s => codeReached?_none, fun v s => rfl,
    fun v r p s code => ⟨fun h => ⟨fun reached => ⟨fun off => ?_, fun on => ?_⟩, fun above => ?_⟩,
      fun t ht => ⟨handsToTurbo_iff s r ht, roughTarget_turbo s r ht⟩, fun loadlock => ?_,
      fun h => ⟨fun reached => ?_, fun above => ?_⟩, fun h => ⟨fun reached => ?_, fun below => ?_⟩,
      fun h => ⟨fun below => ?_, fun reached floor left => ?_, fun reached floor => ?_⟩,
      fun h => ⟨fun above => ?_, fun reached last => ?_, fun reached left below => ⟨fun other => ?_, fun c hc => ?_⟩⟩⟩⟩
  -- the sample and its frame
  · obtain ⟨effect, sample⟩ := pressureSampleEffect_frame g n s
    have ended := finish_eventFrame (pressureSampleEffect g n s)
    obtain ⟨gauges, cfg, flu, tiu, enable, emission, aux, blanking, base, pending, ports⟩ :=
      effect.trans (ended.besideGauge g)
    exact ⟨_, sampleOf s g n, execPressureSample_eq g n s, by rw [ended.gauge, sample], rfl, rfl, decide_eq_true_iff,
      decide_eq_true_iff, gauges, cfg, flu, tiu, enable, emission, aux, blanking, base, pending, ports⟩
  · rw [execPressureSample_eq]
    rcases g with (c | _ | l) | _ | _ <;> rfl
  -- the range flags
  · obtain ⟨gauges, -⟩ := takeSample_besideGauge g x s
    exact gauges
  · rw [takeSample_eq]
    exact setFlags_flagsOnly _ .gaugeRange (heldSample g x s) v
  · rw [takeSample_eq, setFlags_hasFlag_iff, mem_flaggedVolumes]
    have vol : (heldSample g x s).vol v = s.vol v := rfl
    have fitted : (heldSample g x s).fitted v = s.fitted v := rfl
    rw [vol, fitted, and_left_comm (a := s.fitted v = true)]
  · obtain ⟨vols, outbox, e⟩ := setFlags_eq (flaggedVolumes g x s) .gaugeRange (heldSample g x s)
    rw [takeSample_eq, e]
    rfl
  -- the load
  · unfold dropLoad
    rw [code]
    exact if_pos light
  · unfold dropLoad
    rw [code]
    exact if_neg (Int.not_lt.2 heavy)
  -- the window
  · have step := runningStep_eq_some.2 ⟨running, current⟩
    rw [sampleWindow_vol step gas]
    refine ⟨sampleWindow_gasKind step gas, windowOf_off _, fun on absent => ?_, fun p on present => ?_⟩
    · rw [absent, windowOf_none on]
    · rw [present, windowOf_some p on]
      exact ⟨fun low high => if_pos ⟨low, high⟩, fun outside => if_neg (by omega)⟩
  -- ROUGH
  · rw [codeReached?_rough h code, if_pos reached, endRough_eq, if_neg (Bool.eq_false_iff.1 off)]
  · rw [codeReached?_rough h code, if_pos reached, endRough_eq, if_pos on]
  · rw [codeReached?_rough h code, if_neg (Int.not_le.2 above)]
  · simp [handsToTurbo, roughTarget, loadlock]
  -- HIGH_PUMP and VENTING
  · rw [codeReached?_highPump h code, if_pos reached]
  · rw [codeReached?_highPump h code, if_neg (Int.not_le.2 above)]
  · rw [codeReached?_venting h code, if_pos reached]
  · rw [codeReached?_venting h code, if_neg (Int.not_le.2 below)]
  -- FILL
  · rw [codeReached?_fill h code, if_neg (Int.not_le.2 below)]
  · obtain ⟨-, -, rma, others, cycles, vent, zeroed⟩ := fillClosed_fillPlant v r s
    rw [codeReached?_fill h code, if_pos reached, endFill_waits code floor left]
    obtain ⟨self, others'⟩ := joinRough_modVol v
      (fun x => { x with retriesLeft := (s.items.pumpBackRetries.get v).toNat }) (fillClosed v r s)
    refine ⟨_, rfl, ?_⟩
    rw [self]
    have queue : (fillClosed v r s).rma.queue ++ [v] = s.rma.queue ++ [v] := by rw [rma]
    exact ⟨rfl, rfl, rfl, cycles, queue, by rw [← rma]; rfl, vent,
      fun c hc => (zeroed c hc).congr rfl rfl rfl, fun w ne => (others' w ne).trans (others w ne)⟩
  · obtain ⟨u, ends, done⟩ := endFill_completes code floor reached
    obtain ⟨-, -, rma, others, -, vent, zeroed⟩ := fillClosed_fillPlant v r s
    obtain ⟨cycles, vent', -, rma', gat, fru, dbc, others'⟩ := done.spec
    rw [codeReached?_fill h code, if_pos reached]
    exact ⟨u, congrArg some ends, cycles, rma'.trans rma, fun hv => vent'.trans (vent hv),
      fun c hc => (zeroed c hc).congr gat fru dbc, fun w ne => (others' w ne).trans (others w ne)⟩
  -- PUMPBACK
  · rw [codeReached?_pumpback h code, if_neg (Int.not_le.2 above)]
  · obtain ⟨u, ends, rest⟩ := endPumpBack_completes code reached last
    rw [codeReached?_pumpback h code, if_pos reached]
    exact ⟨u, congrArg some ends, rest⟩
  · obtain ⟨grant, self⟩ := nextCycle_spec v s
    rw [codeReached?_pumpback h code, if_pos reached, endPumpBack_fills code left below, enterFill_vented r _ other]
    refine ⟨_, rfl, ?_⟩
    rw [State.vol_modVol_self, setVent, State.vol_modVol_self, self]
    exact ⟨rfl, rfl, rfl, Nat.sub_add_cancel (Nat.le_of_lt left),
      by rw [State.modVol_grant_opt, State.modVol_grant_opt, grant], rfl⟩
  · obtain ⟨grant, self⟩ := nextCycle_spec v s
    rw [codeReached?_pumpback h code, if_pos reached, endPumpBack_fills code left below]
    subst hc
    refine ⟨_, rfl, ?_⟩
    rw [State.vol_modVol_self, self]
    exact ⟨rfl, rfl, Nat.sub_add_cancel (Nat.le_of_lt left), by rw [State.modVol_grant_opt, grant], rfl⟩

end Sys2Proof.Machine
end

section
/-! Proofs of the step engine's stops: the frame of settling, failures, faults, limits, counted ends, wind-down ends. -/

namespace Sys2Proof.Machine

open Sys2Proof

/-! ## What follows within an event (R45, R49, R56, R68, R70, R106) -/

theorem whenDue_eventFrame {o : Option State} {s : State} (h : DueFrame s o) : EventFrame s (whenDue o s) := by
  cases o with
  | none => exact EventFrame.refl s
  | some t => exact (h t rfl).trans (finish_eventFrame t)

theorem secondTickEffect_eventFrame (s : State) : EventFrame s (secondTickEffect s) := by
  obtain ⟨vols, h, -⟩ := secondTickEffect_eq s
  rw [h]
  exact EventFrame.refl s

/-- Settles O11. -/
theorem settlingFrame : Obligations.SettlingFrame := by
  refine ⟨finish_eventFrame, fun v c i s t hi ht => ?_⟩
  have due : ∀ {o : Option State}, DueFrame s o →
      (.next (whenDue o s) : Host.Outcome State Fault Refusal) = .next t → EventFrame s t :=
    fun frame h => Host.Outcome.next.inj h ▸ whenDue_eventFrame frame
  simp only [List.mem_cons, List.not_mem_nil, or_false] at hi
  rcases hi with rfl | rfl | rfl | rfl | rfl | rfl | rfl | rfl | rfl | rfl | rfl | rfl | rfl | rfl | rfl | rfl | rfl
  · exact due (grantHead?_dueFrame s) ht
  · exact due (openValve?_dueFrame v s) ht
  · exact due (stallCheck?_dueFrame v s) ht
  · exact due (stepLimitExpiry?_dueFrame v s) ht
  · exact due (admissionLimitExpiry?_dueFrame v s) ht
  · exact due (dwellComplete?_dueFrame v s) ht
  · exact due (overhangEnd?_dueFrame v s) ht
  · exact due (settleComplete?_dueFrame c s) ht
  · exact due (transitionEnd?_dueFrame c s) ht
  · exact due (strikeConfirmed?_dueFrame c s) ht
  · exact due (strikeTimeout?_dueFrame c s) ht
  · exact due (retryPauseEnd?_dueFrame c s) ht
  · exact due (dropoutLimitExceeded?_dueFrame c s) ht
  · exact due (gatedTimeEnd?_dueFrame c s) ht
  · exact due (windDownEnd?_dueFrame v s) ht
  · exact due (gasAdmission?_dueFrame s) ht
  · exact Host.Outcome.next.inj ht ▸ (secondTickEffect_eventFrame s).trans (finish_eventFrame _)

/-! ## Failures (R52) -/

theorem countOn_oneVolume (v : Volume) (f : Counters → Counters) (s : State) : OneVolume v s (countOn v f s) := by
  unfold countOn
  split
  · exact modVol_oneVolume v _ s
  · exact .refl v s

theorem countOn_vol_self {v : Volume} {s : State} (f : Counters → Counters) (h : s.fitted v = true) :
    (countOn v f s).vol v = { s.vol v with counters := f (s.vol v).counters } := by
  simp [countOn, h]

theorem countOn_countersOnly (v : Volume) (f : Counters → Counters) (s : State) :
    (countOn v f s).vol v = { s.vol v with counters := ((countOn v f s).vol v).counters } := by
  unfold countOn
  split <;> simp

theorem setFlag?_hasFlag {v : Volume} {f : Option Flag} {g : Flag} {s : State} (h : s.fitted v = true)
    (hg : f = some g) : ((setFlag? v f s).vol v).hasFlag g = true := by
  subst hg
  exact (setFlag_hasFlag_iff v v g g s).2 (.inr ⟨rfl, h, rfl⟩)

theorem EventFrame.fitted {s t : State} (h : EventFrame s t) (v : Volume) : t.fitted v = s.fitted v := by
  obtain ⟨cfg, -⟩ := h
  unfold State.fitted State.capacity State.items
  rw [cfg]

/-- What a failure has done on its volume before it follows the record's on-fail field (R52): the end recorded, the flag
set, the failure counted. -/
def failed (v : Volume) (f : FailKind) (s : State) : State :=
  countOn v Counters.countFailure (setFlag? v f.flag (recordEnd v .failed (some f) none s))

theorem failed_oneVolume (v : Volume) (f : FailKind) (s : State) : OneVolume v s (failed v f s) :=
  ((recordEnd_oneVolume v _ _ _ s).trans (setFlag?_oneVolume v _ _)).trans (countOn_oneVolume v _ _)

/-- The record of a failure changes the last end, the flags and the counters alone. -/
theorem failed_vol (v : Volume) (f : FailKind) (s : State) : (failed v f s).vol v = { s.vol v with
    lastEnd := ((failed v f s).vol v).lastEnd
    flags := ((failed v f s).vol v).flags
    counters := ((failed v f s).vol v).counters } := by
  unfold failed
  rw [countOn_countersOnly, setFlag?_flagsOnly, recordEnd_lastEndOnly]

theorem failStep_of_not_running {v : Volume} {s : State} (f : FailKind) (h : (s.vol v).state ≠ .running) :
    failStep v f s = s := by
  unfold failStep
  split
  · contradiction
  · rfl

theorem failStep_hold {v : Volume} {s : State} {r : StepRecord} (f : FailKind) (hs : (s.vol v).state = .running)
    (hr : (s.vol v).current = some r) (h : r.onFail = .hold) :
    failStep v f s = windDown v (some ⟨.stepFailed, some f, r.tag, (s.vol v).phase⟩) (failed v f s) := by
  have record : ((failed v f s).vol v).holdRecord .stepFailed (some f) = ⟨.stepFailed, some f, r.tag, (s.vol v).phase⟩ := by
    rw [failed_vol]
    simp [Vol.holdRecord, Vol.currentTag, hr]
  simp only [failStep, hs, hr, h, enterSafing]
  rw [← record]
  rfl

theorem failStep_abort {v : Volume} {s : State} {r : StepRecord} (f : FailKind) (hs : (s.vol v).state = .running)
    (hr : (s.vol v).current = some r) (h : r.onFail = .abort) :
    failStep v f s = windDown v none (discard v (failed v f s)) := by
  simp only [failStep, hs, hr, h]
  rfl

theorem failed_lastEnd {v : Volume} {s : State} {r : StepRecord} (f : FailKind) (hr : (s.vol v).current = some r) :
    ((failed v f s).vol v).lastEnd = some ⟨r.tag, r.kind, .failed, some f, none⟩ := by
  unfold failed
  rw [countOn_countersOnly, setFlag?_flagsOnly, recordEnd_vol_self v _ _ _ r s hr]

theorem failed_count {v : Volume} {s : State} (f : FailKind) (h : s.fitted v = true) :
    ((failed v f s).vol v).counters.failure = count16 (s.vol v).counters.failure := by
  have fitted : (setFlag? v f.flag (recordEnd v .failed (some f) none s)).fitted v = true :=
    (((recordEnd_eventFrame v _ _ _ s).trans (setFlag?_eventFrame v _ _)).fitted v).trans h
  unfold failed
  rw [countOn_vol_self _ fitted, setFlag?_flagsOnly, recordEnd_lastEndOnly]
  rfl

theorem failed_hasFlag {v : Volume} {s : State} {f : FailKind} {g : Flag} (h : s.fitted v = true)
    (hg : f.flag = some g) : ((failed v f s).vol v).hasFlag g = true := by
  unfold failed
  rw [countOn_countersOnly]
  exact setFlag?_hasFlag (((recordEnd_eventFrame v _ _ _ s).fitted v).trans h) hg

/-- Settles O21, by the record's on-fail field. -/
theorem failureCourse : Obligations.FailureCourse := by
  refine ⟨rfl, fun n => rfl, fun v f s => ⟨failStep_of_not_running f, fun r running current fitted => ?_⟩⟩
  have lastEnd := failed_lastEnd f current
  have count := failed_count f fitted
  have flag := fun g => failed_hasFlag (f := f) (g := g) fitted
  have others := (failed_oneVolume v f s).1
  have kept := failed_vol v f s
  cases onFail : r.onFail with
  | hold =>
    rw [failStep_hold f running current onFail, (windDown_vol v _ _).2]
    refine ⟨lastEnd, count, flag, rfl, ?_, fun _ => ⟨rfl, ?_, rfl⟩, nofun,
      fun w ne => ((windDown_vol v _ _).1.1 w ne).trans (others w ne)⟩
    · rw [kept]
      exact current
    · rw [kept]
  | abort =>
    have queue : ∀ w, w ≠ v → (discard v (failed v f s)).vol w = s.vol w :=
      fun w ne => (State.vol_modVol_ne _ v w _ ne).trans (others w ne)
    rw [failStep_abort f running current onFail, (windDown_vol v _ _).2, discard, State.vol_modVol_self]
    refine ⟨lastEnd, count, flag, rfl, ?_, nofun, fun _ => ⟨rfl, rfl, rfl⟩,
      fun w ne => ((windDown_vol v _ _).1.1 w ne).trans (queue w ne)⟩
    rw [kept]
    exact current

/-! ## Faults (R53) -/

/-- Settles O22, state by state. -/
theorem faultCourse : Obligations.FaultCourse := by
  refine ⟨rfl, fun k => by cases k <;> decide, fun v k s fitted => ?_⟩
  have kept := setFlag?_flagsOnly v k.flag s v
  have ended := recordEnd_lastEndOnly v .stopped none none (setFlag? v k.flag s)
  have state : ((setFlag? v k.flag s).vol v).state = (s.vol v).state := by rw [kept]
  have current : ((setFlag? v k.flag s).vol v).current = (s.vol v).current := by rw [kept]
  refine ⟨fun g hg => (takeFault_vol fitted hg).1, fun running => ?_, fun ending => ?_, fun rest => ?_,
    (takeFault_oneVolume v k s).1⟩
  · have taken : takeFault v k s
        = enterSafing v k none (recordEnd v .stopped none none (setFlag? v k.flag s)) := by
      simp only [takeFault, fitted, if_true, state, running]
    rw [taken, enterSafing, (windDown_vol v _ _).2]
    refine ⟨rfl, ?_, fun r hr => ?_⟩
    · rw [ended, kept]
      rfl
    · rw [recordEnd_vol_self v _ _ _ r _ (current.trans hr)]
  · simp only [takeFault, fitted, if_true, state, ending]
    refine ⟨?_, ?_, fun closes => ?_⟩
    · split <;> simp [setGate_vol]
    · have tag : ((setFlag? v k.flag s).vol v).currentTag = (s.vol v).currentTag := by rw [Vol.currentTag, current]; rfl
      split <;> simp [setGate_vol, tag]
    · rw [if_pos closes]
      exact State.gateOpen_setGate_false _ v
  · rcases rest with h | h | h <;> simp only [takeFault, fitted, if_true, state, h]

end Sys2Proof.Machine
end

section
/-! Proofs of the rows that act at a count: limits, stall supervision, counted ends, wind-down ends and transition ends. -/

namespace Sys2Proof.Machine

open Sys2Proof

/-! ## A row on a volume that does not run -/

theorem runningStep_none {s : State} {v : Volume} (h : (s.vol v).state ≠ .running) : runningStep s v = none := if_neg h

theorem inPhase_none {s : State} {v : Volume} (p : Phase) (h : (s.vol v).state ≠ .running) : inPhase s v p = none :=
  if_neg fun k => h k.1

theorem roughing_of_not_running {s : State} {v : Volume} (h : (s.vol v).state ≠ .running) : roughing s v = false := by
  rw [← Bool.not_eq_true, roughing_iff]
  exact fun k => h k.1

/-! ## Limits (R50, R51) -/

section Running
variable {v : Volume} {s : State} {r : StepRecord}

theorem stepLimitExpiry?_running (h : runningStep s v = some r) : stepLimitExpiry? v s =
    if r.kind.hasLimit = true ∧ s.waits v = false ∧ (s.vol v).effLimit ≤ (s.vol v).limitCount then
      some (failStep v (limitFailure (s.vol v).phase) s) else none := by
  simp [stepLimitExpiry?, h, and_assoc]

theorem admissionLimitExpiry?_running (h : runningStep s v = some r) : admissionLimitExpiry? v s =
    if s.waits v = true ∧ s.items.admissionLimit.get v ≤ ((s.vol v).admissionCount : Int) then
      some (failStep v .admitTimeout s) else none := by
  simp [admissionLimitExpiry?, h]

end Running

/-! ## Stall supervision (R86, R87) -/

theorem stallCheck?_acts {v : Volume} {s : State} {p : Int} (stage : roughing s v = true)
    (code : s.code? (.vol v) = some p) (count : s.items.stallWindow.get v ≤ ((s.vol v).stallCount : Int)) :
    stallCheck? v s = some (stallOutcome v p s) := by
  simp [stallCheck?, stage, code, count]

theorem stallCheck?_none {v : Volume} {s : State} (h : roughing s v = false ∨ s.code? (.vol v) = none
    ∨ ((s.vol v).stallCount : Int) < s.items.stallWindow.get v) : stallCheck? v s = none := by
  cases code : s.code? (.vol v) with
  | none => simp [stallCheck?, code]
  | some p =>
    rcases h with stage | none | below
    · simp [stallCheck?, code, stage]
    · simp [code] at none
    · simp [stallCheck?, code, Int.not_le.2 below]

/-- The rough queue after a release (R71, R74). -/
theorem releaseRough_rma (v : Volume) (s : State) : (releaseRough v s).rma
    = ⟨s.rma.grants.filter fun g => g.holder != v, s.rma.queue.filter fun w => w != v⟩ := rfl

theorem joinRough_rma (v : Volume) (s : State) : (joinRough v s).rma = { s.rma with queue := s.rma.queue ++ [v] } := rfl

theorem joinRough_grant (v w : Volume) (s : State) : (joinRough v s).grant? w = s.grant? w := rfl

theorem joinRough_vol_self (v : Volume) (s : State) :
    (joinRough v s).vol v = { s.vol v with phase := .waitRough, admissionCount := 0 } := by
  rw [joinRough, State.vol_modVol_self]
  rfl

theorem releaseRough_vol_self (v : Volume) (s : State) : (releaseRough v s).vol v = { s.vol v with roughOpen := false } := by
  rw [releaseRough, State.vol_modVol_self]
  rfl

theorem countOn_eq (v : Volume) (f : Counters → Counters) (s : State) :
    ∃ vols, countOn v f s = { s with vols := vols } := by
  unfold countOn
  split
  · exact ⟨_, rfl⟩
  · exact ⟨s.vols, rfl⟩

/-- A volume at a stall retry, before it leaves the manifold (R87): one retry less, counted and flagged. -/
def retried (v : Volume) (s : State) : State :=
  countOn v Counters.countPumpRetry
    (setFlag v .pumpRetry (s.modVol v fun x => { x with retriesLeft := x.retriesLeft - 1 }))

theorem stallRetry_eq (v : Volume) (s : State) : stallRetry v s = joinRough v (releaseRough v (retried v s)) := rfl

theorem retried_rma (v : Volume) (s : State) : (retried v s).rma = s.rma := by
  obtain ⟨a, h⟩ := countOn_eq v Counters.countPumpRetry
    (setFlag v .pumpRetry (s.modVol v fun x => { x with retriesLeft := x.retriesLeft - 1 }))
  obtain ⟨b, c, k⟩ := setFlag_eq v .pumpRetry (s.modVol v fun x => { x with retriesLeft := x.retriesLeft - 1 })
  rw [retried, h, k]
  rfl

theorem retried_vol {v : Volume} {s : State} (fitted : s.fitted v = true) : (retried v s).vol v = { s.vol v with
    retriesLeft := (s.vol v).retriesLeft - 1
    flags := (s.vol v).flags ||| Flag.pumpRetry.bit
    counters := (s.vol v).counters.countPumpRetry } := by
  have still : (setFlag v .pumpRetry (s.modVol v fun x => { x with retriesLeft := x.retriesLeft - 1 })).fitted v = true :=
    (setFlag_fitted v v _ _).trans fitted
  have flagged := setFlag_vol_self v .pumpRetry (s.modVol v fun x => { x with retriesLeft := x.retriesLeft - 1 }) fitted
  rw [retried, countOn_vol_self _ still, flagged, State.vol_modVol_self]

/-- Settles O26, row by row at and below its limit. -/
theorem limitRowsAct : Obligations.LimitRowsAct := by
  refine ⟨fun s v r running current limited waits reached => ?_, fun s v r running current waits reached => ?_,
    fun s v r running current => ⟨fun below => ?_, fun below => ?_⟩, fun k => by cases k <;> decide,
    fun s v off => ?_, fun s v p stage code count => ?_⟩
  · have due := stepLimitExpiry?_running (runningStep_eq_some.2 ⟨running, current⟩)
    rw [if_pos ⟨limited, waits, reached⟩] at due
    exact congrArg (fun o => Host.Outcome.next (whenDue o s)) due
  · have due := admissionLimitExpiry?_running (runningStep_eq_some.2 ⟨running, current⟩)
    rw [if_pos ⟨waits, reached⟩] at due
    exact congrArg (fun o => Host.Outcome.next (whenDue o s)) due
  · have due := stepLimitExpiry?_running (runningStep_eq_some.2 ⟨running, current⟩)
    rw [if_neg (by
      rintro ⟨limited, waits, reached⟩
      rcases below with h | h | h
      · simp [h] at limited
      · simp [h] at waits
      · omega)] at due
    exact congrArg (fun o => Host.Outcome.next (whenDue o s)) due
  · have due := admissionLimitExpiry?_running (runningStep_eq_some.2 ⟨running, current⟩)
    rw [if_neg (by
      rintro ⟨waits, reached⟩
      rcases below with h | h
      · simp [h] at waits
      · omega)] at due
    exact congrArg (fun o => Host.Outcome.next (whenDue o s)) due
  · exact congrArg (fun o => Host.Outcome.next (whenDue o s)) (stallCheck?_none off)
  · have acts : exec (.stallCheck v) s = .next (finish (stallOutcome v p s)) :=
      congrArg (fun o => Host.Outcome.next (whenDue o s)) (stallCheck?_acts stage code count)
    rw [acts]
    refine ⟨fun fell => ?_, fun short spent => ?_, fun short left fitted => ⟨stallRetry v s, ?_, ?_⟩⟩
    · rw [stallOutcome, if_pos fell]
    · rw [stallOutcome, if_neg (Int.not_le.2 short), if_neg (by omega)]
    · rw [stallOutcome, if_neg (Int.not_le.2 short), if_pos left]
    · rw [stallRetry_eq, joinRough_vol_self, releaseRough_vol_self, retried_vol fitted]
      refine ⟨Nat.sub_add_cancel left, rfl, rfl, rfl, rfl, ?_, ?_, ?_⟩
      · have bit := Flag.getLsbD_bit .pumpRetry .pumpRetry
        simp [Vol.hasFlag, bit]
      · rw [joinRough_grant, releaseRough_grant]
      · rw [joinRough_rma, releaseRough_rma, retried_rma]

/-! ## Ends by a step-tick count (R48, R90, R137, R138) -/

section InPhase
variable {s : State} {r : StepRecord}

theorem dwellComplete?_inPhase {v : Volume} (h : inPhase s v .dwell = some r) : dwellComplete? v s =
    if max 1 r.duration ≤ (s.vol v).dwellCount then some (completeStep v none s) else none := by
  simp only [dwellComplete?, h]

theorem overhangEnd?_inPhase {v : Volume} (h : inPhase s v .overhang = some r) : overhangEnd? v s =
    if r.duration ≤ (s.vol v).overhangCount then some (completeStep v none (setVent v false s)) else none := by
  simp only [overhangEnd?, h]

theorem settleComplete?_inPhase {c : Chamber} (h : inPhase s (.ch c) .settle = some r) : settleComplete? c s =
    if r.duration ≤ (s.vol (.ch c)).settleCount ∧ (s.vol (.ch c)).window ≠ .outside then
      some (completeStep (.ch c) none s) else none := by
  simp [settleComplete?, h]

theorem strikeConfirmed?_inPhase {c : Chamber} (h : inPhase s (.ch c) .confirm = some r) : strikeConfirmed? c s =
    if r.duration ≤ (s.reuOf c).confirmCount then some (completeStep (.ch c) none s) else none := by
  simp only [strikeConfirmed?, h]

end InPhase

/-- No row of a running step stands while its volume is not RUNNING (R49 to R52, R54). -/
theorem volumeRows_of_not_running {s : State} {v : Volume} (h : (s.vol v).state ≠ .running) :
    stallCheck? v s = none ∧ stepLimitExpiry? v s = none ∧ admissionLimitExpiry? v s = none
      ∧ dwellComplete? v s = none ∧ overhangEnd? v s = none := by
  refine ⟨stallCheck?_none (.inl (roughing_of_not_running h)), ?_, ?_, ?_, ?_⟩
  · simp only [stepLimitExpiry?, runningStep_none h]
  · simp only [admissionLimitExpiry?, runningStep_none h]
  · simp only [dwellComplete?, inPhase_none _ h]
  · simp only [overhangEnd?, inPhase_none _ h]

theorem chamberRows_of_not_running {s : State} {c : Chamber} (h : (s.vol (.ch c)).state ≠ .running) :
    settleComplete? c s = none ∧ transitionEnd? c s = none ∧ strikeConfirmed? c s = none ∧ strikeTimeout? c s = none
      ∧ retryPauseEnd? c s = none ∧ dropoutLimitExceeded? c s = none ∧ gatedTimeEnd? c s = none := by
  have off := fun p => inPhase_none (v := .ch c) p h
  refine ⟨?_, ?_, ?_, ?_, ?_, ?_, ?_⟩
  · simp only [settleComplete?, off]
  · simp only [transitionEnd?, off]
  · simp only [strikeConfirmed?, off]
  · simp only [strikeTimeout?, runningStep_none h]
  · simp only [retryPauseEnd?, off]
  · simp only [dropoutLimitExceeded?, off]
  · simp only [gatedTimeEnd?, off]

/-- Settles O27, row by row at and below its duration. -/
theorem countedEndsComplete : Obligations.CountedEndsComplete := by
  have row : ∀ {s : State} {a b : Option State}, a = b →
      (.next (whenDue a s) : Host.Outcome State Fault Refusal) = .next (whenDue b s) :=
    fun h => congrArg _ (congrArg (whenDue · _) h)
  refine ⟨fun s v r h => ⟨fun reached => ?_, fun below => ?_⟩, fun s v r h => ⟨fun reached => ?_, fun below => ?_⟩,
    fun s c r h => ⟨fun reached inside => ?_, fun below => ?_⟩, fun s c r h => ⟨fun reached => ?_, fun below => ?_⟩,
    fun s v p r => inPhase_eq_some, fun s v c i => ⟨fun h hi => ?_, fun h hi => ?_⟩⟩
  · exact row ((dwellComplete?_inPhase h).trans (if_pos reached))
  · exact row ((dwellComplete?_inPhase h).trans (if_neg (Nat.not_le.2 below)))
  · exact row ((overhangEnd?_inPhase h).trans (if_pos reached))
  · exact row ((overhangEnd?_inPhase h).trans (if_neg (Nat.not_le.2 below)))
  · exact row ((settleComplete?_inPhase h).trans (if_pos ⟨reached, inside⟩))
  · exact row ((settleComplete?_inPhase h).trans
      (if_neg fun k => below.elim (fun l => Nat.not_le.2 l k.1) fun o => k.2 o))
  · exact row ((strikeConfirmed?_inPhase h).trans (if_pos reached))
  · exact row ((strikeConfirmed?_inPhase h).trans (if_neg (Nat.not_le.2 below)))
  · obtain ⟨stall, limit, admission, dwell, overhang⟩ := volumeRows_of_not_running h
    simp only [List.mem_cons, List.not_mem_nil, or_false] at hi
    rcases hi with rfl | rfl | rfl | rfl | rfl
    · exact row stall
    · exact row limit
    · exact row admission
    · exact row dwell
    · exact row overhang
  · obtain ⟨settled, transition, confirmed, timeout, pause, dropout, gated⟩ := chamberRows_of_not_running h
    simp only [List.mem_cons, List.not_mem_nil, or_false] at hi
    rcases hi with rfl | rfl | rfl | rfl | rfl | rfl | rfl
    · exact row settled
    · exact row transition
    · exact row confirmed
    · exact row timeout
    · exact row pause
    · exact row dropout
    · exact row gated

/-! ## Wind-down ends and transition ends (R56, R135) -/

theorem drained_iff (s : State) (v : Volume) : s.drained v = true ↔ ∀ c k, v = .ch c → (s.row c k).commitment = 0 := by
  cases v with
  | ch d =>
    have none_iff : s.hasCommitment d = false ↔ ∀ k, (s.row d k).commitment = 0 := by
      rw [← Bool.not_eq_true, hasCommitment_iff]
      simp
    simp only [State.drained, Bool.not_eq_true', none_iff, Volume.ch.injEq]
    exact ⟨fun h c k e => e ▸ h k, fun h k => h d k rfl⟩
  | tc => simp [State.drained]
  | ll l => simp [State.drained]

theorem windDownEnd?_ending {s : State} {v : Volume} (drained : s.drained v = true) (h : (s.vol v).state = .ending) :
    windDownEnd? v s = some (post [v.master] ⟨.volumeIdle, v.num, (s.vol v).currentTag, 0, 0, 0⟩
      (s.modVol v fun x => { x with state := .idle, current := none })) := by
  simp only [windDownEnd?, drained, if_true, h]

theorem windDownEnd?_safing {s : State} {v : Volume} {r : HoldRecord} (drained : s.drained v = true)
    (h : (s.vol v).state = .safing) (hold : (s.vol v).hold = some r) :
    windDownEnd? v s = some (post [v.master] ⟨.volumeHold, v.num, r.tag, r.cause.code, failCode r.failure, 0⟩
      (s.modVol v fun x => { x with state := .hold })) := by
  simp only [windDownEnd?, drained, if_true, h, hold, Option.getD_some]

theorem windDownEnd?_undrained {s : State} {v : Volume} (h : s.drained v = false) : windDownEnd? v s = none := by
  simp [windDownEnd?, h]

theorem transitionEnd?_inPhase {s : State} {c : Chamber} {r : StepRecord} (h : inPhase s (.ch c) .transition = some r) :
    transitionEnd? c s = if ∃ f ∈ r.flows, (s.row c f.chan).inFlight = true then none else some (afterTransition c r s) := by
  simp [transitionEnd?, h]

theorem enterIgnite_spec (c : Chamber) (r : StepRecord) (s : State) :
    (enterIgnite c r s).vol (.ch c) = { s.vol (.ch c) with phase := .ignite }
    ∧ (enterIgnite c r s).reuOf c
      = { s.reuOf c with rfOn := true, powerCode := powerCodeOf r.power, strikeTimer := 0 } := by
  simp [enterIgnite]

theorem enterEtch_spec (c : Chamber) (r : StepRecord) (s : State) :
    (enterEtch c r s).vol (.ch c) = { s.vol (.ch c) with phase := .etch }
    ∧ (enterEtch c r s).reuOf c = { s.reuOf c with
        rfOn := true, powerCode := powerCodeOf r.power, gated := 0, dropout := 0, endGated := r.duration }
    ∧ (enterEtch c r s).detector c = if r.endpoint.isSome then ⟨true, 0, 0, none⟩ else s.detector c := by
  unfold enterEtch
  dsimp only
  split <;> simp_all

/-- Settles O29. -/
theorem windDownAndTransitionEnd : Obligations.WindDownAndTransitionEnd := by
  have row : ∀ {s : State} {a b : Option State}, a = b →
      (.next (whenDue a s) : Host.Outcome State Fault Refusal) = .next (whenDue b s) :=
    fun h => congrArg _ (congrArg (whenDue · _) h)
  refine ⟨fun s v drained => ⟨fun ending => ⟨_, row (windDownEnd?_ending drained ending), ?_⟩,
      fun h safing hold => ⟨_, row (windDownEnd?_safing drained safing hold), ?_⟩⟩,
    fun s v undrained => row (windDownEnd?_undrained undrained), drained_iff, rfl, fun f => rfl,
    fun s c r h => ⟨fun moving => row ((transitionEnd?_inPhase h).trans (if_pos moving)),
      fun still => ⟨_, row ((transitionEnd?_inPhase h).trans (if_neg (by simpa using still))), fun gas => ?_,
        fun strike => ?_, fun etch => ?_⟩⟩⟩
  · rw [post_vol, State.vol_modVol_self]
    exact ⟨rfl, rfl, rfl, fun w ne => (post_vol _ _ _ w).trans (State.vol_modVol_ne s v w _ ne), rfl⟩
  · rw [post_vol, State.vol_modVol_self]
    exact ⟨rfl, hold, rfl, fun w ne => (post_vol _ _ _ w).trans (State.vol_modVol_ne s v w _ ne), rfl⟩
  · simp [afterTransition, gas]
  · obtain ⟨vol, reu⟩ := enterIgnite_spec c r s
    simp only [afterTransition, strike, vol, reu]
    exact ⟨trivial, trivial, rfl, trivial⟩
  · obtain ⟨vol, reu, detector⟩ := enterEtch_spec c r s
    simp only [afterTransition, etch, vol, reu, detector]
    exact ⟨trivial, trivial, rfl, trivial, trivial, trivial, fun armed => if_pos armed⟩

end Sys2Proof.Machine
end

section
/-! Proofs about one volume's own part of the plant, and the statement about wind-down (R54, R55). -/

namespace Sys2Proof.Machine

open Sys2Proof

/-! ## What an operation of one volume's sequencer leaves to the others -/

/-- From `s` to `t` only volume `v` acted: the other sequencers, gates, manifold and gas queue entries, REUs, detectors,
channel rows and generators stand, and on `v`'s own channels no commitment changes and no target but to 0. -/
structure Local (v : Volume) (s t : State) : Prop where
  vol : ∀ w, w ≠ v → t.vol w = s.vol w
  gate : ∀ w, w ≠ v → t.gateOpen w = s.gateOpen w
  grants : t.rma.grants.filter (fun g => g.holder != v) = s.rma.grants.filter (fun g => g.holder != v)
  queue : t.rma.queue.filter (fun w => w != v) = s.rma.queue.filter (fun w => w != v)
  gas : t.gat.queue.filter (fun e => Volume.ch e.chamber != v) = s.gat.queue.filter (fun e => Volume.ch e.chamber != v)
  reu : ∀ c, v ≠ .ch c → t.reuOf c = s.reuOf c
  detector : ∀ c, v ≠ .ch c → t.detector c = s.detector c
  channel : ∀ c, v ≠ .ch c → ∀ k, t.row c k = s.row c k ∧ t.gen c k = s.gen c k
  commitment : ∀ c k, (t.row c k).commitment = (s.row c k).commitment
  target : ∀ c k, (t.row c k).target = (s.row c k).target ∨ (t.row c k).target = 0

theorem Local.refl (v : Volume) (s : State) : Local v s s :=
  ⟨fun _ _ => rfl, fun _ _ => rfl, rfl, rfl, rfl, fun _ _ => rfl, fun _ _ => rfl, fun _ _ _ => ⟨rfl, rfl⟩, fun _ _ => rfl,
    fun _ _ => .inl rfl⟩

theorem Local.trans {v : Volume} {s t u : State} (h : Local v s t) (k : Local v t u) : Local v s u where
  vol w ne := (k.vol w ne).trans (h.vol w ne)
  gate w ne := (k.gate w ne).trans (h.gate w ne)
  grants := k.grants.trans h.grants
  queue := k.queue.trans h.queue
  gas := k.gas.trans h.gas
  reu c ne := (k.reu c ne).trans (h.reu c ne)
  detector c ne := (k.detector c ne).trans (h.detector c ne)
  channel c ne j := ⟨(k.channel c ne j).1.trans (h.channel c ne j).1, (k.channel c ne j).2.trans (h.channel c ne j).2⟩
  commitment c j := (k.commitment c j).trans (h.commitment c j)
  target c j := by
    rcases k.target c j with same | zero
    · exact same ▸ h.target c j
    · exact .inr zero

theorem modVol_local (v : Volume) (f : Vol → Vol) (s : State) : Local v s (s.modVol v f) :=
  { Local.refl v s with vol := fun w ne => State.vol_modVol_ne s v w f ne }

theorem setGate_gateOpen_ne {v w : Volume} (x : Bool) (s : State) (ne : w ≠ v) :
    (s.setGate v x).gateOpen w = s.gateOpen w := by
  unfold State.setGate State.gateOpen
  cases hv : v.turbo? with
  | none => rfl
  | some a =>
    cases hw : w.turbo? with
    | none => rfl
    | some b =>
      have volume : ∀ {u : Volume} {t : Turbo}, u.turbo? = some t → u = t.volume := by
        intro u t h
        cases u <;> simp [Volume.turbo?] at h <;> subst h <;> rfl
      have apart : b ≠ a := fun e => ne ((volume hw).trans ((congrArg Turbo.volume e).trans (volume hv).symm))
      exact Per5.getT_setT_ne _ _ _ _ apart

theorem setGate_local (v : Volume) (x : Bool) (s : State) : Local v s (s.setGate v x) := by
  have gate := fun w => setGate_gateOpen_ne (v := v) (w := w) x s
  obtain ⟨g, h⟩ := s.setGate_eq v x
  rw [h] at gate ⊢
  exact { Local.refl v s with gate := gate }

theorem post_local (v : Volume) (a : List Link) (n : Notice) (s : State) : Local v s (post a n s) :=
  { Local.refl v s with }

theorem setFlag_local (v : Volume) (f : Flag) (s : State) : Local v s (setFlag v f s) := by
  unfold setFlag
  split
  · dsimp only
    split
    · exact modVol_local v _ s
    · exact (modVol_local v _ s).trans (post_local v _ _ _)
  · exact Local.refl v s

theorem setFlag?_local (v : Volume) (f : Option Flag) (s : State) : Local v s (setFlag? v f s) := by
  cases f with
  | none => exact Local.refl v s
  | some f => exact setFlag_local v f s

theorem countOn_local (v : Volume) (f : Counters → Counters) (s : State) : Local v s (countOn v f s) := by
  unfold countOn
  split
  · exact modVol_local v _ s
  · exact Local.refl v s

theorem recordEnd_local (v : Volume) (o : StepOutcome) (f : Option FailKind) (n : Option Note) (s : State) :
    Local v s (recordEnd v o f n s) := by
  unfold recordEnd
  split
  · exact (modVol_local v _ s).trans (post_local v _ _ _)
  · exact Local.refl v s

theorem dbc_local (v : Volume) {s t : State} (h : ∃ b, t = { s with dbc := b }) : Local v s t := by
  obtain ⟨b, rfl⟩ := h
  exact { Local.refl v s with }

theorem postWrite_local (v : Volume) (d : Device) (x : BusValue) (k : WriteClass) (s : State) :
    Local v s (postWrite d x k s) := dbc_local v (postWrite_dbc d x k s)

theorem modReu_local (c : Chamber) (f : Reu → Reu) (s : State) : Local (.ch c) s (s.modReu c f) :=
  { Local.refl (.ch c) s with reu := fun d ne => State.reuOf_modReu_ne s c d f fun e => ne (congrArg Volume.ch e.symm) }

theorem setDetector_local (c : Chamber) (x : Detector) (s : State) : Local (.ch c) s (s.setDetector c x) :=
  { Local.refl (.ch c) s with
    detector := fun d ne => State.detector_setDetector_ne s c d x fun e => ne (congrArg Volume.ch e.symm) }

theorem rfOff_local (c : Chamber) (s : State) : Local (.ch c) s (rfOff c s) := modReu_local c _ s

theorem disarm_local (c : Chamber) (s : State) : Local (.ch c) s (disarm c s) := setDetector_local c _ s

theorem withdrawGas_local (c : Chamber) (s : State) : Local (.ch c) s (withdrawGas c s) := by
  refine { Local.refl (.ch c) s with gas := ?_ }
  simp only [withdrawGas, List.filter_filter]
  refine List.filter_congr fun e _ => ?_
  by_cases h : e.chamber = c <;> simp [h]

/-- The start of a transition to 0 (R102) touches its own channel alone. -/
theorem zeroChannel_local (c : Chamber) (cls : WriteClass) (k : Chan) (s : State) :
    Local (.ch c) s (zeroChannel c cls s k) := by
  have commitment := fun d j => zeroChannel_commitment c d k j cls s
  unfold zeroChannel at commitment ⊢
  split
  · exact Local.refl _ s
  next moving =>
    rw [if_neg moving] at commitment
    obtain ⟨b, h⟩ := startTransition_eq c k 0 0 cls s
    have apart : ∀ {d j}, d ≠ c → (d, j) ≠ (c, k) := fun ne e => ne (Prod.mk.inj e).1
    rw [h] at commitment ⊢
    refine { Local.refl (.ch c) s with channel := fun d ne j => ?_, commitment := commitment, target := fun d j => ?_ }
    · have other := apart (j := j) fun e : d = c => ne (congrArg Volume.ch e.symm)
      exact ⟨Per4.getK_setK_ne _ _ _ _ _ _ other, Per4.getK_setK_ne _ _ _ _ _ _ other⟩
    · by_cases e : (d, j) = (c, k)
      · obtain ⟨rfl, rfl⟩ := Prod.mk.inj e
        exact .inr (congrArg ChannelRow.target (Per4.getK_setK_self _ _ _ _))
      · exact .inl (congrArg ChannelRow.target (Per4.getK_setK_ne _ _ _ _ _ _ e))

theorem foldl_local {α : Type} {v : Volume} (f : State → α → State) (h : ∀ s a, Local v s (f s a)) (l : List α)
    (s : State) : Local v s (l.foldl f s) :=
  List.foldlRecOn (motive := fun t => Local v s t) l f (Local.refl v s) fun t ht a _ => ht.trans (h t a)

theorem zeroChamber_local (c : Chamber) (cls : WriteClass) (s : State) : Local (.ch c) s (zeroChamber c cls s) :=
  foldl_local _ (fun s k => zeroChannel_local c cls k s) _ s

theorem setVent_local (v : Volume) (x : Bool) (s : State) : Local v s (setVent v x s) := modVol_local v _ s

theorem releaseRough_local (v : Volume) (s : State) : Local v s (releaseRough v s) := by
  refine { modVol_local v (fun x => { x with roughOpen := false }) s with
    vol := fun w ne => State.vol_modVol_ne _ v w _ ne, grants := ?_, queue := ?_ }
  · simp [releaseRough_rma]
  · simp [releaseRough_rma]

theorem joinRough_local (v : Volume) (s : State) : Local v s (joinRough v s) := by
  refine { modVol_local v (fun x => { x with phase := .waitRough, admissionCount := 0 }) s with
    vol := fun w ne => State.vol_modVol_ne _ v w _ ne, queue := ?_ }
  simp [joinRough_rma]

theorem windDownChamber_local (c : Chamber) (s : State) : Local (.ch c) s (windDownChamber c s) :=
  ((((rfOff_local c s).trans (disarm_local c _)).trans (withdrawGas_local c _)).trans
    (zeroChamber_local c .urgent _)).trans (postWrite_local _ _ _ _ _)

/-- What the owners do that a volume has beside its valves (R55): REU, PEC, GAT and DBC for a chamber. -/
def windDownOwners (v : Volume) (s : State) : State :=
  match v with
  | .ch c => windDownChamber c s
  | _ => s

theorem windDownPlant_eq (v : Volume) (x : Bool) (s : State) : windDownPlant v x s =
    if x then (setVent v false (releaseRough v (windDownOwners v s))).setGate v false
    else setVent v false (releaseRough v (windDownOwners v s)) := by
  cases v <;> rfl

theorem windDownOwners_local (v : Volume) (s : State) : Local v s (windDownOwners v s) := by
  cases v with
  | ch c => exact windDownChamber_local c s
  | tc => exact Local.refl _ s
  | ll l => exact Local.refl _ s

theorem windDownPlant_local (v : Volume) (x : Bool) (s : State) : Local v s (windDownPlant v x s) := by
  have closed := ((windDownOwners_local v s).trans (releaseRough_local v _)).trans (setVent_local v false _)
  rw [windDownPlant_eq]
  split
  · exact closed.trans (setGate_local v false _)
  · exact closed

theorem windDown_local (v : Volume) (h : Option HoldRecord) (s : State) : Local v s (windDown v h s) :=
  (modVol_local v _ s).trans (windDownPlant_local v _ _)

/-! ## Posts that stand (R121, R122) -/

theorem postWrite_postStands {d : Device} {s : State} (x : BusValue) (k : WriteClass) (ok : (s.device d).failed = false) :
    PostStands d x k (postWrite d x k s) := by
  rcases placeWrite_cases d x k s with ⟨failed, -⟩ | ⟨-, w, value, fresh, joined, n, hp⟩
  · exact absurd failed (by simp [ok])
  · refine ⟨w, value, fun urgent => ?_, arbitrate_stands (.inl ?_)⟩
    · subst urgent
      cases hy : (s.device d).pending with
      | none => rw [fresh hy]
      | some y => rw [joined y hy]; cases y.cls <;> rfl
    · rw [hp]
      exact congrArg DeviceRow.pending (State.device_setDevice_self s d _)

theorem PostStands.postWrite {d e : Device} {x y : BusValue} {j k : WriteClass} {s : State} (h : PostStands d x k s)
    (ne : d ≠ e) : PostStands d x k (postWrite e y j s) := by
  obtain ⟨w, value, cls, stands⟩ := h
  refine ⟨w, value, cls, arbitrate_stands ?_⟩
  rw [placeWrite_device_ne e d y j s ne, placeWrite_inFlight]
  exact stands

/-- A post stands as long as the device bus controller is left alone. -/
theorem PostStands.of_dbc {d : Device} {x : BusValue} {k : WriteClass} {s t : State} (h : PostStands d x k s)
    (same : t.dbc = s.dbc) : PostStands d x k t := by
  obtain ⟨w, value, cls, stands⟩ := h
  refine ⟨w, value, cls, ?_⟩
  unfold State.device at stands ⊢
  rwa [same]

/-! ## A chamber's channels given target 0 (R102) -/

/-- What a fold does to one of its places, where the turns of the others keep what stands before and after its own. -/
theorem foldl_turn {α σ : Type} {f : σ → α → σ} {P Q : σ → Prop} {a : α}
    (before : ∀ s b, b ≠ a → P s → P (f s b)) (turn : ∀ s, P s → Q (f s a)) (after : ∀ s b, b ≠ a → Q s → Q (f s b))
    (l : List α) (distinct : l.Nodup) (h : a ∈ l) (s : σ) (hs : P s) : Q (l.foldl f s) := by
  induction l generalizing s with
  | nil => exact absurd h List.not_mem_nil
  | cons b l ih =>
    obtain ⟨hb, hl⟩ := List.nodup_cons.1 distinct
    rw [List.foldl_cons]
    by_cases e : b = a
    · subst e
      exact List.foldlRecOn (motive := Q) l f (turn s hs) fun t ht c hc =>
        after t c (fun e => hb (e ▸ hc)) ht
    · exact ih hl ((List.mem_cons.1 h).resolve_left (Ne.symm e)) _ (before s b e hs)

/-- Channel `k` of `c` taken to 0 by a jump of class `cls` from `s` to `t` (R97, R102, R115). -/
def Zeroed (c : Chamber) (cls : WriteClass) (s : State) (k : Chan) (t : State) : Prop :=
  (t.row c k).target = 0 ∧ (t.row c k).commitment = (s.row c k).commitment
    ∧ ((t.row c k).inFlight = true ↔ (s.row c k).target ≠ 0 ∨ (s.row c k).inFlight = true)
    ∧ ((s.row c k).target ≠ 0 ∨ (s.row c k).inFlight = true →
        (t.gen c k).posted = 0 ∧ (t.gen c k).target = 0 ∧ (t.gen c k).left = 0 ∧ (t.gen c k).cls = cls
        ∧ ((s.device (.mfc c k)).failed = false → PostStands (.mfc c k) (.flow 0) cls t))
    ∧ ((s.row c k).target = 0 → (s.row c k).inFlight = false → t.gen c k = s.gen c k)

/-- The state a moving channel's zero is posted on. -/
def zeroing (c : Chamber) (k : Chan) (cls : WriteClass) (s : State) : State :=
  ((s.setRow c k ((s.row c k).start 0)).setCheck c k { s.check c k with deviation := 0 }).setGen c k
    ((s.gen c k).jump 0 cls)

theorem zeroChannel_posts {c : Chamber} {k : Chan} {s : State} (cls : WriteClass)
    (h : (s.row c k).target ≠ 0 ∨ (s.row c k).inFlight = true) :
    zeroChannel c cls s k = postWrite (.mfc c k) (.flow 0) cls (zeroing c k cls s) := by
  have moving : ((decide ((s.row c k).target = 0) && !(s.row c k).inFlight) = true) = False := by
    simpa [imp_iff_not_or] using h
  unfold zeroChannel startTransition startGenerator postGenerator
  simp only [moving, if_false, if_true, State.gen_setGen_self]
  rfl

theorem zeroChannel_turn (c : Chamber) (k : Chan) (cls : WriteClass) (s : State) :
    Zeroed c cls s k (zeroChannel c cls s k) := by
  by_cases moving : (s.row c k).target ≠ 0 ∨ (s.row c k).inFlight = true
  · obtain ⟨b, h⟩ := postWrite_dbc (.mfc c k) (.flow 0) cls (zeroing c k cls s)
    have row : (zeroChannel c cls s k).row c k = ⟨(s.row c k).commitment, 0, true⟩ := by
      rw [zeroChannel_posts cls moving, h]
      refine (Per4.getK_setK_self _ _ _ _).trans ?_
      simp [ChannelRow.start]
    have gen : (zeroChannel c cls s k).gen c k = (s.gen c k).jump 0 cls := by
      rw [zeroChannel_posts cls moving, h]
      exact Per4.getK_setK_self _ _ _ _
    rw [Zeroed, row, gen]
    refine ⟨rfl, rfl, ⟨fun _ => moving, fun _ => rfl⟩, fun _ => ⟨rfl, rfl, rfl, rfl, fun ok => ?_⟩, fun target rest => ?_⟩
    · rw [zeroChannel_posts cls moving]
      exact postWrite_postStands _ _ ok
    · simp [target, rest] at moving
  · obtain ⟨target, rest⟩ := not_or.1 moving
    rw [zeroChannel_atRest cls (not_ne_iff.1 target) (Bool.eq_false_iff.2 rest)]
    exact ⟨not_ne_iff.1 target, rfl, ⟨fun h => absurd h rest, fun h => absurd h moving⟩, fun h => absurd h moving,
      fun _ _ => rfl⟩

/-- The turn of another channel leaves a channel's row and generator, its device's state and a zero posted to it. -/
theorem zeroChannel_apart {c : Chamber} {j k : Chan} (cls : WriteClass) (s : State) (ne : j ≠ k) :
    (zeroChannel c cls s j).row c k = s.row c k ∧ (zeroChannel c cls s j).gen c k = s.gen c k
      ∧ ((zeroChannel c cls s j).device (.mfc c k)).failed = (s.device (.mfc c k)).failed
      ∧ (PostStands (.mfc c k) (.flow 0) cls s → PostStands (.mfc c k) (.flow 0) cls (zeroChannel c cls s j)) := by
  by_cases moving : (s.row c j).target ≠ 0 ∨ (s.row c j).inFlight = true
  · rw [zeroChannel_posts cls moving]
    have apart : (c, k) ≠ (c, j) := fun e => ne (Prod.mk.inj e).2.symm
    obtain ⟨b, h⟩ := postWrite_dbc (.mfc c j) (.flow 0) cls (zeroing c j cls s)
    obtain ⟨-, places⟩ := postWrite_placesOnly (.mfc c j) (.flow 0) cls (zeroing c j cls s)
    refine ⟨?_, ?_, ?_, fun stands => ?_⟩
    · rw [h]
      exact Per4.getK_setK_ne _ _ _ _ _ _ apart
    · rw [h]
      exact Per4.getK_setK_ne _ _ _ _ _ _ apart
    · rw [places]
      rfl
    · have stands' : PostStands (.mfc c k) (.flow 0) cls (zeroing c j cls s) := stands
      exact stands'.postWrite fun e => ne (Device.mfc.inj e).2.symm
  · obtain ⟨target, rest⟩ := not_or.1 moving
    rw [zeroChannel_atRest cls (not_ne_iff.1 target) (Bool.eq_false_iff.2 rest)]
    exact ⟨rfl, rfl, rfl, id⟩

theorem nodup_chans : Chan.all.Nodup := by decide

theorem zeroChamber_zeroed (c : Chamber) (cls : WriteClass) (s : State) (k : Chan) :
    Zeroed c cls s k (zeroChamber c cls s) := by
  refine foldl_turn (P := fun t => t.row c k = s.row c k ∧ t.gen c k = s.gen c k
    ∧ (t.device (.mfc c k)).failed = (s.device (.mfc c k)).failed) (fun t j ne => ?_) (fun t => ?_) (fun t j ne => ?_)
    Chan.all nodup_chans (Chan.mem_all k) s ⟨rfl, rfl, rfl⟩
  · obtain ⟨row', gen', failed', -⟩ := zeroChannel_apart cls t ne
    rintro ⟨row, gen, failed⟩
    exact ⟨row'.trans row, gen'.trans gen, failed'.trans failed⟩
  · rintro ⟨row, gen, failed⟩
    have turn := zeroChannel_turn c k cls t
    unfold Zeroed at turn ⊢
    rwa [row, gen, failed] at turn
  · obtain ⟨row', gen', -, stands⟩ := zeroChannel_apart cls t ne
    unfold Zeroed
    rw [row', gen']
    rintro ⟨target, commitment, inFlight, moved, rest⟩
    refine ⟨target, commitment, inFlight, fun h => ?_, rest⟩
    obtain ⟨posted, genTarget, left, class', standing⟩ := moved h
    exact ⟨posted, genTarget, left, class', fun ok => stands (standing ok)⟩

/-- A chamber's six jumps to 0 leave every throttle and its device state alone. -/
theorem zeroChamber_failed (c : Chamber) (cls : WriteClass) (s : State) (d : Device) :
    ((zeroChamber c cls s).device d).failed = (s.device d).failed := by
  refine List.foldlRecOn (motive := fun t : State => (t.device d).failed = (s.device d).failed) Chan.all _ rfl ?_
  rintro t ht k -
  by_cases moving : (t.row c k).target ≠ 0 ∨ (t.row c k).inFlight = true
  · obtain ⟨-, places⟩ := postWrite_placesOnly (.mfc c k) (.flow 0) cls (zeroing c k cls t)
    rw [zeroChannel_posts cls moving, places]
    exact ht
  · obtain ⟨target, rest⟩ := not_or.1 moving
    rw [zeroChannel_atRest cls (not_ne_iff.1 target) (Bool.eq_false_iff.2 rest)]
    exact ht

/-- A channel's zeroing outlives a post to another device. -/
theorem Zeroed.postWrite {c : Chamber} {cls : WriteClass} {s t : State} {k : Chan} (h : Zeroed c cls s k t) {d : Device}
    (ne : .mfc c k ≠ d) (x : BusValue) (j : WriteClass) : Zeroed c cls s k (postWrite d x j t) := by
  obtain ⟨target, commitment, inFlight, moved, rest⟩ := h
  obtain ⟨b, e⟩ := postWrite_dbc d x j t
  have row : (Machine.postWrite d x j t).row c k = t.row c k := by rw [e]; rfl
  have gen : (Machine.postWrite d x j t).gen c k = t.gen c k := by rw [e]; rfl
  rw [Zeroed, row, gen]
  refine ⟨target, commitment, inFlight, fun m => ?_, rest⟩
  obtain ⟨posted, genTarget, left, class', standing⟩ := moved m
  exact ⟨posted, genTarget, left, class', fun ok => (standing ok).postWrite ne⟩

/-- A channel's zeroing outlives a change that leaves GAT's rows, the generators and the device bus alone. -/
theorem Zeroed.congr {c : Chamber} {cls : WriteClass} {s t u : State} {k : Chan} (h : Zeroed c cls s k t)
    (gat : u.gat = t.gat) (fru : u.fru = t.fru) (dbc : u.dbc = t.dbc) : Zeroed c cls s k u := by
  have row : u.row c k = t.row c k := by unfold State.row; rw [gat]
  have gen : u.gen c k = t.gen c k := by unfold State.gen; rw [fru]
  obtain ⟨target, commitment, inFlight, moved, rest⟩ := h
  rw [Zeroed, row, gen]
  refine ⟨target, commitment, inFlight, fun m => ?_, rest⟩
  obtain ⟨posted, genTarget, left, class', standing⟩ := moved m
  exact ⟨posted, genTarget, left, class', fun ok => (standing ok).of_dbc dbc⟩

/-! ## Wind-down (R55) -/

/-- What a chamber's wind-down leaves of its plant (R55): RF off, detector disarmed, no gas entry, every channel on its way to
0 as class 1, and the throttle posted OPEN. -/
structure ChamberOff (c : Chamber) (s t : State) : Prop where
  reu : t.reuOf c = { s.reuOf c with rfOn := false, powerCode := 0 }
  detector : t.detector c = { s.detector c with armed := false }
  gas : t.gat.queue = s.gat.queue.filter fun e => e.chamber != c
  zeroed : ∀ k, Zeroed c .urgent s k t
  throttle : (s.device (.throttle c)).failed = false → PostStands (.throttle c) .opened .urgent t

theorem windDownChamber_off (c : Chamber) (s : State) : ChamberOff c s (windDownChamber c s) := by
  have zeroed := fun k => (zeroChamber_zeroed c .urgent (withdrawGas c (disarm c (rfOff c s))) k).postWrite
    (d := .throttle c) (fun e => Device.noConfusion e) .opened .urgent
  obtain ⟨rows, fru, dbc, h⟩ := foldl_zeroChannel_eq c .urgent Chan.all (withdrawGas c (disarm c (rfOff c s)))
  obtain ⟨b, k⟩ := postWrite_dbc (.throttle c) .opened .urgent
    (zeroChamber c .urgent (withdrawGas c (disarm c (rfOff c s))))
  refine ⟨?_, ?_, ?_, zeroed, fun ok => postWrite_postStands _ _ ((zeroChamber_failed c .urgent _ _).trans ok)⟩
  · rw [windDownChamber, k, zeroChamber, h]
    exact State.reuOf_modReu_self s c fun u => { u with rfOn := false, powerCode := 0 }
  · rw [windDownChamber, k, zeroChamber, h]
    exact State.detector_setDetector_self (rfOff c s) c { s.detector c with armed := false }
  · rw [windDownChamber, k, zeroChamber, h]
    rfl

/-- What closing the valves of a winding-down volume leaves alone: its owners' plant. -/
theorem windDownPlant_keeps (v : Volume) (x : Bool) (s : State) :
    (windDownPlant v x s).reu = (windDownOwners v s).reu ∧ (windDownPlant v x s).pec = (windDownOwners v s).pec
      ∧ (windDownPlant v x s).gat = (windDownOwners v s).gat ∧ (windDownPlant v x s).fru = (windDownOwners v s).fru
      ∧ (windDownPlant v x s).dbc = (windDownOwners v s).dbc := by
  rw [windDownPlant_eq]
  split
  · obtain ⟨g, h⟩ := (setVent v false (releaseRough v (windDownOwners v s))).setGate_eq v false
    rw [h]
    exact ⟨rfl, rfl, rfl, rfl, rfl⟩
  · exact ⟨rfl, rfl, rfl, rfl, rfl⟩

theorem windDownOwners_rma (v : Volume) (s : State) : (windDownOwners v s).rma = s.rma
    ∧ (windDownOwners v s).gates = s.gates := by
  cases v with
  | ch c =>
    obtain ⟨rows, fru, dbc, h⟩ := foldl_zeroChannel_eq c .urgent Chan.all (withdrawGas c (disarm c (rfOff c s)))
    obtain ⟨b, k⟩ := postWrite_dbc (.throttle c) .opened .urgent
      (zeroChamber c .urgent (withdrawGas c (disarm c (rfOff c s))))
    rw [windDownOwners, windDownChamber, k, zeroChamber, h]
    exact ⟨rfl, rfl⟩
  | tc => exact ⟨rfl, rfl⟩
  | ll l => exact ⟨rfl, rfl⟩

theorem setGate_rma (v : Volume) (x : Bool) (s : State) : (s.setGate v x).rma = s.rma := by
  obtain ⟨g, h⟩ := s.setGate_eq v x
  rw [h]

/-- A winding-down volume leaves the manifold (R55, R74). -/
theorem windDown_rma (v : Volume) (h : Option HoldRecord) (s : State) : (windDown v h s).rma
    = ⟨s.rma.grants.filter fun g => g.holder != v, s.rma.queue.filter fun w => w != v⟩ := by
  unfold windDown
  dsimp only
  rw [windDownPlant_eq]
  have rma : ∀ t : State, (setVent v false (releaseRough v (windDownOwners v t))).rma
      = ⟨t.rma.grants.filter fun g => g.holder != v, t.rma.queue.filter fun w => w != v⟩ := by
    intro t
    rw [setVent, State.modVol_rma, releaseRough_rma, (windDownOwners_rma v t).1]
  split
  · rw [setGate_rma, rma]
    rfl
  · rw [rma]
    rfl

/-- A winding-down volume keeps its gate as it stands, or closes it for the causes that do (R55). -/
theorem windDown_gate (v : Volume) (h : Option HoldRecord) (s : State) :
    (windDown v h s).gateOpen v = (s.gateOpen v && !((h.map fun x => x.cause.closesGate).getD false)) := by
  unfold windDown
  dsimp only
  rw [windDownPlant_eq]
  split
  next closes =>
    rw [State.gateOpen_setGate_false, closes]
    simp
  next stays =>
    rw [Bool.eq_false_iff.2 stays, setVent, State.modVol_gateOpen, releaseRough, State.modVol_gateOpen]
    have gates := (windDownOwners_rma v (s.modVol v fun x =>
      { x with state := if h.isSome then .safing else .ending, phase := .none, hold := h })).2
    simp only [State.gateOpen, gates, Bool.not_false, Bool.and_true]
    rfl

theorem windDown_chamberOff (c : Chamber) (h : Option HoldRecord) (s : State) :
    ChamberOff c s (windDown (.ch c) h s) := by
  obtain ⟨reu, detector, gas, zeroed, throttle⟩ := windDownChamber_off c (s.modVol (.ch c) fun x =>
    { x with state := if h.isSome then .safing else .ending, phase := .none, hold := h })
  obtain ⟨reu', pec', gat', fru', dbc'⟩ := windDownPlant_keeps (.ch c) ((h.map fun x => x.cause.closesGate).getD false)
    (s.modVol (.ch c) fun x => { x with state := if h.isSome then .safing else .ending, phase := .none, hold := h })
  refine ⟨?_, ?_, ?_, fun k => (zeroed k).congr gat' fru' dbc', fun ok => (throttle ok).of_dbc dbc'⟩
  · rw [windDown, State.reuOf, reu']
    exact reu
  · rw [windDown, State.detector, pec']
    exact detector
  · rw [windDown, gat']
    exact gas

/-- Settles O23. -/
theorem windDownActions : Obligations.WindDownActions := by
  intro v h s
  have alone := windDown_local v h s
  refine ⟨(windDown_vol v h s).2, ?_, ?_, windDown_gate v h s, fun w ne => ⟨alone.vol w ne, alone.gate w ne⟩,
    fun c ne => ⟨alone.reu c ne, alone.detector c ne, alone.channel c ne⟩, fun c hv => ?_⟩
  · simp [State.grant?, windDown_rma]
  · simp [State.inRoughQueue, windDown_rma]
  · subst hv
    obtain ⟨reu, detector, gas, zeroed, throttle⟩ := windDown_chamberOff c h s
    refine ⟨reu, detector, ?_, zeroed, throttle⟩
    simp [State.inGasQueue, gas]

end Sys2Proof.Machine
end

section
/-! Proofs about step starts and completions: what they leave to the other volumes, and which record runs after them. -/

namespace Sys2Proof.Machine

open Sys2Proof

/-! ## Failures and faults are their volume's own -/

theorem failed_local (v : Volume) (f : FailKind) (s : State) : Local v s (failed v f s) :=
  ((recordEnd_local v _ _ _ s).trans (setFlag?_local v _ _)).trans (countOn_local v _ _)

/-- A failure changes nothing, or records itself and winds down with the queue kept or discarded (R52). -/
theorem failStep_cases (v : Volume) (f : FailKind) (s : State) : failStep v f s = s
    ∨ ∃ r, (s.vol v).state = .running ∧ (s.vol v).current = some r
      ∧ ((r.onFail = .hold ∧ failStep v f s
            = windDown v (some ⟨.stepFailed, some f, r.tag, (s.vol v).phase⟩) (failed v f s))
        ∨ (r.onFail = .abort ∧ failStep v f s = windDown v none (discard v (failed v f s)))) := by
  by_cases running : (s.vol v).state = .running
  · cases current : (s.vol v).current with
    | none => exact .inl (by simp only [failStep, running, current])
    | some r =>
      refine .inr ⟨r, running, rfl, ?_⟩
      cases onFail : r.onFail with
      | hold => exact .inl ⟨rfl, failStep_hold f running current onFail⟩
      | abort => exact .inr ⟨rfl, failStep_abort f running current onFail⟩
  · exact .inl (failStep_of_not_running f running)

theorem failStep_local (v : Volume) (f : FailKind) (s : State) : Local v s (failStep v f s) := by
  rcases failStep_cases v f s with h | ⟨r, -, -, ⟨-, h⟩ | ⟨-, h⟩⟩ <;> rw [h]
  · exact Local.refl v s
  · exact (failed_local v f s).trans (windDown_local v _ _)
  · exact ((failed_local v f s).trans (modVol_local v _ _)).trans (windDown_local v _ _)

theorem underflow_local (v : Volume) (s : State) : Local v s (underflow v s) :=
  ((setFlag_local v .underflow s).trans (countOn_local v Counters.countUnderflow _)).trans
    (windDown_local v (some (Vol.holdRecord _ .underflow none)) _)

/-! ## The record that runs -/

/-- From `s` to `t` only `v` acted; it keeps its current record, and where it still runs it ran before and keeps its queue,
hold record and last step end. -/
structure Within (v : Volume) (s t : State) : Prop where
  alone : Local v s t
  current : (t.vol v).current = (s.vol v).current
  runs : (t.vol v).state = .running → (s.vol v).state = .running ∧ (t.vol v).queue = (s.vol v).queue
    ∧ (t.vol v).hold = (s.vol v).hold ∧ (t.vol v).lastEnd = (s.vol v).lastEnd

theorem Within.of_vol {v : Volume} {s t : State} (alone : Local v s t) (vol : t.vol v = s.vol v) : Within v s t :=
  ⟨alone, by rw [vol], fun h => by rw [vol] at h ⊢; exact ⟨h, rfl, rfl, rfl⟩⟩

theorem Within.refl (v : Volume) (s : State) : Within v s s := .of_vol (Local.refl v s) rfl

theorem Within.trans {v : Volume} {s t u : State} (h : Within v s t) (k : Within v t u) : Within v s u := by
  refine ⟨h.alone.trans k.alone, k.current.trans h.current, fun running => ?_⟩
  obtain ⟨running', queue', hold', lastEnd'⟩ := k.runs running
  obtain ⟨running'', queue, hold, lastEnd⟩ := h.runs running'
  exact ⟨running'', queue'.trans queue, hold'.trans hold, lastEnd'.trans lastEnd⟩

/-- A change of a volume's phase, counts and valve commands. -/
theorem modVol_within (v : Volume) (f : Vol → Vol) (s : State) (current : (f (s.vol v)).current = (s.vol v).current)
    (state : (f (s.vol v)).state = (s.vol v).state) (queue : (f (s.vol v)).queue = (s.vol v).queue)
    (hold : (f (s.vol v)).hold = (s.vol v).hold) (lastEnd : (f (s.vol v)).lastEnd = (s.vol v).lastEnd) :
    Within v s (s.modVol v f) := by
  refine ⟨modVol_local v f s, ?_, fun h => ?_⟩
  · rw [State.vol_modVol_self, current]
  · rw [State.vol_modVol_self] at h ⊢
    exact ⟨state ▸ h, queue, hold, lastEnd⟩

theorem phase_within (v : Volume) (p : Phase) (s : State) : Within v s (s.modVol v fun x => { x with phase := p }) :=
  modVol_within v _ s rfl rfl rfl rfl rfl

/-- A volume that winds down does not run, and keeps the record that was current. -/
theorem windDown_within {v : Volume} {s t : State} (h : Option HoldRecord) (alone : Local v s t)
    (current : (t.vol v).current = (s.vol v).current) : Within v s (windDown v h t) := by
  refine ⟨alone.trans (windDown_local v h t), ?_, fun running => ?_⟩
  · rw [(windDown_vol v h t).2]
    exact current
  · rw [(windDown_vol v h t).2] at running
    cases h <;> simp at running

theorem failStep_within (v : Volume) (f : FailKind) (s : State) : Within v s (failStep v f s) := by
  have current : ((failed v f s).vol v).current = (s.vol v).current := by rw [failed_vol]
  rcases failStep_cases v f s with h | ⟨r, -, -, ⟨-, h⟩ | ⟨-, h⟩⟩ <;> rw [h]
  · exact Within.refl v s
  · exact windDown_within _ (failed_local v f s) current
  · refine windDown_within _ ((failed_local v f s).trans (modVol_local v _ _)) ?_
    rw [discard, State.vol_modVol_self]
    exact current

theorem setVent_within (v : Volume) (x : Bool) (s : State) : Within v s (setVent v x s) :=
  modVol_within v _ s rfl rfl rfl rfl rfl

theorem setGate_within (v : Volume) (x : Bool) (s : State) : Within v s (s.setGate v x) :=
  .of_vol (setGate_local v x s) (setGate_vol v v x s)

theorem enterHighPump_within (v : Volume) (s : State) : Within v s (enterHighPump v s) :=
  (modVol_within v _ s rfl rfl rfl rfl rfl).trans (setGate_within v true _)

theorem joinRough_within (v : Volume) (s : State) : Within v s (joinRough v s) := by
  refine ⟨joinRough_local v s, ?_, fun h => ?_⟩
  · rw [joinRough_vol_self]
  · rw [joinRough_vol_self] at h ⊢
    exact ⟨h, rfl, rfl, rfl⟩

theorem joinGas_local (c : Chamber) (l : List FlowEntry) (s : State) : Local (.ch c) s (joinGas c l s) := by
  refine { modVol_local (.ch c) (fun x => { x with admissionCount := 0 }) s with
    vol := fun w ne => State.vol_modVol_ne _ _ w _ ne, gas := ?_ }
  simp [joinGas]

theorem joinGas_vol_self (c : Chamber) (l : List FlowEntry) (s : State) :
    (joinGas c l s).vol (.ch c) = { s.vol (.ch c) with admissionCount := 0 } := by
  rw [joinGas, State.vol_modVol_self]
  rfl

theorem joinGas_within (c : Chamber) (l : List FlowEntry) (s : State) : Within (.ch c) s (joinGas c l s) := by
  refine ⟨joinGas_local c l s, ?_, fun h => ?_⟩
  · rw [joinGas_vol_self]
  · rw [joinGas_vol_self] at h ⊢
    exact ⟨h, rfl, rfl, rfl⟩

theorem requestGas_within (c : Chamber) (l : List FlowEntry) (s : State) : Within (.ch c) s (requestGas c l s) := by
  unfold requestGas
  split
  · exact failStep_within _ _ s
  · exact joinGas_within c l s

theorem modReu_within (c : Chamber) (f : Reu → Reu) (s : State) : Within (.ch c) s (s.modReu c f) :=
  .of_vol (modReu_local c f s) rfl

theorem setDetector_within (c : Chamber) (x : Detector) (s : State) : Within (.ch c) s (s.setDetector c x) :=
  .of_vol (setDetector_local c x s) rfl

theorem postWrite_within (v : Volume) (d : Device) (x : BusValue) (k : WriteClass) (s : State) :
    Within v s (postWrite d x k s) := by
  refine .of_vol (postWrite_local v d x k s) ?_
  obtain ⟨b, h⟩ := postWrite_dbc d x k s
  rw [h]
  rfl

theorem zeroChannel_within (c : Chamber) (cls : WriteClass) (k : Chan) (s : State) :
    Within (.ch c) s (zeroChannel c cls s k) := by
  refine .of_vol (zeroChannel_local c cls k s) ?_
  obtain ⟨rows, fru, dbc, h⟩ := foldl_zeroChannel_eq c cls [k] s
  rw [List.foldl_cons, List.foldl_nil] at h
  rw [h]
  rfl

theorem foldl_within {α : Type} {v : Volume} (f : State → α → State) (h : ∀ s a, Within v s (f s a)) (l : List α)
    (s : State) : Within v s (l.foldl f s) :=
  List.foldlRecOn (motive := fun t => Within v s t) l f (Within.refl v s) fun t ht a _ => ht.trans (h t a)

theorem zeroChamber_within (c : Chamber) (cls : WriteClass) (s : State) : Within (.ch c) s (zeroChamber c cls s) :=
  foldl_within _ (fun s k => zeroChannel_within c cls k s) _ s

theorem enterEtch_within (c : Chamber) (r : StepRecord) (s : State) : Within (.ch c) s (enterEtch c r s) := by
  have entered := (modVol_within (.ch c) (fun x => { x with phase := .etch }) s rfl rfl rfl rfl rfl).trans
    (modReu_within c (fun u =>
      { u with rfOn := true, powerCode := powerCodeOf r.power, gated := 0, dropout := 0, endGated := r.duration }) _)
  unfold enterEtch
  dsimp only
  split
  · exact entered.trans (setDetector_within c _ _)
  · exact entered

theorem enterFill_within (v : Volume) (r : StepRecord) (s : State) : Within v s (enterFill v r s) := by
  cases v with
  | ch c => exact (phase_within _ .waitGas s).trans (requestGas_within c r.flows _)
  | tc => exact (setVent_within _ true s).trans (phase_within _ .fill _)
  | ll l => exact (setVent_within _ true s).trans (phase_within _ .fill _)

theorem startPump_within (v : Volume) (r : StepRecord) (s : State) : Within v s (startPump v r s).state := by
  unfold startPump
  dsimp only
  split
  · exact failStep_within v _ s
  · split
    · exact Within.refl v s
    · split
      · exact (setVent_within v false s).trans (enterHighPump_within v _)
      · have closed := (setVent_within v false s).trans (setGate_within v false _)
        split
        · split
          · exact closed.trans (phase_within v .turboWait _)
          · exact closed
        · exact closed.trans (joinRough_within v _)

theorem startVent_within (v : Volume) (s : State) : Within v s (startVent v s) :=
  ((setGate_within v false s).trans (setVent_within v true _)).trans (phase_within v .venting _)

theorem purgeFrom_within (v : Volume) (r : StepRecord) (n : Nat) (s : State) :
    Within v s (purgeFrom v r n s).state := by
  induction n generalizing s with
  | zero => exact Within.refl v s
  | succ n ih =>
    have fresh : Within v s (s.modVol v fun x => { x with retriesLeft := (s.items.pumpBackRetries.get v).toNat }) :=
      modVol_within v _ s rfl rfl rfl rfl rfl
    unfold purgeFrom
    dsimp only
    split
    · have counted := fresh.trans (modVol_within v (fun x => { x with cyclesLeft := x.cyclesLeft - 1 }) _ rfl rfl rfl rfl rfl)
      split
      · exact counted
      · have next := counted.trans (modVol_within v (fun x => { x with limitCount := 0 }) _ rfl rfl rfl rfl rfl)
        split
        · exact next.trans (ih _)
        · exact next.trans (enterFill_within v r _)
    · exact fresh.trans (joinRough_within v _)

theorem beginCycle_within (v : Volume) (r : StepRecord) (s : State) : Within v s (beginCycle v r s).state := by
  have next : Within v s (s.modVol v fun x => { x with limitCount := 0 }) := modVol_within v _ s rfl rfl rfl rfl rfl
  unfold beginCycle
  dsimp only
  split
  · exact next.trans (purgeFrom_within v r _ _)
  · exact next.trans (enterFill_within v r _)

theorem startGasKind_within (c : Chamber) (r : StepRecord) (carry : Bool) (s : State) :
    Within (.ch c) s (startGasKind c r carry s) := by
  have windowed : Within (.ch c) s
      (s.modVol (.ch c) fun x => { x with window := windowOf r (s.code? (.vol (.ch c))) }) :=
    modVol_within _ _ s rfl rfl rfl rfl rfl
  unfold startGasKind
  cases carry with
  | true => exact (windowed.trans (enterEtch_within c r _)).trans (requestGas_within c r.flows _)
  | false =>
    exact (windowed.trans (phase_within _ .waitGas _)).trans (requestGas_within c r.flows _)

theorem startChamberPlant_within (c : Chamber) (r : StepRecord) (carry : Bool) (s : State) :
    Within (.ch c) s (startChamberPlant c r carry s) := by
  have begun := modReu_within c (fun u => u.begin r carry) s
  have zeroed : ∀ t, Within (.ch c) t (match r.kind with
      | .pump | .vent | .purge => zeroChamber c .normal t
      | _ => t) := by
    intro t
    split
    · exact zeroChamber_within c .normal t
    · exact zeroChamber_within c .normal t
    · exact zeroChamber_within c .normal t
    · exact Within.refl _ t
  unfold startChamberPlant
  dsimp only
  split
  · exact (begun.trans (zeroed _)).trans (postWrite_within _ _ _ _ _)
  · exact begun.trans (zeroed _)

theorem enterKind_within (v : Volume) (r : StepRecord) (carry : Bool) (s : State) :
    Within v s (enterKind v r carry s).state := by
  unfold enterKind
  cases r.kind with
  | pump => exact startPump_within v r s
  | vent => exact startVent_within v s
  | purge => exact (setGate_within v false s).trans (beginCycle_within v r _)
  | dwell => exact phase_within v .dwell s
  | gas | strike | etch =>
    cases v with
    | ch c => exact startGasKind_within c r carry s
    | tc => exact Within.refl _ s
    | ll l => exact Within.refl _ s

/-- The sequencer and the plant of a volume at a step start, before the kind's own start (R45, R46). -/
def begun (v : Volume) (r : StepRecord) (rest : List StepRecord) (carry : Bool) (s : State) : State :=
  let s := s.modVol v fun x => x.begin r rest (s.items.stepLimit.get v).toNat
  match v with
  | .ch c => startChamberPlant c r carry s
  | _ => s

theorem startStep_eq (v : Volume) (r : StepRecord) (rest : List StepRecord) (carry : Bool) (s : State) :
    startStep v r rest carry s
      = enterKind v r (carry && r.kind == .etch) (begun v r rest (carry && r.kind == .etch) s) := rfl

theorem begun_vol_within (v : Volume) (r : StepRecord) (rest : List StepRecord) (carry : Bool) (s : State) :
    Within v (s.modVol v fun x => x.begin r rest (s.items.stepLimit.get v).toNat) (begun v r rest carry s) := by
  cases v with
  | ch c => exact startChamberPlant_within c r carry _
  | tc => exact Within.refl _ _
  | ll l => exact Within.refl _ _

theorem startChamberPlant_vols (c : Chamber) (r : StepRecord) (carry : Bool) (s : State) :
    (startChamberPlant c r carry s).vols = s.vols := by
  have zeroed : ∀ t : State, (match r.kind with
      | .pump | .vent | .purge => zeroChamber c .normal t
      | _ => t).vols = t.vols := by
    intro t
    split
    · exact zeroChamber_vols c .normal t
    · exact zeroChamber_vols c .normal t
    · exact zeroChamber_vols c .normal t
    · rfl
  unfold startChamberPlant
  dsimp only
  split
  · obtain ⟨b, h⟩ := postWrite_dbc (.throttle c) (by assumption) .normal _
    rw [h]
    exact zeroed _
  · exact zeroed _

/-- The sequencer at a step start (R45). -/
theorem begun_vol_self (v : Volume) (r : StepRecord) (rest : List StepRecord) (carry : Bool) (s : State) :
    (begun v r rest carry s).vol v = (s.vol v).begin r rest (s.items.stepLimit.get v).toNat := by
  have plant : (begun v r rest carry s).vols
      = (s.modVol v fun x => x.begin r rest (s.items.stepLimit.get v).toNat).vols := by
    cases v with
    | ch c => exact startChamberPlant_vols c r carry _
    | tc => rfl
    | ll l => rfl
  exact (congrArg (Per7.get · v) plant).trans (State.vol_modVol_self s v _)

theorem begun_local (v : Volume) (r : StepRecord) (rest : List StepRecord) (carry : Bool) (s : State) :
    Local v s (begun v r rest carry s) :=
  (modVol_local v _ s).trans (begun_vol_within v r rest carry s).alone

theorem startStep_local (v : Volume) (r : StepRecord) (rest : List StepRecord) (carry : Bool) (s : State) :
    Local v s (startStep v r rest carry s).state :=
  (begun_local v r rest _ s).trans (enterKind_within v r _ _).alone

/-- A started step is current; where it still runs, the rest is its queue and no hold record stands (R45). -/
theorem startStep_runs (v : Volume) (r : StepRecord) (rest : List StepRecord) (carry : Bool) (s : State) :
    ((startStep v r rest carry s).state.vol v).current = some r
    ∧ (((startStep v r rest carry s).state.vol v).state = .running →
        ((startStep v r rest carry s).state.vol v).queue = rest
        ∧ ((startStep v r rest carry s).state.vol v).hold = none
        ∧ ((startStep v r rest carry s).state.vol v).lastEnd = (s.vol v).lastEnd) := by
  obtain ⟨-, current, runs⟩ := enterKind_within v r (carry && r.kind == .etch)
    (begun v r rest (carry && r.kind == .etch) s)
  rw [begun_vol_self] at current runs
  exact ⟨current, fun running => (runs running).2⟩

theorem startSteps_local (v : Volume) (l : List StepRecord) (carry : Bool) (s : State) :
    Local v s (startSteps v l carry s) := by
  induction l generalizing carry s with
  | nil => exact underflow_local v s
  | cons r rest ih =>
    have started := startStep_local v r rest carry s
    unfold startSteps
    cases h : startStep v r rest carry s with
    | stands t =>
      rw [h] at started
      exact started
    | completes t =>
      rw [h] at started
      have ended := started.trans (recordEnd_local v .completed none none t)
      dsimp only
      split
      · exact ended.trans (windDown_local v _ _)
      · exact ended.trans (ih false _)

theorem leaveStep_local (v : Volume) (s : State) : Local v s (leaveStep v s) := by
  cases v with
  | ch c => exact (withdrawGas_local c s).trans (disarm_local c _)
  | tc => exact Local.refl _ s
  | ll l => exact Local.refl _ s

/-- A completion of a RUNNING step (R49), up to what follows it: the chamber's gas entry withdrawn, its detector disarmed, the
end recorded. -/
def completed (v : Volume) (n : Option Note) (s : State) : State := recordEnd v .completed none n (leaveStep v s)

theorem completed_local (v : Volume) (n : Option Note) (s : State) : Local v s (completed v n s) :=
  (leaveStep_local v s).trans (recordEnd_local v _ _ _ _)

theorem completed_vol {v : Volume} {s : State} {r : StepRecord} (n : Option Note) (h : (s.vol v).current = some r) :
    (completed v n s).vol v = { s.vol v with lastEnd := some ⟨r.tag, r.kind, .completed, none, n⟩ } := by
  have vol : (leaveStep v s).vol v = s.vol v := by cases v <;> rfl
  rw [completed, recordEnd_vol_self v _ _ _ r _ (vol ▸ h), vol]

theorem completeStep_running {v : Volume} {s : State} {r : StepRecord} (n : Option Note)
    (running : (s.vol v).state = .running) (current : (s.vol v).current = some r) :
    completeStep v n s = if r.last then windDown v none (completed v n s)
      else startSteps v (s.vol v).queue (r.kind == .strike || r.kind == .etch) (completed v n s) := by
  have queue : ((completed v n s).vol v).queue = (s.vol v).queue := by rw [completed_vol n current]
  rw [← queue]
  simp only [completeStep, running, current]
  rfl

theorem completeStep_idle {v : Volume} {s : State} (n : Option Note)
    (h : (s.vol v).state ≠ .running ∨ (s.vol v).current = none) : completeStep v n s = s := by
  unfold completeStep
  split
  · simp_all
  · rfl

theorem completeStep_local (v : Volume) (n : Option Note) (s : State) : Local v s (completeStep v n s) := by
  by_cases running : (s.vol v).state = .running
  · cases current : (s.vol v).current with
    | none => rw [completeStep_idle n (.inr current)]; exact Local.refl v s
    | some r =>
      rw [completeStep_running n running current]
      split
      · exact (completed_local v n s).trans (windDown_local v _ _)
      · exact (completed_local v n s).trans (startSteps_local v _ _ _)
  · rw [completeStep_idle n (.inl running)]
    exact Local.refl v s

end Sys2Proof.Machine
end

section
/-! Proof of the statement about step starts (R45 to R47, R81, R89, R91, R103, R129, R135, R136, R141). -/

namespace Sys2Proof.Machine

open Sys2Proof

/-! ## What the tests of a start read -/

theorem atOrAbove_iff (s : State) (g : Gauge) (x : Int) : s.atOrAbove g x = true ↔ ∃ p, s.code? g = some p ∧ x ≤ p := by
  cases h : s.code? g with
  | none => simp [State.atOrAbove, h]
  | some p => simp [State.atOrAbove, h]

theorem atOrBelow_iff (s : State) (g : Gauge) (x : Int) : s.atOrBelow g x = true ↔ ∃ p, s.code? g = some p ∧ p ≤ x := by
  cases h : s.code? g with
  | none => simp [State.atOrBelow, h]
  | some p => simp [State.atOrBelow, h]

theorem lidOpen_iff (s : State) (v : Volume) : lidOpen s v = true ↔ ∃ c, v = .ch c ∧ s.fn (.lid c) = false := by
  cases v <;> simp [lidOpen]

theorem belowCrossover_iff (s : State) (v : Volume) : belowCrossover s v = true ↔
    ∃ t, v.turbo? = some t ∧ s.atOrBelow (.vol v) (s.items.crossover.getT t) = true := by
  unfold belowCrossover
  cases v.turbo? <;> simp

theorem turboAtSpeed_iff (s : State) (v : Volume) : turboAtSpeed s v = true ↔
    ∃ t, v.turbo? = some t ∧ s.fn (.turbo t) = true := by
  unfold turboAtSpeed
  cases v.turbo? <;> simp

theorem Kind.isGas_iff (k : Kind) : k.isGas = true ↔ k = .gas ∨ k = .strike ∨ k = .etch := by cases k <;> decide

/-! ## The start of a PUMP (R81) -/

section Pump
variable {v : Volume} {r : StepRecord} {s : State}

/-- A volume whose vent and gate are commanded closed for roughing (R81). -/
def closedUp (v : Volume) (s : State) : State := (setVent v false s).setGate v false

theorem closedUp_vol (v : Volume) (s : State) : (closedUp v s).vol v = { s.vol v with ventOpen := false } := by
  rw [closedUp, setGate_vol, setVent, State.vol_modVol_self]

theorem closedUp_gate (v : Volume) (s : State) : (closedUp v s).gateOpen v = false := State.gateOpen_setGate_false _ v

theorem closedUp_frame (v : Volume) (s : State) : (closedUp v s).rma = s.rma ∧ EventFrame s (closedUp v s) :=
  ⟨setGate_rma v false _, setGate_eventFrame v false _⟩

theorem EventFrame.code {s t : State} (h : EventFrame s t) (g : Gauge) : t.code? g = s.code? g := by
  unfold State.code?
  rw [h.gauge g]

theorem EventFrame.items {s t : State} (h : EventFrame s t) : t.items = s.items := by
  obtain ⟨cfg, -⟩ := h
  unfold State.items
  rw [cfg]

theorem EventFrame.fn {s t : State} (h : EventFrame s t) (f : InputFn) : t.fn f = s.fn f := by
  obtain ⟨-, flu, -⟩ := h
  unfold State.fn
  rw [flu]

theorem EventFrame.atOrBelow {s t : State} (h : EventFrame s t) (g : Gauge) (x : Int) :
    t.atOrBelow g x = s.atOrBelow g x := by
  unfold State.atOrBelow
  rw [h.code g]

theorem EventFrame.atOrAbove {s t : State} (h : EventFrame s t) (g : Gauge) (x : Int) :
    t.atOrAbove g x = s.atOrAbove g x := by
  unfold State.atOrAbove
  rw [h.code g]

theorem EventFrame.roughTarget {s t : State} (h : EventFrame s t) (v : Volume) (r : StepRecord) :
    roughTarget t v r = roughTarget s v r := by
  unfold Machine.roughTarget
  rw [h.items]

theorem EventFrame.handsToTurbo {s t : State} (h : EventFrame s t) (v : Volume) (r : StepRecord) :
    handsToTurbo t v r = handsToTurbo s v r := by
  unfold Machine.handsToTurbo
  rw [h.items]

theorem EventFrame.lidOpen {s t : State} (h : EventFrame s t) (v : Volume) : lidOpen t v = lidOpen s v := by
  cases v with
  | ch c => rw [Machine.lidOpen, Machine.lidOpen, h.fn]
  | tc => rfl
  | ll l => rfl

theorem startPump_lidOpen (lid : lidOpen s v = true) : startPump v r s = .stands (failStep v .lidOpen s) := if_pos lid

theorem startPump_atTarget (lid : lidOpen s v = false) (target : s.atOrBelow (.vol v) r.target = true) :
    startPump v r s = .completes s := by
  rw [startPump, if_neg (Bool.eq_false_iff.1 lid), if_pos target]

theorem startPump_highPump (lid : lidOpen s v = false) (target : s.atOrBelow (.vol v) r.target = false)
    (below : belowCrossover s v = true) (speed : turboAtSpeed s v = true) :
    startPump v r s = .stands (enterHighPump v (setVent v false s)) := by
  simp [startPump, lid, target, below, speed]

theorem startPump_roughs (lid : lidOpen s v = false) (target : s.atOrBelow (.vol v) r.target = false)
    (high : belowCrossover s v = false ∨ turboAtSpeed s v = false)
    (rough : s.atOrBelow (.vol v) (roughTarget s v r) = false) : startPump v r s = .stands (joinRough v (closedUp v s)) := by
  have off : (belowCrossover s v && turboAtSpeed s v) = false := by rcases high with h | h <;> simp [h]
  have frame := (closedUp_frame v s).2
  have still : (closedUp v s).atOrBelow (.vol v) (roughTarget (closedUp v s) v r) = false := by
    rw [frame.atOrBelow, frame.roughTarget, rough]
  unfold closedUp at still
  simp [startPump, lid, target, off, still, closedUp]

theorem startPump_turboWait (lid : lidOpen s v = false) (target : s.atOrBelow (.vol v) r.target = false)
    (high : belowCrossover s v = false ∨ turboAtSpeed s v = false)
    (rough : s.atOrBelow (.vol v) (roughTarget s v r) = true) (turbo : handsToTurbo s v r = true) :
    startPump v r s = .stands ((closedUp v s).modVol v fun x => { x with phase := .turboWait }) := by
  have off : (belowCrossover s v && turboAtSpeed s v) = false := by rcases high with h | h <;> simp [h]
  have frame := (closedUp_frame v s).2
  have still : (closedUp v s).atOrBelow (.vol v) (roughTarget (closedUp v s) v r) = true := by
    rw [frame.atOrBelow, frame.roughTarget, rough]
  have hands : handsToTurbo (closedUp v s) v r = true := by rw [frame.handsToTurbo, turbo]
  unfold closedUp at still hands
  simp [startPump, lid, target, off, still, hands, closedUp]

theorem enterHighPump_spec (v : Volume) (s : State) : (enterHighPump v s).vol v = { s.vol v with phase := .highPump }
    ∧ (enterHighPump v s).rma = s.rma ∧ (v.turbo?.isSome = true → (enterHighPump v s).gateOpen v = true) := by
  refine ⟨?_, setGate_rma v true _, fun h => State.gateOpen_setGate_self _ v true h⟩
  rw [enterHighPump, setGate_vol, State.vol_modVol_self]

end Pump

/-! ## The plant of a chamber at a step start (R46, R47, R129) -/

/-- The zero targets of a step start: PUMP, VENT and PURGE give every channel target 0 (R46). -/
def startZeros (c : Chamber) (k : Kind) (s : State) : State :=
  match k with
  | .pump | .vent | .purge => zeroChamber c .normal s
  | _ => s

theorem startChamberPlant_eq (c : Chamber) (r : StepRecord) (b : Bool) (s : State) : startChamberPlant c r b s =
    match throttleAim r with
    | some x => postWrite (.throttle c) x .normal (startZeros c r.kind (s.modReu c fun u => u.begin r b))
    | none => startZeros c r.kind (s.modReu c fun u => u.begin r b) := by
  unfold startChamberPlant startZeros
  cases r.kind <;> rfl

theorem startZeros_eq (c : Chamber) (k : Kind) (s : State) : ∃ rows fru dbc,
    startZeros c k s = { s with gat := { s.gat with rows := rows }, fru := fru, dbc := dbc } := by
  unfold startZeros
  split
  · exact foldl_zeroChannel_eq c .normal Chan.all s
  · exact foldl_zeroChannel_eq c .normal Chan.all s
  · exact foldl_zeroChannel_eq c .normal Chan.all s
  · exact ⟨s.gat.rows, s.fru, s.dbc, rfl⟩

/-- What a step start changes in a chamber's plant: its REU, GAT's rows, the generators and the device bus. -/
theorem startChamberPlant_frame (c : Chamber) (r : StepRecord) (b : Bool) (s : State) : ∃ rows fru dbc,
    startChamberPlant c r b s = { s.modReu c fun u => u.begin r b with
      gat := { s.gat with rows := rows }, fru := fru, dbc := dbc } := by
  obtain ⟨rows, fru, dbc, h⟩ := startZeros_eq c r.kind (s.modReu c fun u => u.begin r b)
  rw [startChamberPlant_eq, h]
  cases throttleAim r with
  | none => exact ⟨rows, fru, dbc, rfl⟩
  | some x =>
    dsimp only
    obtain ⟨dbc', k⟩ := postWrite_dbc (.throttle c) x .normal
      { s.modReu c fun u => u.begin r b with
        gat := { (s.modReu c fun u => u.begin r b).gat with rows := rows }, fru := fru, dbc := dbc }
    exact ⟨rows, fru, dbc', k⟩

theorem startZeros_failed (c : Chamber) (k : Kind) (s : State) (d : Device) :
    ((startZeros c k s).device d).failed = (s.device d).failed := by
  unfold startZeros
  split
  · exact zeroChamber_failed c .normal s d
  · exact zeroChamber_failed c .normal s d
  · exact zeroChamber_failed c .normal s d
  · rfl

theorem startChamberPlant_failed (c : Chamber) (r : StepRecord) (b : Bool) (s : State) (d : Device) :
    ((startChamberPlant c r b s).device d).failed = (s.device d).failed := by
  have zeros := startZeros_failed c r.kind (s.modReu c fun u => u.begin r b) d
  rw [startChamberPlant_eq]
  cases throttleAim r with
  | none => exact zeros
  | some x =>
    obtain ⟨-, places⟩ := postWrite_placesOnly (.throttle c) x .normal
      (startZeros c r.kind (s.modReu c fun u => u.begin r b))
    dsimp only
    rw [places d]
    exact zeros

/-- The throttle's post of a step start stands (R129). -/
theorem startChamberPlant_throttle {c : Chamber} {r : StepRecord} {x : BusValue} (b : Bool) (s : State)
    (aim : throttleAim r = some x) (ok : (s.device (.throttle c)).failed = false) :
    PostStands (.throttle c) x .normal (startChamberPlant c r b s) := by
  rw [startChamberPlant_eq, aim]
  exact postWrite_postStands x .normal ((startZeros_failed c r.kind _ _).trans ok)

/-- The zero jumps of PUMP, VENT and PURGE (R46). -/
theorem startChamberPlant_zeroed {c : Chamber} {r : StepRecord} (b : Bool) (s : State)
    (kind : r.kind = .pump ∨ r.kind = .vent ∨ r.kind = .purge) (k : Chan) :
    Zeroed c .normal s k (startChamberPlant c r b s) := by
  have zeros : startZeros c r.kind (s.modReu c fun u => u.begin r b)
      = zeroChamber c .normal (s.modReu c fun u => u.begin r b) := by
    rcases kind with h | h | h <;> rw [h] <;> rfl
  have aim : throttleAim r = some .opened := by rcases kind with h | h | h <;> simp [throttleAim, h]
  rw [startChamberPlant_eq, aim, zeros]
  exact (zeroChamber_zeroed c .normal (s.modReu c fun u => u.begin r b) k).postWrite (d := .throttle c)
    (fun e => Device.noConfusion e) .opened .normal

theorem throttleAim_gas {r : StepRecord} (h : r.kind.isGas = true) :
    throttleAim r = some (if r.window = 0 then .opened else .code r.target) := by
  rcases (Kind.isGas_iff r.kind).1 h with k | k | k <;> simp only [throttleAim, k]

theorem startZeros_gas {c : Chamber} {k : Kind} (s : State) (h : k.isGas = true ∨ k = .dwell) : startZeros c k s = s := by
  cases k <;> simp [Kind.isGas] at h <;> rfl

/-! ## The entry of a kind (R45) -/

section Entry
variable {v : Volume} {r : StepRecord} {b : Bool} {s : State}

theorem enterKind_vent (h : r.kind = .vent) : enterKind v r b s
    = .stands ((s.setGate v false).modVol v fun x => { x with phase := .venting, ventOpen := true }) := by
  simp [enterKind, h, startVent, setVent, State.modVol]

theorem enterKind_purge (h : r.kind = .purge) : enterKind v r b s = beginCycle v r (s.setGate v false) := by
  simp [enterKind, h, startPurge]

theorem beginCycle_fill (target : s.atOrAbove (.vol v) r.target = false) :
    beginCycle v r s = .stands (enterFill v r (s.modVol v fun x => { x with limitCount := 0 })) := by
  have still : (s.modVol v fun x => { x with limitCount := 0 }).atOrAbove (.vol v) r.target = false := target
  simp [beginCycle, still]

theorem atOrAbove_setGate (v : Volume) (x : Bool) (s : State) (g : Gauge) (p : Int) :
    (s.setGate v x).atOrAbove g p = s.atOrAbove g p := (setGate_eventFrame v x s).atOrAbove g p

theorem enterKind_purge_vented (h : r.kind = .purge) (target : s.atOrAbove (.vol v) r.target = false)
    (vented : v.chamber? = none) : enterKind v r b s = .stands ((s.setGate v false).modVol v fun x =>
      { x with phase := .fill, ventOpen := true, limitCount := 0 }) := by
  rw [enterKind_purge h, beginCycle_fill ((atOrAbove_setGate v false s _ _).trans target), enterFill_vented _ _ vented]
  simp [setVent, State.modVol]

theorem enterKind_purge_chamber {c : Chamber} (h : r.kind = .purge) (hv : v = .ch c)
    (target : s.atOrAbove (.vol v) r.target = false) : enterKind v r b s = .stands (requestGas c r.flows
      ((s.setGate v false).modVol v fun x => { x with phase := .waitGas, limitCount := 0 })) := by
  rw [enterKind_purge h, beginCycle_fill ((atOrAbove_setGate v false s _ _).trans target)]
  subst hv
  simp [enterFill, State.modVol]

theorem volumes_set_set (p : Per7 Vol) (v : Volume) (x y : Vol) : (p.set v x).set v y = p.set v y := by
  rcases v with c | _ | l
  · cases c <;> rfl
  · rfl
  · cases l <;> rfl

theorem enterKind_purge_waits (h : r.kind = .purge) (target : s.atOrAbove (.vol v) r.target = true)
    (floor : s.atOrBelow (.vol v) r.floor = false) (left : 0 < (s.vol v).cyclesLeft) :
    enterKind v r b s = .stands { (s.setGate v false).modVol v fun x => { x with
        phase := .waitRough, limitCount := 0, admissionCount := 0,
        retriesLeft := (s.items.pumpBackRetries.get v).toNat } with
      rma := { s.rma with queue := s.rma.queue ++ [v] } } := by
  obtain ⟨g, hg⟩ := s.setGate_eq v false
  obtain ⟨p, code, reached⟩ := (atOrAbove_iff s _ _).1 target
  have above : r.floor < p := by
    by_contra low
    rw [Bool.eq_false_iff] at floor
    exact floor ((atOrBelow_iff s _ _).2 ⟨p, code, Int.not_lt.1 low⟩)
  obtain ⟨n, hn⟩ := Nat.exists_eq_succ_of_ne_zero left.ne'
  have cycle : beginCycle v r (s.setGate v false)
      = purgeFrom v r (n + 1) ((s.setGate v false).modVol v fun x => { x with limitCount := 0 }) := by
    have test : ((s.setGate v false).modVol v fun x => { x with limitCount := 0 }).atOrAbove (.vol v) r.target = true :=
      (atOrAbove_setGate v false s _ _).trans target
    have count : (((s.setGate v false).modVol v fun x => { x with limitCount := 0 }).vol v).cyclesLeft = n + 1 := by
      rw [State.vol_modVol_self, setGate_vol, hn]
    simp only [beginCycle, test, if_true, count]
  have code' : ((s.setGate v false).modVol v fun x => { x with limitCount := 0 }).code? (.vol v) = some p :=
    ((setGate_eventFrame v false s).code _).trans code
  rw [enterKind_purge h, cycle, purgeFrom_waits n code' above, hg]
  simp [joinRough, State.modVol, State.setVol, State.vol, State.items, volumes_set_set]

theorem enterKind_purge_completes (h : r.kind = .purge) (target : s.atOrAbove (.vol v) r.target = true)
    (floor : s.atOrBelow (.vol v) r.floor = true) : ∃ t, enterKind v r b s = .completes t ∧ (t.vol v).cyclesLeft = 0
      ∧ t.rma = s.rma ∧ t.gat = s.gat ∧ ∀ w, w ≠ v → t.vol w = s.vol w := by
  obtain ⟨p, code, reached⟩ := (atOrAbove_iff s _ _).1 target
  obtain ⟨q, code', low⟩ := (atOrBelow_iff s _ _).1 floor
  cases code.symm.trans code'
  obtain ⟨u, hu, done⟩ := beginCycle_completes (((setGate_eventFrame v false s).code _).trans code) low reached
  obtain ⟨cycles, -, -, rma, gat, -, -, others⟩ := done.spec
  obtain ⟨g, hg⟩ := s.setGate_eq v false
  refine ⟨u, (enterKind_purge h).trans hu, cycles, rma.trans (setGate_rma v false s), gat.trans (by rw [hg]), fun w ne => ?_⟩
  exact (others w ne).trans (setGate_vol v w false s)

theorem enterKind_gas {c : Chamber} (h : r.kind.isGas = true) (hv : v = .ch c) :
    enterKind v r b s = .stands (startGasKind c r b s) := by
  subst hv
  rcases (Kind.isGas_iff r.kind).1 h with k | k | k <;> simp only [enterKind, k]

end Entry

/-! ## Flow requests (R103) -/

theorem requestFails_iff (s : State) (c : Chamber) (flows : List FlowEntry) : requestFails s c flows = true ↔
    ∃ f ∈ flows, s.source c f.chan = 0 ∨ (s.device (.mfc c f.chan)).failed = true := by
  simp [requestFails]

theorem formRequest_get (s : State) (c : Chamber) (flows : List FlowEntry) (k : Chan) :
    (formRequest s c flows).get k = aimOf s c flows k := by cases k <;> rfl

theorem aimOf_listed {c : Chamber} {flows : List FlowEntry} {f : FlowEntry} (s : State)
    (distinct : (flows.map (·.chan)).Nodup) (h : f ∈ flows) :
    aimOf s c flows f.chan = ⟨min f.target (s.fullScale c f.chan), f.ticks⟩ := by
  have found : listed? flows f.chan = some f := by
    unfold listed?
    induction flows with
    | nil => exact absurd h List.not_mem_nil
    | cons e l ih =>
      rw [List.map_cons, List.nodup_cons] at distinct
      obtain ⟨he, hl⟩ := distinct
      rcases List.mem_cons.1 h with rfl | hf
      · simp
      · have ne : e.chan ≠ f.chan := fun same => he (same ▸ List.mem_map_of_mem hf)
        rw [List.find?_cons_of_neg (by simpa using ne)]
        exact ih hl hf
  rw [aimOf, found]

theorem aimOf_unlisted {c : Chamber} {flows : List FlowEntry} {k : Chan} (s : State) (h : ∀ f ∈ flows, f.chan ≠ k) :
    aimOf s c flows k = ⟨0, 0⟩ := by
  have none : listed? flows k = none := List.find?_eq_none.2 fun f hf => by simpa using h f hf
  rw [aimOf, none]

theorem requestGas_joins {c : Chamber} {flows : List FlowEntry} {s : State}
    (h : ∀ f ∈ flows, s.source c f.chan ≠ 0 ∧ (s.device (.mfc c f.chan)).failed = false) :
    requestGas c flows s = joinGas c flows s := by
  refine if_neg fun fails => ?_
  obtain ⟨f, hf, bad⟩ := (requestFails_iff s c flows).1 fails
  obtain ⟨mapped, ok⟩ := h f hf
  rcases bad with unmapped | failed
  · exact mapped unmapped
  · simp [ok] at failed

/-! ## The statement -/

/-- The effective step limit of a kind that uses one (R45). -/
theorem Vol.begin_effLimit {r : StepRecord} (x : Vol) (rest : List StepRecord) (d : Nat)
    (h : r.kind = .pump ∨ r.kind = .vent ∨ r.kind = .purge ∨ r.kind = .gas) :
    (x.begin r rest d).effLimit = if 0 < r.limit then r.limit else d := by
  have limited : r.kind.hasLimit = true := by rcases h with h | h | h | h <;> rw [h] <;> rfl
  exact if_pos limited

/-- The underflow of a fitted volume (R32). -/
theorem underflow_eq {v : Volume} {s : State} (h : s.fitted v = true) : underflow v s
    = windDown v (some ⟨.underflow, none, (s.vol v).currentTag, (s.vol v).phase⟩)
        ((setFlag v .underflow s).modVol v fun x =>
          { x with counters := { x.counters with underflow := count16 x.counters.underflow } }) := by
  have counted : countOn v Counters.countUnderflow (setFlag v .underflow s)
      = (setFlag v .underflow s).modVol v fun x =>
          { x with counters := { x.counters with underflow := count16 x.counters.underflow } } :=
    if_pos ((setFlag_fitted v v _ s).trans h)
  have record : ((countOn v Counters.countUnderflow (setFlag v .underflow s)).vol v).holdRecord .underflow none
      = ⟨.underflow, none, (s.vol v).currentTag, (s.vol v).phase⟩ := by
    rw [counted, State.vol_modVol_self, setFlag_vol_self v _ s h]
    rfl
  simp only [underflow, enterSafing]
  rw [record, counted]

theorem startGasKind_windows (c : Chamber) (r : StepRecord) (s : State) : ∃ w,
    startGasKind c r false s
      = requestGas c r.flows (s.modVol (.ch c) fun x => { x with window := w, phase := .waitGas })
    ∧ startGasKind c r true s
      = requestGas c r.flows (enterEtch c r (s.modVol (.ch c) fun x => { x with window := w }))
    ∧ (r.window = 0 → w = .none) ∧ (0 < r.window → s.code? (.vol (.ch c)) = none → w = .outside)
    ∧ ∀ p, 0 < r.window → s.code? (.vol (.ch c)) = some p →
      (r.target - r.window ≤ p → p ≤ r.target + r.window → w = .inside)
      ∧ (p < r.target - r.window ∨ r.target + r.window < p → w = .outside) := by
  refine ⟨windowOf r (s.code? (.vol (.ch c))), ?_, rfl, windowOf_off _, fun on none => ?_, fun p on code => ⟨fun lo hi => ?_,
    fun out => ?_⟩⟩
  · simp [startGasKind, State.modVol]
  · rw [none, windowOf_none on]
  · rw [code, windowOf_some p on, if_pos ⟨lo, hi⟩]
  · rw [code, windowOf_some p on, if_neg (by omega)]

theorem startPump_course (v : Volume) (r : StepRecord) (s : State) :
    (lidOpen s v = false → s.atOrBelow (.vol v) r.target = false →
      belowCrossover s v = true → turboAtSpeed s v = true →
      ∃ t, startPump v r s = .stands t ∧ (t.vol v).phase = .highPump ∧ (t.vol v).ventOpen = false
        ∧ t.gateOpen v = true ∧ t.rma = s.rma)
    ∧ (lidOpen s v = false → s.atOrBelow (.vol v) r.target = false →
      (belowCrossover s v = false ∨ turboAtSpeed s v = false) →
      (s.atOrBelow (.vol v) (roughTarget s v r) = false →
        ∃ t, startPump v r s = .stands t ∧ (t.vol v).phase = .waitRough ∧ (t.vol v).admissionCount = 0
          ∧ (t.vol v).ventOpen = false ∧ t.gateOpen v = false ∧ t.rma.queue = s.rma.queue ++ [v])
      ∧ (s.atOrBelow (.vol v) (roughTarget s v r) = true → handsToTurbo s v r = true →
        ∃ t, startPump v r s = .stands t ∧ (t.vol v).phase = .turboWait ∧ t.gateOpen v = false ∧ t.rma = s.rma)) := by
  obtain ⟨rma, -⟩ := closedUp_frame v s
  refine ⟨fun lid target below speed => ?_, fun lid target high => ⟨fun rough => ?_, fun rough turbo => ?_⟩⟩
  · obtain ⟨vol, rma', gate⟩ := enterHighPump_spec v (setVent v false s)
    obtain ⟨t, ht, -⟩ := (turboAtSpeed_iff s v).1 speed
    refine ⟨_, startPump_highPump lid target below speed, ?_, ?_, gate (by rw [ht]; rfl), rma'⟩
    · rw [vol]
    · rw [vol, setVent, State.vol_modVol_self]
  · refine ⟨_, startPump_roughs lid target high rough, ?_, ?_, ?_, closedUp_gate v s, ?_⟩
    · rw [joinRough_vol_self]
    · rw [joinRough_vol_self]
    · rw [joinRough_vol_self, closedUp_vol]
    · rw [joinRough_rma, rma]
  · refine ⟨_, startPump_turboWait lid target high rough turbo, ?_, closedUp_gate v s, rma⟩
    rw [State.vol_modVol_self]

/-- Settles O24. -/
theorem stepStarts : Obligations.StepStarts := by
  refine ⟨fun x u r rest d => ⟨rfl, rfl, rfl, rfl, rfl, rfl, rfl, rfl, rfl, rfl, rfl, rfl, rfl,
      Vol.begin_effLimit x rest d, rfl, rfl, rfl, rfl, rfl, rfl, rfl, fun b => ⟨rfl, rfl, rfl, rfl, rfl, rfl, rfl⟩⟩,
    fun v r s => ⟨startPump_lidOpen, startPump_atTarget, startPump_course v r s⟩,
    fun v r rest carry s t => ⟨fun c hv => ?_, fun none => ?_, fun came => ?_, rfl, underflow_eq, fun h => ?_, fun h => ?_⟩,
    fun c r b s => ?_, fun v r b s => ⟨fun h => ?_, fun h => ?_, enterKind_vent, fun h target =>
      ⟨enterKind_purge_vented h target, fun c hv => enterKind_purge_chamber h hv target⟩, enterKind_purge_waits,
      enterKind_purge_completes, fun c => enterKind_gas⟩,
    fun s g x v k => ⟨atOrAbove_iff s g x, atOrBelow_iff s g x, lidOpen_iff s v, belowCrossover_iff s v,
      turboAtSpeed_iff s v, k.isGas_iff⟩,
    fun c r s => ⟨startGasKind_windows c r s, ?_⟩⟩
  · subst hv
    rfl
  · cases v with
    | ch c => exact absurd none nofun
    | tc => rfl
    | ll l => rfl
  · have state : (startStep v r rest carry s).state = t := by rcases came with h | h <;> rw [h] <;> rfl
    have alone := startStep_local v r rest carry s
    obtain ⟨current, runs⟩ := startStep_runs v r rest carry s
    rw [state] at alone current runs
    exact ⟨current, fun running => ⟨(runs running).1, (runs running).2.1⟩, alone.vol⟩
  · rw [startSteps, h]
  · rw [startSteps, h]
    rfl
  · have plant := startChamberPlant_frame c r b s
    have alone := (startChamberPlant_within c r b s).alone
    refine ⟨?_, startChamberPlant_vols c r b s, ?_, ?_, alone.commitment c, fun kind => ⟨fun k => ?_, ?_⟩, fun kind => ?_,
      fun gas => ?_⟩
    · obtain ⟨rows, fru, dbc, h⟩ := plant
      rw [h]
      exact State.reuOf_modReu_self s c fun u => u.begin r b
    · obtain ⟨rows, fru, dbc, h⟩ := plant
      rw [h]
      rfl
    · obtain ⟨rows, fru, dbc, h⟩ := plant
      rw [h]
      rfl
    · obtain ⟨target, -, inFlight, moved, rest⟩ := startChamberPlant_zeroed b s kind k
      exact ⟨target, inFlight, moved, rest⟩
    · refine startChamberPlant_throttle b s ?_
      rcases kind with h | h | h <;> simp [throttleAim, h]
    · have aim : throttleAim r = none := by simp [throttleAim, kind]
      rw [startChamberPlant_eq, aim, startZeros_gas _ (.inr kind)]
      exact ⟨rfl, rfl, rfl⟩
    · refine ⟨?_, ?_, startChamberPlant_throttle b s (throttleAim_gas gas)⟩ <;>
        rw [startChamberPlant_eq, throttleAim_gas gas, startZeros_gas _ (.inl gas)] <;>
        obtain ⟨dbc, h⟩ := postWrite_dbc (.throttle c) (if r.window = 0 then .opened else .code r.target) .normal
          (s.modReu c fun u => u.begin r b) <;>
        simp only [h] <;> rfl
  · simp only [enterKind, h]
  · simp only [enterKind, h]
  · obtain ⟨vol, reu, detector⟩ := enterEtch_spec c r s
    refine ⟨by rw [vol], reu, detector, fun bad => if_pos ((requestFails_iff s c r.flows).2 bad), fun good => ?_⟩
    refine ⟨⟨c, formRequest s c r.flows⟩, rfl, ?_, fun distinct => ⟨fun f hf => ?_, fun k hk => ?_⟩⟩
    · rw [requestGas_joins good]
      rfl
    · rw [formRequest_get, aimOf_listed s distinct hf]
    · rw [formRequest_get, aimOf_unlisted s hk]

end Sys2Proof.Machine
end

section
/-! Proof of the statement about completions (R31, R32, R45, R47, R49, R141, R142). -/

namespace Sys2Proof.Machine

open Sys2Proof

/-! ## A start that stands (R81, R89, R91, R92, R103) -/

/-- The tests of a start read the input functions, the samples, the items and which devices have failed. -/
theorem StartStands.congr {v : Volume} {r : StepRecord} {s t : State} (h : StartStands v r s) (frame : EventFrame s t)
    (failed : ∀ d, (t.device d).failed = (s.device d).failed) : StartStands v r t := by
  have source : ∀ c k, t.source c k = s.source c k := fun c k => by unfold State.source; rw [frame.items]
  unfold StartStands at h ⊢
  simp only [frame.lidOpen, frame.atOrBelow, frame.atOrAbove, source, failed]
  exact h

theorem begun_eventFrame (v : Volume) (r : StepRecord) (rest : List StepRecord) (carry : Bool) (s : State) :
    EventFrame s (begun v r rest carry s) := by
  cases v with
  | ch c => exact (modVol_eventFrame _ _ s).trans (startChamberPlant_eventFrame c r carry _)
  | tc => exact EventFrame.refl s
  | ll l => exact EventFrame.refl s

theorem begun_failed (v : Volume) (r : StepRecord) (rest : List StepRecord) (carry : Bool) (s : State) (d : Device) :
    ((begun v r rest carry s).device d).failed = (s.device d).failed := by
  cases v with
  | ch c => exact startChamberPlant_failed c r carry _ d
  | tc => rfl
  | ll l => rfl

/-- A volume that runs in a phase. -/
def RunsInPhase (v : Volume) (t : State) : Prop := (t.vol v).state = .running ∧ (t.vol v).phase ≠ .none

theorem runsInPhase_of_vol {v : Volume} {x : Vol} {t : State} (h : t.vol v = x) (running : x.state = .running)
    (phase : x.phase ≠ .none) : RunsInPhase v t := by
  rw [RunsInPhase, h]
  exact ⟨running, phase⟩

theorem requestGas_runsInPhase {c : Chamber} {flows : List FlowEntry} {s : State} (h : RunsInPhase (.ch c) s)
    (ok : ∀ f ∈ flows, s.source c f.chan ≠ 0 ∧ (s.device (.mfc c f.chan)).failed = false) :
    RunsInPhase (.ch c) (requestGas c flows s) := by
  rw [requestGas_joins ok]
  exact runsInPhase_of_vol (joinGas_vol_self c flows s) h.1 h.2

theorem startPump_stands {v : Volume} {r : StepRecord} {s : State} (running : (s.vol v).state = .running)
    (lid : lidOpen s v = false) (target : s.atOrBelow (.vol v) r.target = false) :
    ∃ t, startPump v r s = .stands t ∧ RunsInPhase v t := by
  by_cases high : belowCrossover s v = true ∧ turboAtSpeed s v = true
  · refine ⟨_, startPump_highPump lid target high.1 high.2, runsInPhase_of_vol (enterHighPump_spec v _).1 ?_ (by simp)⟩
    rw [setVent, State.vol_modVol_self]
    exact running
  · have low : belowCrossover s v = false ∨ turboAtSpeed s v = false := by simpa [imp_iff_not_or] using high
    cases rough : s.atOrBelow (.vol v) (roughTarget s v r) with
    | false =>
      refine ⟨_, startPump_roughs lid target low rough, runsInPhase_of_vol (joinRough_vol_self v _) ?_ (by simp)⟩
      rw [closedUp_vol]
      exact running
    | true =>
      have turbo : handsToTurbo s v r = true := by
        cases hands : handsToTurbo s v r with
        | true => rfl
        | false =>
          have same : roughTarget s v r = r.target := by
            unfold roughTarget
            unfold handsToTurbo at hands
            cases ht : v.turbo? with
            | none => rfl
            | some t => simp only [ht] at hands ⊢; exact if_neg (by simpa using hands)
          rw [same, target] at rough
          cases rough
      refine ⟨_, startPump_turboWait lid target low rough turbo, runsInPhase_of_vol (State.vol_modVol_self _ v _) ?_ (by simp)⟩
      rw [closedUp_vol]
      exact running

theorem startGasKind_stands {c : Chamber} {r : StepRecord} {s : State} (b : Bool)
    (running : (s.vol (.ch c)).state = .running)
    (ok : ∀ f ∈ r.flows, s.source c f.chan ≠ 0 ∧ (s.device (.mfc c f.chan)).failed = false) :
    RunsInPhase (.ch c) (startGasKind c r b s) := by
  obtain ⟨w, waits, carries, -⟩ := startGasKind_windows c r s
  cases b with
  | false =>
    rw [waits]
    refine requestGas_runsInPhase (runsInPhase_of_vol (State.vol_modVol_self s (.ch c) _) running (by simp)) ok
  | true =>
    rw [carries]
    have entered := (enterEtch_within c r (s.modVol (.ch c) fun x => { x with window := w })).alone
    have vol := (enterEtch_spec c r (s.modVol (.ch c) fun x => { x with window := w })).1
    rw [State.vol_modVol_self] at vol
    refine requestGas_runsInPhase (runsInPhase_of_vol vol running (by simp)) ?_
    unfold enterEtch
    dsimp only
    split <;> exact ok

theorem enterKind_stands {v : Volume} {r : StepRecord} {s : State} (b : Bool) (running : (s.vol v).state = .running)
    (h : StartStands v r s) : ∃ t, enterKind v r b s = .stands t ∧ RunsInPhase v t := by
  rcases h with kind | kind | ⟨kind, lid, target⟩ | ⟨kind, target, ok⟩ | ⟨gas, c, hv, ok⟩
  · refine ⟨s.modVol v fun x => { x with phase := .dwell }, by simp only [enterKind, kind], ?_⟩
    exact runsInPhase_of_vol (State.vol_modVol_self s v _) running (by simp)
  · refine ⟨_, enterKind_vent kind, runsInPhase_of_vol (State.vol_modVol_self _ v _) ?_ (by simp)⟩
    rw [setGate_vol]
    exact running
  · obtain ⟨t, ht, runs⟩ := startPump_stands running lid target
    exact ⟨t, by simp only [enterKind, kind, ht], runs⟩
  · have gate : ((s.setGate v false).vol v).state = .running := by rw [setGate_vol]; exact running
    cases v with
    | ch c =>
      refine ⟨_, enterKind_purge_chamber kind rfl target, requestGas_runsInPhase
        (runsInPhase_of_vol (State.vol_modVol_self _ (.ch c) _) gate (by simp)) ?_⟩
      obtain ⟨g, hg⟩ := s.setGate_eq (.ch c) false
      rw [hg]
      exact ok c rfl
    | tc =>
      exact ⟨_, enterKind_purge_vented kind target rfl,
        runsInPhase_of_vol (State.vol_modVol_self _ .tc _) gate (by simp)⟩
    | ll l =>
      exact ⟨_, enterKind_purge_vented kind target rfl,
        runsInPhase_of_vol (State.vol_modVol_self _ (.ll l) _) gate (by simp)⟩
  · subst hv
    exact ⟨_, enterKind_gas gas rfl, startGasKind_stands b running ok⟩

/-- A record whose start stands runs in a phase, with the rest as its queue (R45). -/
theorem startSteps_stands {v : Volume} {r : StepRecord} {rest : List StepRecord} {s : State} (carry : Bool)
    (h : StartStands v r s) : ((startSteps v (r :: rest) carry s).vol v).state = .running
      ∧ ((startSteps v (r :: rest) carry s).vol v).phase ≠ .none
      ∧ ((startSteps v (r :: rest) carry s).vol v).current = some r
      ∧ ((startSteps v (r :: rest) carry s).vol v).queue = rest
      ∧ ((startSteps v (r :: rest) carry s).vol v).hold = none
      ∧ ((startSteps v (r :: rest) carry s).vol v).lastEnd = (s.vol v).lastEnd := by
  have tests := h.congr (begun_eventFrame v r rest (carry && r.kind == .etch) s)
    (begun_failed v r rest (carry && r.kind == .etch) s)
  obtain ⟨t, ht, running, phase⟩ := enterKind_stands (carry && r.kind == .etch)
    (by rw [begun_vol_self]; rfl) tests
  have started : startStep v r rest carry s = .stands t := (startStep_eq v r rest carry s).trans ht
  obtain ⟨current, runs⟩ := startStep_runs v r rest carry s
  rw [started] at current runs
  obtain ⟨queue, hold, lastEnd⟩ := runs running
  rw [startSteps, started]
  exact ⟨running, phase, current, queue, hold, lastEnd⟩

/-! ## RF at a step start (R47, R133) -/

/-- A chamber's RF enable is off and its power code 0. -/
def RfIsOff (c : Chamber) (s : State) : Prop := (s.reuOf c).rfOn = false ∧ (s.reuOf c).powerCode = 0

theorem RfIsOff.of_reu {c : Chamber} {s t : State} (h : RfIsOff c s) (same : t.reu = s.reu) : RfIsOff c t := by
  unfold RfIsOff State.reuOf at h ⊢
  rwa [same]

theorem windDown_rfIsOff (c : Chamber) (h : Option HoldRecord) (s : State) : RfIsOff c (windDown (.ch c) h s) := by
  obtain ⟨reu, -⟩ := windDown_chamberOff c h s
  rw [RfIsOff, reu]
  exact ⟨rfl, rfl⟩

theorem failStep_rfIsOff {c : Chamber} {s : State} (f : FailKind) (h : RfIsOff c s) :
    RfIsOff c (failStep (.ch c) f s) := by
  rcases failStep_cases (.ch c) f s with e | ⟨r, -, -, ⟨-, e⟩ | ⟨-, e⟩⟩ <;> rw [e]
  · exact h
  · exact windDown_rfIsOff c _ _
  · exact windDown_rfIsOff c _ _

theorem setGate_reu (v : Volume) (x : Bool) (s : State) : (s.setGate v x).reu = s.reu := by
  obtain ⟨g, h⟩ := s.setGate_eq v x
  rw [h]

theorem requestGas_rfIsOff {c : Chamber} {s : State} (flows : List FlowEntry) (h : RfIsOff c s) :
    RfIsOff c (requestGas c flows s) := by
  unfold requestGas
  split
  · exact failStep_rfIsOff _ h
  · exact h

theorem startPump_rfIsOff {c : Chamber} {s : State} (r : StepRecord) (h : RfIsOff c s) :
    RfIsOff c (startPump (.ch c) r s).state := by
  unfold startPump
  dsimp only
  split
  · exact failStep_rfIsOff _ h
  · split
    · exact h
    · split
      · exact h.of_reu (setGate_reu (.ch c) true ((setVent (.ch c) false s).modVol (.ch c) fun x =>
          { x with phase := .highPump }))
      · have closed : RfIsOff c ((setVent (.ch c) false s).setGate (.ch c) false) := h.of_reu (setGate_reu _ _ _)
        split
        · split
          · exact closed
          · exact closed
        · exact closed

theorem purgeFrom_rfIsOff {c : Chamber} (r : StepRecord) (n : Nat) {s : State} (h : RfIsOff c s) :
    RfIsOff c (purgeFrom (.ch c) r n s).state := by
  induction n generalizing s with
  | zero => exact h
  | succ n ih =>
    unfold purgeFrom
    dsimp only
    split
    · split
      · exact h
      · split
        · exact ih h
        · exact requestGas_rfIsOff _ h
    · exact h

theorem beginCycle_rfIsOff {c : Chamber} {s : State} (r : StepRecord) (h : RfIsOff c s) :
    RfIsOff c (beginCycle (.ch c) r s).state := by
  unfold beginCycle
  dsimp only
  split
  · exact purgeFrom_rfIsOff r _ h
  · exact requestGas_rfIsOff _ h

/-- No start lights RF but that of an ETCH that carries it. -/
theorem enterKind_rfIsOff {c : Chamber} {s : State} (r : StepRecord) (h : RfIsOff c s) :
    RfIsOff c (enterKind (.ch c) r false s).state := by
  unfold enterKind
  cases r.kind with
  | pump => exact startPump_rfIsOff r h
  | vent => exact h.of_reu (setGate_reu (.ch c) false s)
  | purge => exact beginCycle_rfIsOff r (h.of_reu (setGate_reu (.ch c) false s))
  | dwell => exact h
  | gas | strike | etch => exact requestGas_rfIsOff _ h

theorem begun_reuOf (c : Chamber) (r : StepRecord) (rest : List StepRecord) (carry : Bool) (s : State) :
    (begun (.ch c) r rest carry s).reuOf c = (s.reuOf c).begin r carry := by
  obtain ⟨rows, fru, dbc, h⟩ := startChamberPlant_frame c r carry
    (s.modVol (.ch c) fun x => x.begin r rest (s.items.stepLimit.get (.ch c)).toNat)
  rw [begun, h]
  exact State.reuOf_modReu_self _ c fun u => u.begin r carry

theorem startStep_rfIsOff {c : Chamber} {r : StepRecord} {carry : Bool} (rest : List StepRecord) (s : State)
    (h : (carry && r.kind == .etch) = false) : RfIsOff c (startStep (.ch c) r rest carry s).state := by
  rw [startStep_eq, h]
  refine enterKind_rfIsOff r ?_
  rw [RfIsOff, begun_reuOf]
  exact ⟨rfl, rfl⟩

/-- Step starts leave RF off unless the first of them is an ETCH that carries it (R47). -/
theorem startSteps_rfIsOff {c : Chamber} (l : List StepRecord) (carry : Bool) (s : State)
    (h : carry = true → ∀ r ∈ l.head?, r.kind ≠ .etch) : RfIsOff c (startSteps (.ch c) l carry s) := by
  induction l generalizing carry s with
  | nil => exact windDown_rfIsOff c _ _
  | cons r rest ih =>
    have off : (carry && r.kind == .etch) = false := by
      cases carry with
      | false => rfl
      | true => simpa using h rfl r rfl
    have started := startStep_rfIsOff (c := c) rest s off
    unfold startSteps
    cases ht : startStep (.ch c) r rest carry s with
    | stands t =>
      rw [ht] at started
      exact started
    | completes t =>
      dsimp only
      split
      · exact windDown_rfIsOff c _ _
      · exact ih false _ nofun

/-! ## An ETCH that carries RF (R47, R141) -/

/-- A carried ETCH that stands (R141): in its ETCH phase with RF at its own power and fresh timers, its flow request waiting
and its detector armed where it has an endpoint part. -/
structure Carried (c : Chamber) (q : StepRecord) (before : Detector) (t : State) : Prop where
  phase : (t.vol (.ch c)).phase = .etch
  reu : t.reuOf c = ⟨true, powerCodeOf q.power, 0, 0, 0, 0, 0, 0, q.duration⟩
  waits : t.inGasQueue c = true
  detector : t.detector c = if q.endpoint.isSome then ⟨true, 0, 0, none⟩ else before

theorem startSteps_carried {c : Chamber} {q : StepRecord} {rest : List StepRecord} {s : State}
    (etch : q.kind = .etch) (h : StartStands (.ch c) q s) :
    Carried c q (s.detector c) (startSteps (.ch c) (q :: rest) true s) := by
  have frame := begun_eventFrame (.ch c) q rest true s
  have tests := h.congr frame (begun_failed (.ch c) q rest true s)
  have ok : ∀ f ∈ q.flows, (begun (.ch c) q rest true s).source c f.chan ≠ 0
      ∧ ((begun (.ch c) q rest true s).device (.mfc c f.chan)).failed = false := by
    rcases tests with k | k | ⟨k, -⟩ | ⟨k, -⟩ | ⟨-, d, hd, ok⟩
    · simp [etch] at k
    · simp [etch] at k
    · simp [etch] at k
    · simp [etch] at k
    · cases hd
      exact ok
  have started : startStep (.ch c) q rest true s = .stands (startGasKind c q true (begun (.ch c) q rest true s)) := by
    have carry : (true && q.kind == .etch) = true := by rw [etch]; rfl
    rw [startStep_eq, carry]
    exact enterKind_gas (by rw [etch]; rfl) rfl
  obtain ⟨w, -, carries, -⟩ := startGasKind_windows c q (begun (.ch c) q rest true s)
  have detector : (begun (.ch c) q rest true s).detector c = s.detector c := by
    obtain ⟨rows, fru, dbc, e⟩ := startChamberPlant_frame c q true
      (s.modVol (.ch c) fun x => x.begin q rest (s.items.stepLimit.get (.ch c)).toNat)
    rw [begun, e]
    rfl
  obtain ⟨vol, reu, armed⟩ := enterEtch_spec c q
    ((begun (.ch c) q rest true s).modVol (.ch c) fun x => { x with window := w })
  have joins : requestGas c q.flows (enterEtch c q
        ((begun (.ch c) q rest true s).modVol (.ch c) fun x => { x with window := w }))
      = joinGas c q.flows (enterEtch c q
        ((begun (.ch c) q rest true s).modVol (.ch c) fun x => { x with window := w })) := by
    refine requestGas_joins ?_
    unfold enterEtch
    dsimp only
    split <;> exact ok
  rw [startSteps, started]
  dsimp only
  rw [carries, joins]
  refine ⟨?_, ?_, ?_, ?_⟩
  · rw [joinGas_vol_self, vol]
  · refine reu.trans ?_
    rw [State.modVol_reuOf, begun_reuOf]
    simp [Reu.begin, etch]
  · simp [joinGas, State.inGasQueue]
  · refine armed.trans ?_
    rw [State.modVol_detector, detector]

/-! ## The state on which the next record starts (R49, R141, R142) -/

/-- What a completion changes before the next record starts: the last step end, the chamber's gas entry and its detector. -/
theorem completed_frame {v : Volume} {s : State} {r : StepRecord} (o : Option Note) (h : (s.vol v).current = some r) :
    (∀ c, (completed v o s).inGasQueue c = (s.inGasQueue c && decide (v ≠ .ch c))
        ∧ (completed v o s).detector c = { s.detector c with armed := (s.detector c).armed && decide (v ≠ .ch c) })
      ∧ (completed v o s).gat = { s.gat with queue := (completed v o s).gat.queue }
      ∧ (completed v o s).pec = { s.pec with detectors := (completed v o s).pec.detectors }
      ∧ completed v o s = { s with
          vols := (completed v o s).vols, gat := (completed v o s).gat, pec := (completed v o s).pec,
          outbox := (completed v o s).outbox } := by
  have vol : ((leaveStep v s).vol v).current = some r := by cases v <;> exact h
  unfold completed recordEnd
  rw [vol]
  cases v with
  | ch d =>
    refine ⟨fun c => ⟨?_, ?_⟩, rfl, rfl, rfl⟩
    · by_cases e : d = c
      · subst e
        simp [leaveStep, disarm, withdrawGas, post, State.inGasQueue]
      · have ne : ∀ x : GasEntry, (x.chamber == c) = true → (x.chamber != d) = true := by
          intro x hx
          simp only [beq_iff_eq] at hx
          simpa [hx] using fun k => e k.symm
        simp only [leaveStep, disarm, withdrawGas, post, State.inGasQueue, State.modVol_gat, State.modDetector,
          State.setDetector_gat, List.any_filter]
        have other : Volume.ch d ≠ .ch c := fun k => e (Volume.ch.inj k)
        rw [decide_eq_true other, Bool.and_true]
        refine Bool.eq_iff_iff.2 ⟨fun any => ?_, fun any => ?_⟩
        · obtain ⟨x, hx, both⟩ := List.any_eq_true.1 any
          exact List.any_eq_true.2 ⟨x, hx, (Bool.and_eq_true_iff.1 both).2⟩
        · obtain ⟨x, hx, here⟩ := List.any_eq_true.1 any
          exact List.any_eq_true.2 ⟨x, hx, Bool.and_eq_true_iff.2 ⟨ne x here, here⟩⟩
    · by_cases e : c = d
      · subst e
        refine (State.detector_setDetector_self (withdrawGas c s) c { s.detector c with armed := false }).trans ?_
        simp
      · refine (State.detector_setDetector_ne (withdrawGas d s) d c _ e).trans ?_
        have other : Volume.ch d ≠ .ch c := fun k => e (Volume.ch.inj k).symm
        rw [decide_eq_true other, Bool.and_true]
        rfl
  | tc => simp [leaveStep, post, State.inGasQueue, State.detector, State.modVol, State.setVol]
  | ll l => simp [leaveStep, post, State.inGasQueue, State.detector, State.modVol, State.setVol]

/-- Settles O20. -/
theorem completionCourse : Obligations.CompletionCourse := by
  intro v o r s running current
  have course := completeStep_running o running current
  have vol := completed_vol o current
  have fitted : (completed v o s).fitted v = s.fitted v :=
    ((leaveStep_eventFrame v s).trans (recordEnd_eventFrame v .completed none o _)).fitted v
  obtain ⟨plant, gat, pec, rest⟩ := completed_frame o current
  have stands : ∀ {q}, StartStands v q s → StartStands v q (completed v o s) := fun h =>
    h.congr ((leaveStep_eventFrame v s).trans (recordEnd_eventFrame v _ _ _ _)) fun d => by rw [rest]; rfl
  have next : ∀ {q l}, r.last = false → (s.vol v).queue = q :: l →
      completeStep v o s = startSteps v (q :: l) (r.kind == .strike || r.kind == .etch) (completed v o s) := by
    intro q l goesOn queue
    rw [course, if_neg (Bool.eq_false_iff.1 goesOn), queue]
  have carry : (r.kind == .strike || r.kind == .etch) = true ↔ r.kind = .strike ∨ r.kind = .etch := by simp
  refine ⟨fun last => ?_, fun goesOn empty => ?_, fun q l goesOn queue dwell => ?_, fun q l goesOn queue => ⟨?_, ?_, ?_⟩,
    (completeStep_local v o s).vol⟩
  · rw [course, if_pos last, (windDown_vol v none _).2, vol]
    exact ⟨rfl, rfl, rfl, current, rfl⟩
  · have under : completeStep v o s = underflow v (completed v o s) := by
      rw [course, if_neg (Bool.eq_false_iff.1 goesOn), empty]
      rfl
    have flagged := setFlag_flagsOnly v v .underflow (completed v o s)
    have counted := countOn_countersOnly v Counters.countUnderflow (setFlag v .underflow (completed v o s))
    rw [under, underflow, enterSafing, (windDown_vol v _ _).2]
    refine ⟨rfl, ?_, ⟨_, rfl, rfl, ?_⟩, ?_, fun fit => ⟨?_, ?_⟩⟩
    · rw [counted, flagged, vol]
      exact current
    · have tag : ((countOn v Counters.countUnderflow (setFlag v .underflow (completed v o s))).vol v).current = some r := by
        rw [counted, flagged, vol]
        exact current
      simp [Vol.holdRecord, Vol.currentTag, tag]
    · rw [counted, flagged, vol]
    · have set := (setFlag_hasFlag_iff v v .underflow .underflow (completed v o s)).2 (.inr ⟨rfl, fitted.trans fit, rfl⟩)
      exact (congrArg (fun x => x.hasFlag .underflow) counted).trans set
    · have still : (setFlag v .underflow (completed v o s)).fitted v = true :=
        (setFlag_fitted v v _ _).trans (fitted.trans fit)
      rw [countOn_vol_self _ still, flagged, vol]
      rfl
  · have head : StartStands v q (completed v o s) := .inl dwell
    obtain ⟨run, -, cur, que, -, fin⟩ := startSteps_stands (rest := l) (r.kind == .strike || r.kind == .etch) head
    have entered : startSteps v (q :: l) (r.kind == .strike || r.kind == .etch) (completed v o s)
        = (begun v q l false (completed v o s)).modVol v fun x => { x with phase := .dwell } := by
      have plain : ((r.kind == .strike || r.kind == .etch) && q.kind == .etch) = false := by rw [dwell]; simp
      rw [startSteps, startStep_eq, plain]
      simp only [enterKind, dwell]
    rw [next goesOn queue]
    refine ⟨run, ?_, cur, que, ?_, ?_, fun c hv => ?_⟩
    · rw [entered, State.vol_modVol_self]
    · rw [entered, State.vol_modVol_self, begun_vol_self]
      rfl
    · rw [fin, vol]
    · subst hv
      exact startSteps_rfIsOff _ _ _ fun _ x hx => by cases hx; simp [dwell]
  · exact ⟨_, _, next goesOn queue, carry, vol, (completed_local v o s).vol, plant, gat, pec, rest⟩
  · intro h
    obtain ⟨run, phase, cur, que, -, fin⟩ := startSteps_stands (rest := l) (r.kind == .strike || r.kind == .etch) (stands h)
    rw [next goesOn queue]
    exact ⟨run, phase, cur, que, by rw [fin, vol]⟩
  · intro c hv
    subst hv
    rw [next goesOn queue]
    refine ⟨fun plain => startSteps_rfIsOff _ _ _ fun carried x hx => ?_, fun etch lit h => ?_⟩
    · cases hx
      exact fun etch => plain ⟨etch, carry.1 carried⟩
    · rw [carry.2 lit]
      obtain ⟨phase, reu, waits, detector⟩ := startSteps_carried (rest := l) etch (stands h)
      refine ⟨phase, reu, waits, ?_⟩
      rw [detector, (plant c).2]
      cases q.endpoint <;> simp

end Sys2Proof.Machine
end

section
/-! What can fall due within an event, once and for all, and what it leaves of a volume that does not run. -/

namespace Sys2Proof.Machine

open Sys2Proof

/-! ## Everything that can follow within an event -/

/-- The phases in which a volume waits for the rough manifold or is on it (R68, R70). -/
def Phase.onManifold : Phase → Bool
  | .waitRough | .valveWait | .rough | .pumpback => true
  | _ => false

/-- An opened rough valve (R70, R86): the grant OPEN, the roughing stage entered with the code as baseline. -/
def opened (v : Volume) (p : Int) (s : State) : State :=
  (mapGrant v (fun g => { g with valveOpen := true }) s).modVol v fun x =>
    { x with roughOpen := true, phase := x.roughingPhase, stallBaseline := p, stallCount := 0 }

/-- A grant of the manifold to the head of the rough queue (R68). -/
def granted (v : Volume) (rest : List Volume) (s : State) : State :=
  State.modVol { s with rma := ⟨s.rma.grants ++ [⟨v, prospectiveLoad s v, false⟩], rest⟩ } v
    fun x => { x with phase := .valveWait }

/-- What an event can lead to within itself, one thing at a time, with the condition under which each is taken. -/
inductive Move (s : State) : State → Prop
  | completes (v : Volume) (n : Option Note) (r : StepRecord) (p : Phase) (h : inPhase s v p = some r)
      (apart : p.onManifold = false) : Move s (completeStep v n s)
  | closes (v : Volume) (r : StepRecord) (h : inPhase s v .overhang = some r) :
      Move s (completeStep v none (setVent v false s))
  | fails (v : Volume) (f : FailKind) (r : StepRecord) (h : runningStep s v = some r) : Move s (failStep v f s)
  | renews (v : Volume) (p : Int) (stage : roughing s v = true)
      (count : s.items.stallWindow.get v ≤ ((s.vol v).stallCount : Int)) :
      Move s (s.modVol v fun x => { x with stallBaseline := p, stallCount := 0 })
  | retries (v : Volume) (stage : roughing s v = true)
      (count : s.items.stallWindow.get v ≤ ((s.vol v).stallCount : Int)) (left : 0 < (s.vol v).retriesLeft) :
      Move s (stallRetry v s)
  | strikes (c : Chamber) (r : StepRecord) (p : Phase) (h : inPhase s (.ch c) p = some r)
      (lit : p = .ignite ∨ p = .confirm) : Move s (strikeRetry c s)
  | relights (c : Chamber) (r : StepRecord) (h : inPhase s (.ch c) .retryPause = some r)
      (pause : 20 ≤ (s.reuOf c).pauseCount) : Move s (enterIgnite c r s)
  | idles (v : Volume) (drained : s.drained v = true) (ending : (s.vol v).state = .ending) (n : Notice) :
      Move s (post [v.master] n (s.modVol v fun x => { x with state := .idle, current := none }))
  | holds (v : Volume) (drained : s.drained v = true) (safing : (s.vol v).state = .safing) (n : Notice) :
      Move s (post [v.master] n (s.modVol v fun x => { x with state := .hold }))
  | transits (c : Chamber) (r : StepRecord) (h : inPhase s (.ch c) .transition = some r) : Move s (afterTransition c r s)
  | lights (c : Chamber) (r : StepRecord) (h : inPhase s (.ch c) .ignite = some r) :
      Move s ((s.modVol (.ch c) fun x => { x with phase := .confirm }).modReu c fun u => { u with confirmCount := 0 })
  | highPumps (v : Volume) (r : StepRecord) (h : inPhase s v .turboWait = some r) : Move s (enterHighPump v s)
  | roughs (v : Volume) (r : StepRecord) (h : inPhase s v .rough = some r) : Move s (endRough v r s)
  | vents (v : Volume) (r : StepRecord) (h : inPhase s v .venting = some r) :
      Move s (s.modVol v fun x => { x with phase := .overhang, overhangCount := 0 })
  | fills (v : Volume) (r : StepRecord) (h : inPhase s v .fill = some r)
      (target : s.atOrAbove (.vol v) r.target = true) : Move s (endFill v r s)
  | pumps (v : Volume) (r : StepRecord) (h : inPhase s v .pumpback = some r)
      (floor : s.atOrBelow (.vol v) r.floor = true) : Move s (endPumpBack v r s)
  | opens (v : Volume) (g : Grant) (p : Int) (grant : s.grant? v = some g) (waiting : g.valveOpen = false)
      (gate : s.gateOpen v = false) : Move s (opened v p s)
  | grants (v : Volume) (rest : List Volume) (queue : s.rma.queue = v :: rest)
      (fits : s.rma.used + (prospectiveLoad s v).units ≤ 4) : Move s (granted v rest s)
  | admits (e : GasEntry) (next : nextAdmission s = some e) : Move s (admitEntry e s)

/-- What an option leads to, where it stands, has a property. -/
def Leads (P : State → Prop) (o : Option State) : Prop := ∀ t, o = some t → P t

section Leads
variable {P : State → Prop}

theorem Leads.none : Leads P none := fun _ h => nomatch h

theorem Leads.some {t : State} (h : P t) : Leads P (some t) := fun _ e => Option.some.inj e ▸ h

theorem Leads.ite {p : Prop} [Decidable p] {a b : Option State} (ha : p → Leads P a) (hb : ¬p → Leads P b) :
    Leads P (if p then a else b) := by
  split
  · exact ha ‹_›
  · exact hb ‹_›

theorem Leads.or {a b : Option State} (ha : Leads P a) (hb : Leads P b) : Leads P (a.or b) := by
  cases a with
  | none => exact hb
  | some t => exact ha

theorem Leads.findSome? {f : Volume → Option State} (h : ∀ v, Leads P (f v)) (l : List Volume) :
    Leads P (l.findSome? f) := by
  intro t ht
  obtain ⟨v, -, hv⟩ := List.exists_of_findSome?_eq_some ht
  exact h v t hv

end Leads

section Rows
variable (v : Volume) (c : Chamber) (s : State)

theorem stepLimitExpiry?_moves : Leads (Move s) (stepLimitExpiry? v s) := by
  unfold stepLimitExpiry?
  split
  next r h => exact Leads.ite (fun _ => .some (.fails v _ r h)) fun _ => .none
  · exact .none

theorem admissionLimitExpiry?_moves : Leads (Move s) (admissionLimitExpiry? v s) := by
  unfold admissionLimitExpiry?
  split
  next r h => exact Leads.ite (fun _ => .some (.fails v _ r h)) fun _ => .none
  · exact .none

theorem stallOutcome_move {p : Int} (stage : roughing s v = true)
    (count : s.items.stallWindow.get v ≤ ((s.vol v).stallCount : Int)) :
    Move s (stallOutcome v p s) ∨ stallOutcome v p s = s := by
  unfold stallOutcome
  split
  · exact .inl (.renews v p stage count)
  · split
    next left => exact .inl (.retries v stage count left)
    · cases h : runningStep s v with
      | some r => exact .inl (.fails v _ r h)
      | none =>
        have running : (s.vol v).state = .running := ((roughing_iff s v).1 stage).1
        have current : (s.vol v).current = none := by
          unfold runningStep at h
          rwa [if_pos running] at h
        exact .inr (by simp only [failStep, running, current])


theorem stallCheck?_moves : Leads (fun t => Move s t ∨ t = s) (stallCheck? v s) := by
  unfold stallCheck?
  split
  next p code =>
    refine Leads.ite (fun h => .some ?_) fun _ => .none
    obtain ⟨stage, count⟩ := Bool.and_eq_true_iff.1 h
    exact stallOutcome_move v s stage (of_decide_eq_true count)
  · exact .none

theorem dwellComplete?_moves : Leads (Move s) (dwellComplete? v s) := by
  unfold dwellComplete?
  split
  next r h => exact Leads.ite (fun _ => .some (.completes v none r .dwell h rfl)) fun _ => .none
  · exact .none

theorem overhangEnd?_moves : Leads (Move s) (overhangEnd? v s) := by
  unfold overhangEnd?
  split
  next r h => exact Leads.ite (fun _ => .some (.closes v r h)) fun _ => .none
  · exact .none

theorem settleComplete?_moves : Leads (Move s) (settleComplete? c s) := by
  unfold settleComplete?
  split
  next r h => exact Leads.ite (fun _ => .some (.completes (.ch c) none r .settle h rfl)) fun _ => .none
  · exact .none

theorem strikeConfirmed?_moves : Leads (Move s) (strikeConfirmed? c s) := by
  unfold strikeConfirmed?
  split
  next r h => exact Leads.ite (fun _ => .some (.completes (.ch c) none r .confirm h rfl)) fun _ => .none
  · exact .none

theorem strikeTimeout?_moves : Leads (Move s) (strikeTimeout? c s) := by
  unfold strikeTimeout?
  split
  next r h =>
    obtain ⟨running, current⟩ := runningStep_eq_some.1 h
    refine Leads.ite (fun due => Leads.ite (fun _ => .some ?_) fun _ => .some (.fails _ _ r h)) fun _ => .none
    obtain ⟨lit, -⟩ := Bool.and_eq_true_iff.1 due
    obtain ⟨lit, -⟩ := Bool.and_eq_true_iff.1 lit
    refine .strikes c r _ (inPhase_eq_some.2 ⟨running, rfl, current⟩) ?_
    simpa using lit
  · exact .none

theorem retryPauseEnd?_moves : Leads (Move s) (retryPauseEnd? c s) := by
  unfold retryPauseEnd?
  split
  next r h => exact Leads.ite (fun pause => .some (.relights c r h pause)) fun _ => .none
  · exact .none

theorem dropoutLimitExceeded?_moves : Leads (Move s) (dropoutLimitExceeded? c s) := by
  unfold dropoutLimitExceeded?
  split
  next r h =>
    obtain ⟨running, -, current⟩ := inPhase_eq_some.1 h
    exact Leads.ite (fun _ => .some (.fails _ _ r (runningStep_eq_some.2 ⟨running, current⟩))) fun _ => .none
  · exact .none

theorem gatedTimeEnd?_moves : Leads (Move s) (gatedTimeEnd? c s) := by
  unfold gatedTimeEnd?
  split
  next r h =>
    obtain ⟨running, -, current⟩ := inPhase_eq_some.1 h
    refine Leads.ite (fun _ => .some ?_) fun _ => .none
    unfold endEtch
    split
    · exact .completes _ _ r .etch h rfl
    · split
      · exact .fails _ _ r (runningStep_eq_some.2 ⟨running, current⟩)
      · exact .completes _ _ r .etch h rfl
    · exact .completes _ _ r .etch h rfl
  · exact .none

theorem windDownEnd?_moves : Leads (Move s) (windDownEnd? v s) := by
  unfold windDownEnd?
  refine Leads.ite (fun drained => ?_) fun _ => .none
  split
  next ending => exact .some (.idles v drained ending _)
  next safing => exact .some (.holds v drained safing _)
  · exact .none

theorem transitionEnd?_moves : Leads (Move s) (transitionEnd? c s) := by
  unfold transitionEnd?
  split
  next r h => exact Leads.ite (fun _ => .none) fun _ => .some (.transits c r h)
  · exact .none

theorem plasmaLit?_moves : Leads (Move s) (plasmaLit? c s) := by
  unfold plasmaLit?
  split
  next r h => exact Leads.ite (fun _ => .some (.lights c r h)) fun _ => .none
  · exact .none

theorem turboReady?_moves : Leads (Move s) (turboReady? v s) := by
  unfold turboReady?
  split
  next r h => exact Leads.ite (fun _ => .some (.highPumps v r h)) fun _ => .none
  · exact .none

theorem codeReached?_moves : Leads (Move s) (codeReached? v s) := by
  unfold codeReached?
  split
  next r h =>
    obtain ⟨running, current⟩ := runningStep_eq_some.1 h
    have inPhase : ∀ {p}, (s.vol v).phase = p → inPhase s v p = some r := fun e =>
      inPhase_eq_some.2 ⟨running, e, current⟩
    split
    next e => exact Leads.ite (fun _ => .some (.roughs v r (inPhase e))) fun _ => .none
    next e => exact Leads.ite (fun _ => .some (.completes v none r .highPump (inPhase e) rfl)) fun _ => .none
    next e => exact Leads.ite (fun _ => .some (.vents v r (inPhase e))) fun _ => .none
    next e => exact Leads.ite (fun target => .some (.fills v r (inPhase e) target)) fun _ => .none
    next e => exact Leads.ite (fun floor => .some (.pumps v r (inPhase e) floor)) fun _ => .none
    · exact .none
  · exact .none

theorem openValve?_moves : Leads (Move s) (openValve? v s) := by
  unfold openValve?
  split
  next g p grant code =>
    refine Leads.ite (fun h => .some ?_) fun _ => .none
    obtain ⟨waiting, test⟩ := Bool.and_eq_true_iff.1 h
    refine .opens v g p grant (by simpa using waiting) ?_
    unfold valveTest at test
    split at test
    · simpa using (Bool.and_eq_true_iff.1 test).2
    · cases test
  · exact .none

theorem grantHead?_moves : Leads (Move s) (grantHead? s) := by
  unfold grantHead?
  split
  · exact .none
  next w rest queue => exact Leads.ite (fun fits => .some (.grants w rest queue fits)) fun _ => .none

theorem gasAdmission?_moves : Leads (Move s) (gasAdmission? s) := by
  unfold gasAdmission?
  cases h : nextAdmission s with
  | none => exact .none
  | some e => exact .some (.admits e h)

theorem Leads.mono {P Q : State → Prop} {o : Option State} (h : Leads P o) (k : ∀ t, P t → Q t) : Leads Q o :=
  fun t ht => k t (h t ht)

theorem tickDue?_moves : Leads (fun t => Move s t ∨ t = s) (tickDue? v s) := by
  have move : ∀ {o}, Leads (Move s) o → Leads (fun t => Move s t ∨ t = s) o := fun h => h.mono fun _ => .inl
  unfold tickDue?
  refine (move (dwellComplete?_moves v s)).or ((move (overhangEnd?_moves v s)).or (Leads.or ?_
    ((move (stepLimitExpiry?_moves v s)).or ((move (admissionLimitExpiry?_moves v s)).or (stallCheck?_moves v s)))))
  cases v with
  | ch c =>
    exact move ((settleComplete?_moves c s).or ((strikeConfirmed?_moves c s).or ((strikeTimeout?_moves c s).or
      ((retryPauseEnd?_moves c s).or ((dropoutLimitExceeded?_moves c s).or (gatedTimeEnd?_moves c s))))))
  | tc => exact .none
  | ll l => exact .none

theorem stateDue?_moves : Leads (Move s) (stateDue? v s) := by
  unfold stateDue?
  refine (windDownEnd?_moves v s).or (Leads.or ?_ ((turboReady?_moves v s).or (codeReached?_moves v s)))
  cases v with
  | ch c => exact (transitionEnd?_moves c s).or (plasmaLit?_moves c s)
  | tc => exact .none
  | ll l => exact .none

/-- The next thing that is due is a move, or leaves the state as it stands: a stall check without a step to fail. -/
theorem nextDue?_moves : Leads (fun t => Move s t ∨ t = s) (nextDue? s) :=
  (Leads.findSome? (fun v => tickDue?_moves v s) _).or <|
    ((Leads.findSome? (fun v => stateDue?_moves v s) _).or
      ((Leads.findSome? (fun v => openValve?_moves v s) _).or
        ((grantHead?_moves s).or (gasAdmission?_moves s)))).mono fun _ => .inl

end Rows

/-- What every move keeps, settling keeps. -/
theorem settle_keeps {P : State → Prop} (move : ∀ s t, Move s t → P s → P t) (n : Nat) {s : State} (h : P s) :
    P (settle n s) := by
  induction n generalizing s with
  | zero => exact h
  | succ n ih =>
    unfold settle
    cases due : nextDue? s with
    | none => exact h
    | some t =>
      rcases nextDue?_moves s t due with moved | same
      · exact ih (move s t moved h)
      · exact ih (same ▸ h)

/-! ## Posting the notices of an event -/

theorem postTo_frame (n : Notice) (s : State) (l : Link) : ∃ ports, postTo n s l = { s with ports := ports } := ⟨_, rfl⟩

theorem foldl_ports {α : Type} (f : State → α → State) (h : ∀ s a, ∃ ports, f s a = { s with ports := ports })
    (l : List α) (s : State) : ∃ ports, l.foldl f s = { s with ports := ports } := by
  refine List.foldlRecOn (motive := fun t : State => ∃ ports, t = { s with ports := ports }) l f ⟨s.ports, rfl⟩ ?_
  rintro _ ⟨ports, rfl⟩ a -
  exact h _ a

theorem deliver_frame (s : State) (p : Posting) : ∃ ports, deliver s p = { s with ports := ports } :=
  foldl_ports (postTo p.notice) (postTo_frame p.notice) p.addressees s

/-- The notices of an event change the ports, and leave none behind (R62). -/
theorem flush_frame (s : State) : ∃ ports, flush s = { s with outbox := [], ports := ports } := by
  obtain ⟨ports, h⟩ := foldl_ports deliver deliver_frame (inOrder s.outbox) { s with outbox := [] }
  exact ⟨ports, h⟩

/-! ## A volume that does not run stays so (R54, R56) -/

/-- From `s` to `t` volume `v`, where it does not run, only winds down: it keeps its queue, hold record, last step end and
flags, and moves at most from ENDING to IDLE and from SAFING to HOLD. -/
def Parked (v : Volume) (s t : State) : Prop :=
  (s.vol v).state ≠ .running →
    (t.vol v).queue = (s.vol v).queue ∧ (t.vol v).hold = (s.vol v).hold ∧ (t.vol v).lastEnd = (s.vol v).lastEnd
      ∧ (t.vol v).flags = (s.vol v).flags
      ∧ ((t.vol v).state = (s.vol v).state ∨ ((s.vol v).state = .ending ∧ (t.vol v).state = .idle)
        ∨ ((s.vol v).state = .safing ∧ (t.vol v).state = .hold))

theorem Parked.of_vol {v : Volume} {s t : State} (h : t.vol v = s.vol v) : Parked v s t := fun _ => by
  rw [h]
  exact ⟨rfl, rfl, rfl, rfl, .inl rfl⟩

theorem Parked.trans {v : Volume} {s t u : State} (h : Parked v s t) (k : Parked v t u) : Parked v s u := by
  intro off
  obtain ⟨queue, hold, lastEnd, flags, state⟩ := h off
  have off' : (t.vol v).state ≠ .running := by
    rcases state with e | ⟨-, e⟩ | ⟨-, e⟩ <;> rw [e]
    · exact off
    · exact nofun
    · exact nofun
  obtain ⟨queue', hold', lastEnd', flags', state'⟩ := k off'
  refine ⟨queue'.trans queue, hold'.trans hold, lastEnd'.trans lastEnd, flags'.trans flags, ?_⟩
  rcases state with e | ⟨e, e2⟩ | ⟨e, e2⟩ <;> rcases state' with f | ⟨f, f2⟩ | ⟨f, f2⟩ <;> simp_all

/-- Another volume's own operation leaves a volume as it is; its own stops nothing that does not run. -/
theorem Local.parked {v w : Volume} {s t : State} (h : Local v s t) (running : (s.vol v).state = .running) :
    Parked w s t := by
  by_cases e : w = v
  · subst e
    exact fun off => absurd running off
  · exact .of_vol (h.vol w e)

theorem strikeRetry_local (c : Chamber) (s : State) : Local (.ch c) s (strikeRetry c s) :=
  (((((modReu_local c _ s).trans (rfOff_local c _)).trans (setFlag_local _ .strikeRetry _)).trans
    (countOn_local _ Counters.countStrikeRetry _)).trans (modVol_local _ (fun x => { x with phase := .retryPause }) _))

theorem stallRetry_local (v : Volume) (s : State) : Local v s (stallRetry v s) :=
  ((((modVol_local v _ s).trans (setFlag_local v .pumpRetry _)).trans (countOn_local v Counters.countPumpRetry _)).trans
    (releaseRough_local v _)).trans (joinRough_local v _)

theorem enterIgnite_local (c : Chamber) (r : StepRecord) (s : State) : Local (.ch c) s (enterIgnite c r s) :=
  (modVol_local _ (fun x => { x with phase := .ignite }) s).trans
    (modReu_local c (fun u => { u with rfOn := true, powerCode := powerCodeOf r.power, strikeTimer := 0 }) _)

theorem afterTransition_local (c : Chamber) (r : StepRecord) (s : State) : Local (.ch c) s (afterTransition c r s) := by
  unfold afterTransition
  split
  · exact enterIgnite_local c r s
  · exact (enterEtch_within c r s).alone
  · exact modVol_local _ _ s

theorem endRough_local (v : Volume) (r : StepRecord) (s : State) : Local v s (endRough v r s) := by
  rw [endRough_eq]
  split
  · exact (releaseRough_local v s).trans (modVol_local v _ _)
  · exact (releaseRough_local v s).trans (completeStep_local v none _)

theorem Started.settle_local {v : Volume} {s : State} {x : Started} (h : Local v s x.state) : Local v s (x.settle v) := by
  cases x with
  | stands t => exact h
  | completes t => exact h.trans (completeStep_local v none t)

theorem fillClosed_within (v : Volume) (r : StepRecord) (s : State) : Within v s (fillClosed v r s) := by
  cases v with
  | ch c => exact foldl_within _ (fun s f => zeroChannel_within c .normal f.chan s) r.flows s
  | tc => exact setVent_within _ false s
  | ll l => exact setVent_within _ false s

theorem endFill_local (v : Volume) (r : StepRecord) (s : State) : Local v s (endFill v r s) := by
  rw [endFill_eq]
  exact Started.settle_local ((fillClosed_within v r s).alone.trans (purgeFrom_within v r _ _).alone)

theorem pumpedBack_local (v : Volume) (s : State) : Local v s (pumpedBack v s) :=
  (releaseRough_local v s).trans (modVol_local v _ _)

theorem endPumpBack_local (v : Volume) (r : StepRecord) (s : State) : Local v s (endPumpBack v r s) := by
  rw [endPumpBack_eq]
  split
  · exact (pumpedBack_local v s).trans (completeStep_local v none _)
  · exact Started.settle_local ((pumpedBack_local v s).trans (beginCycle_within v r _).alone)

theorem headerTest_frame (s : State) : ∃ hlm outbox, headerTest s = { s with hlm := hlm, outbox := outbox } := by
  unfold headerTest
  dsimp only
  split <;> split <;> exact ⟨_, _, rfl⟩

/-- The admitted channels' transitions change GAT's rows, the generators and the device bus alone. -/
theorem foldl_admitChannel_frame (c : Chamber) (aims : Per6 Aim) (l : List Chan) (s : State) : ∃ rows fru dbc,
    l.foldl (admitChannel c aims) s = { s with gat := { s.gat with rows := rows }, fru := fru, dbc := dbc } := by
  refine List.foldlRecOn
    (motive := fun t : State => ∃ rows fru dbc, t = { s with gat := { s.gat with rows := rows }, fru := fru, dbc := dbc })
    l _ ⟨s.gat.rows, s.fru, s.dbc, rfl⟩ ?_
  rintro _ ⟨rows, fru, dbc, rfl⟩ k -
  unfold admitChannel
  dsimp only
  split
  · exact ⟨_, _, _, rfl⟩
  · obtain ⟨b, h⟩ := startTransition_eq c k (aims.get k).target (aims.get k).ticks .normal
      { s with gat := { s.gat with rows := rows }, fru := fru, dbc := dbc }
    exact ⟨_, _, b, h⟩

theorem admitEntry_frame (e : GasEntry) (s : State) : ∃ rows fru dbc hlm outbox, admitEntry e s = State.modVol
    { s with
      gat := { s.gat with rows := rows, queue := s.gat.queue.filter fun f => f.chamber != e.chamber }
      fru := fru, dbc := dbc, hlm := hlm, outbox := outbox } (.ch e.chamber) Vol.afterAdmission := by
  obtain ⟨rows, fru, dbc, h⟩ := foldl_admitChannel_frame e.chamber e.aims Chan.all (withdrawGas e.chamber s)
  obtain ⟨hlm, outbox, k⟩ := headerTest_frame (Chan.all.foldl (admitChannel e.chamber e.aims) (withdrawGas e.chamber s))
  refine ⟨rows, fru, dbc, hlm, outbox, ?_⟩
  unfold admitEntry
  dsimp only
  rw [k, h]
  rfl

theorem Vol.afterAdmission_phase (x : Vol) : x.afterAdmission = { x with phase := x.afterAdmission.phase } := by
  unfold Vol.afterAdmission
  split <;> rfl

/-- A change of one volume that leaves its state, queue, hold record, last end and flags. -/
theorem modVol_parked (v w : Volume) (f : Vol → Vol) (s : State) (h : (f (s.vol v)).queue = (s.vol v).queue
    ∧ (f (s.vol v)).hold = (s.vol v).hold ∧ (f (s.vol v)).lastEnd = (s.vol v).lastEnd
    ∧ (f (s.vol v)).flags = (s.vol v).flags ∧ (f (s.vol v)).state = (s.vol v).state) : Parked w s (s.modVol v f) := by
  by_cases e : w = v
  · subst e
    intro _
    rw [State.vol_modVol_self]
    obtain ⟨queue, hold, lastEnd, flags, state⟩ := h
    exact ⟨queue, hold, lastEnd, flags, .inl state⟩
  · exact .of_vol (State.vol_modVol_ne s v w f e)

theorem Move.parked {s t : State} (w : Volume) (h : Move s t) : Parked w s t := by
  have running : ∀ {v p r}, inPhase s v p = some r → (s.vol v).state = .running := fun h => (inPhase_eq_some.1 h).1
  cases h with
  | completes v n r p h _ => exact (completeStep_local v n s).parked (running h)
  | closes v r h => exact ((setVent_local v false s).trans (completeStep_local v none _)).parked (running h)
  | fails v f r h => exact (failStep_local v f s).parked (runningStep_eq_some.1 h).1
  | renews v p stage _ => exact (modVol_local v _ s).parked ((roughing_iff s v).1 stage).1
  | retries v stage _ _ => exact (stallRetry_local v s).parked ((roughing_iff s v).1 stage).1
  | strikes c r p h _ => exact (strikeRetry_local c s).parked (running h)
  | relights c r h _ => exact (enterIgnite_local c r s).parked (running h)
  | idles v _ ending n =>
    by_cases e : w = v
    · subst e
      intro _
      rw [post_vol, State.vol_modVol_self]
      exact ⟨rfl, rfl, rfl, rfl, .inr (.inl ⟨ending, rfl⟩)⟩
    · exact .of_vol ((post_vol _ _ _ w).trans (State.vol_modVol_ne s v w _ e))
  | holds v _ safing n =>
    by_cases e : w = v
    · subst e
      intro _
      rw [post_vol, State.vol_modVol_self]
      exact ⟨rfl, rfl, rfl, rfl, .inr (.inr ⟨safing, rfl⟩)⟩
    · exact .of_vol ((post_vol _ _ _ w).trans (State.vol_modVol_ne s v w _ e))
  | transits c r h => exact (afterTransition_local c r s).parked (running h)
  | lights c r h => exact ((modVol_local _ _ s).trans (modReu_local c _ _)).parked (running h)
  | highPumps v r h => exact (enterHighPump_within v s).alone.parked (running h)
  | roughs v r h => exact (endRough_local v r s).parked (running h)
  | vents v r h => exact (modVol_local v _ s).parked (running h)
  | fills v r h _ => exact (endFill_local v r s).parked (running h)
  | pumps v r h _ => exact (endPumpBack_local v r s).parked (running h)
  | opens v g p _ _ _ =>
    exact modVol_parked v w _ (mapGrant v (fun g => { g with valveOpen := true }) s) ⟨rfl, rfl, rfl, rfl, rfl⟩
  | grants v rest _ _ =>
    exact modVol_parked v w _ { s with rma := ⟨s.rma.grants ++ [⟨v, prospectiveLoad s v, false⟩], rest⟩ }
      ⟨rfl, rfl, rfl, rfl, rfl⟩
  | admits e _ =>
    obtain ⟨rows, fru, dbc, hlm, outbox, h⟩ := admitEntry_frame e s
    rw [h]
    refine modVol_parked (.ch e.chamber) w Vol.afterAdmission _ ?_
    rw [Vol.afterAdmission_phase]
    exact ⟨rfl, rfl, rfl, rfl, rfl⟩

theorem settle_parked (v : Volume) (n : Nat) (s : State) : Parked v s (settle n s) :=
  settle_keeps (P := fun t => Parked v s t) (fun _ _ move h => h.trans (move.parked v)) n (.of_vol rfl)

theorem finish_parked (v : Volume) (s : State) : Parked v s (finish s) := by
  obtain ⟨ports, h⟩ := flush_frame (settle settleBound s)
  refine (settle_parked v settleBound s).trans (.of_vol ?_)
  rw [finish, h]
  rfl

end Sys2Proof.Machine
end

section
/-! The statement about settled events fails: a volume RUNNING without a current step can keep a stall check due for ever. -/

namespace Sys2Proof.Machine

open Sys2Proof

/-! ## A stall check that never ends (R86, R87) -/

/-- Where the next thing that is due leaves the state as it stands, settling comes to no end within any bound. -/
theorem settle_of_nextDue?_self {s : State} (h : nextDue? s = some s) (n : Nat) : settle n s = s := by
  induction n with
  | zero => rfl
  | succ n ih => rw [settle, h]; exact ih

/-- TC after power-on, but RUNNING in ROUGH under an OPEN grant with a sample, a stall count at its window and no retry left,
and without a current step. -/
def stalledWithoutStep : State :=
  (State.modVol { State.reset with rma := ⟨[⟨.tc, .light, true⟩], []⟩ } .tc fun x =>
    { x with state := .running, phase := .rough, stallCount := 10 }).setGauge (.vol .tc)
      ⟨some ⟨0, 0, false, false⟩, false, false, false⟩

theorem stalledWithoutStep_due : nextDue? stalledWithoutStep = some stalledWithoutStep := by decide

theorem stalledWithoutStep_quiet : stalledWithoutStep.outbox = [] := rfl

theorem default_items_in_range {s : State} (h : s.items = Items.default) : itemLaw s := by
  intro i x y hy
  rw [h] at hy ⊢
  obtain ⟨hi, hx⟩ := Items.get?_bounds hy
  have inRange : ∀ i < 38, ∀ x < 46, ∀ y ∈ Items.default.get? i x,
      (Items.default.range i x).1 ≤ y ∧ y ≤ (Items.default.range i x).2 := by decide
  exact inRange i hi x hx y hy

theorem stalledWithoutStep_queueLaw : queueLaw stalledWithoutStep := by
  refine ⟨fun v => ?_, by decide⟩
  rcases v with c | _ | l
  · cases c <;> decide
  · decide
  · cases l <;> decide

theorem flush_of_empty_outbox {s : State} (h : s.outbox = []) : flush s = s := by
  unfold flush
  rw [h]
  show ({ s with outbox := [] } : State) = s
  rw [← h]

/-- Refutes O13: with the items in their ranges and every queue within its capacity, but a RUNNING volume without a current
step, the stall check fails no step and stays due, so that the end of the event is not settled. -/
theorem not_eventsSettle : ¬ Obligations.EventsSettle := by
  rintro ⟨-, -, -, -, ends, -⟩
  have ended : finish stalledWithoutStep = stalledWithoutStep := by
    rw [finish, settle_of_nextDue?_self stalledWithoutStep_due, flush_of_empty_outbox stalledWithoutStep_quiet]
  obtain ⟨quiet, -⟩ := ends stalledWithoutStep (default_items_in_range rfl) stalledWithoutStep_queueLaw
  rw [ended, stalledWithoutStep_due] at quiet
  cases quiet

end Sys2Proof.Machine
end

section
/-! Proofs about the volume requests and the loss of a link (R38, R40, R43, R44, R58, R161). -/

namespace Sys2Proof.Machine

open Sys2Proof

/-! ## The checks of a volume request (R38) -/

theorem Volume.ofNum_eq_some {n : Nat} {v : Volume} : Volume.ofNum n = some v ↔ n = v.num := by
  refine ⟨fun h => ?_, fun h => h ▸ Volume.ofNum_num v⟩
  unfold Volume.ofNum at h
  split at h <;> cases h <;> rfl

/-- A request that its owning block answers without an action (R38, R160). -/
theorem request_answered {l : Link} {req : Request} {a : Answer} {s u : State} (tag : Byte) (fits : req.fits = true)
    (formed : req.formed = true) (h : serve l req (hear l s) = (u, a)) :
    (.next (request l tag req s) : Host.Outcome State Fault Refusal) = .next (answered l tag req a u) := by
  rw [request_eq, take_of_formed l req _ fits formed, h]

section Checks
variable {l : Link} {n : Nat} {e : Reason} {s : State}

theorem onRun_error (h : volumeCheck l n s = .error e) : onRun l n s = (s, refuse e) := by rw [onRun, h]

theorem onHold_error (h : volumeCheck l n s = .error e) : onHold l n s = (s, refuse e) := by rw [onHold, h]

theorem onResume_error (h : volumeCheck l n s = .error e) : onResume l n s = (s, refuse e) := by rw [onResume, h]

theorem onClear_error (h : volumeCheck l n s = .error e) : onClear l n s = (s, refuse e) := by rw [onClear, h]

theorem onAbort_error (h : volumeCheck l n s = .error e) : onAbort l n s = (s, refuse e) := by rw [onAbort, h]

theorem onLoad_error (r : RawRecord) (h : volumeCheck l n s = .error e) : onLoad l n r s = (s, refuse e) := by
  rw [onLoad, h]

end Checks

/-- Settles O41. -/
theorem volumeRequestChecks : Obligations.VolumeRequestChecks := by
  refine ⟨rfl, fun n v => Volume.ofNum_eq_some, fun c d => ⟨rfl, rfl, rfl⟩, fun s v => ⟨rfl, ?_⟩, fun l tag n i req s hi => ?_⟩
  · simp [State.fitted, State.capacity]
  have refused : ∀ e, volumeCheck l n (hear l s) = .error e →
      exec i s = .next (answered l tag req (refuse e) (hear l s)) := by
    intro e check
    simp only [List.mem_cons, List.not_mem_nil, or_false, Prod.mk.injEq] at hi
    rcases hi with (⟨rfl, rfl⟩ | ⟨rfl, rfl⟩ | ⟨rfl, rfl⟩ | ⟨rfl, rfl⟩ | ⟨rfl, rfl⟩) | ⟨r, ⟨rfl, rfl⟩, fits, formed⟩
    · exact request_answered tag rfl rfl (onRun_error check)
    · exact request_answered tag rfl rfl (onHold_error check)
    · exact request_answered tag rfl rfl (onResume_error check)
    · exact request_answered tag rfl rfl (onClear_error check)
    · exact request_answered tag rfl rfl (onAbort_error check)
    · exact request_answered tag fits formed (onLoad_error r check)
  refine ⟨fun outside => refused _ (volumeCheck_range l n _ (Volume.ofNum_outside outside)),
    fun v hv => ⟨fun unfitted => refused _ (volumeCheck_notFitted l n v _ hv unfitted),
      fun fitted other => refused _ (volumeCheck_owner l n v _ hv fitted other)⟩⟩

/-! ## HOLD, ABORT and CLEAR (R40, R43, R44) -/

theorem holdVolume_vol {v : Volume} {s : State} {r : StepRecord} (current : (s.vol v).current = some r) :
    (holdVolume v s).vol v = { s.vol v with
      state := .safing
      phase := .none
      hold := some ⟨.requested, none, r.tag, (s.vol v).phase⟩
      lastEnd := some ⟨r.tag, r.kind, .stopped, none, none⟩
      roughOpen := false
      ventOpen := false } := by
  have tag : (s.vol v).currentTag = r.tag := by simp [Vol.currentTag, current]
  rw [holdVolume, enterSafing, (windDown_vol v _ _).2, recordEnd_vol_self v _ _ _ r s current]
  simp [Vol.holdRecord, Vol.currentTag, current]

theorem abortVolume_vol {v : Volume} {s : State} {r : StepRecord} (current : (s.vol v).current = some r) :
    (abortVolume v s).vol v = { s.vol v with
      state := .ending
      phase := .none
      hold := none
      queue := []
      lastEnd := some ⟨r.tag, r.kind, .stopped, none, none⟩
      roughOpen := false
      ventOpen := false } := by
  have current' : ((discard v s).vol v).current = some r := by
    rw [discard, State.vol_modVol_self]
    exact current
  rw [abortVolume, enterEnding, (windDown_vol v _ _).2, recordEnd_vol_self v _ _ _ r _ current', discard,
    State.vol_modVol_self]
  simp

theorem holdVolume_eventFrame (v : Volume) (s : State) : EventFrame s (holdVolume v s) :=
  (recordEnd_eventFrame v .stopped none none s).trans (windDown_eventFrame v _ _)

theorem abortVolume_eventFrame (v : Volume) (s : State) : EventFrame s (abortVolume v s) :=
  ((modVol_eventFrame v (fun x => { x with queue := [] }) s).trans (recordEnd_eventFrame v .stopped none none _)).trans
    (windDown_eventFrame v _ _)

section Requests
variable {l : Link} {n : Nat} {v : Volume} {s : State}

theorem onHold_ok (check : volumeCheck l n s = .ok v) : onHold l n s =
    if (s.vol v).state = .running then (finish (holdVolume v s), ok) else (s, refuse .state) := by
  rw [onHold, check]

theorem onAbort_ok (check : volumeCheck l n s = .ok v) : onAbort l n s =
    if (s.vol v).state = .running then (finish (abortVolume v s), ok) else (s, refuse .state) := by
  rw [onAbort, check]

theorem onClear_refused (check : volumeCheck l n s = .ok v)
    (h : (s.vol v).state = .running ∨ (s.vol v).state = .ending ∨ (s.vol v).state = .safing) :
    onClear l n s = (s, refuse .state) := by
  rcases h with h | h | h <;> simp only [onClear, check, h]

theorem onClear_idle (check : volumeCheck l n s = .ok v) (h : (s.vol v).state = .idle) :
    onClear l n s = (discard v s, ok) := by
  simp only [onClear, check, h]

theorem onClear_hold (check : volumeCheck l n s = .ok v) (h : (s.vol v).state = .hold) :
    onClear l n s = (finish (clearHeld v s), ok) := by
  simp only [onClear, check, h]

end Requests

/-- Settles O45, request by request and state by state. -/
theorem holdClearAndAbortCourse : Obligations.HoldClearAndAbortCourse := by
  intro l tag n v s num fitted master
  have check : volumeCheck l n (hear l s) = .ok v := volumeCheck_ok l n v _ num fitted master
  refine ⟨fun off => ⟨?_, ?_⟩, fun r running current => ⟨⟨finish (holdVolume v (hear l s)), ?_, ?_⟩,
      ⟨finish (abortVolume v (hear l s)), ?_, ?_⟩⟩, fun busy => ?_, fun idle => ?_,
    fun hold => ⟨clearHeld v (hear l s), ?_, ?_, fun w ne => ?_, rfl, rfl, finish_eventFrame _⟩⟩
  · exact request_answered tag rfl rfl ((onHold_ok check).trans (if_neg off))
  · exact request_answered tag rfl rfl ((onAbort_ok check).trans (if_neg off))
  · exact request_answered tag rfl rfl ((onHold_ok check).trans (if_pos running))
  · have vol := holdVolume_vol (s := hear l s) current
    have off : ((holdVolume v (hear l s)).vol v).state ≠ .running := by rw [vol]; exact nofun
    obtain ⟨queue, record, lastEnd, -, state⟩ := finish_parked v (holdVolume v (hear l s)) off
    rw [vol] at queue record lastEnd state
    refine ⟨?_, record, queue, lastEnd, (holdVolume_eventFrame v _).trans (finish_eventFrame _)⟩
    rcases state with e | ⟨e, -⟩ | ⟨-, e⟩
    · exact .inl e
    · cases e
    · exact .inr e
  · exact request_answered tag rfl rfl ((onAbort_ok check).trans (if_pos running))
  · have vol := abortVolume_vol (s := hear l s) current
    have off : ((abortVolume v (hear l s)).vol v).state ≠ .running := by rw [vol]; exact nofun
    obtain ⟨queue, -, lastEnd, -, state⟩ := finish_parked v (abortVolume v (hear l s)) off
    rw [vol] at queue lastEnd state
    refine ⟨?_, queue, lastEnd, (abortVolume_eventFrame v _).trans (finish_eventFrame _)⟩
    rcases state with e | ⟨-, e⟩ | ⟨e, -⟩
    · exact .inl e
    · exact .inr e
    · cases e
  · exact request_answered tag rfl rfl (onClear_refused check busy)
  · exact request_answered tag rfl rfl (onClear_idle check idle)
  · exact request_answered tag rfl rfl (onClear_hold check hold)
  · exact (post_vol _ _ _ v).trans (State.vol_modVol_self _ v _)
  · exact (post_vol _ _ _ w).trans (State.vol_modVol_ne _ v w _ ne)

/-! ## The loss of a link (R58, R161) -/

theorem linkLossVolume_oneVolume (s : State) (v : Volume) : OneVolume v s (linkLossVolume s v) := by
  unfold linkLossVolume
  split
  · split
    · exact takeFault_oneVolume v _ s
    · exact (modVol_oneVolume v _ s).trans (takeFault_oneVolume v _ _)
  · exact .refl v s

theorem linkLossVolume_eventFrame (s : State) (v : Volume) : EventFrame s (linkLossVolume s v) := by
  unfold linkLossVolume
  split
  · split
    · exact takeFault_eventFrame v _ s
    · exact (modVol_eventFrame v (fun x => { x with queue := [] }) s).trans (takeFault_eventFrame v _ _)
  · exact EventFrame.refl s

/-- A fitted volume at the loss of its master (R58), by the state it is in. -/
def LinkLost (x y : Vol) : Prop :=
  y.hasFlag .linkLost = true
    ∧ (x.state = .idle → y.state = .idle ∧ y.queue = x.queue)
    ∧ (x.state ≠ .idle → y.queue = [] ∧ (y.state = .safing ∨ y.state = .hold))
    ∧ (x.state = .running ∨ x.state = .ending → ∃ h, y.hold = some h ∧ h.cause = .linkLost)
    ∧ (x.state = .safing ∨ x.state = .hold → y.hold = x.hold)

theorem takeFault_queue (v : Volume) (k : HoldCause) (s : State) :
    ((takeFault v k s).vol v).queue = (s.vol v).queue := by
  unfold takeFault
  have kept : ((setFlag? v k.flag s).vol v).queue = (s.vol v).queue := by rw [setFlag?_flagsOnly]
  split
  · dsimp only
    split
    · rw [enterSafing, (windDown_vol v _ _).2]
      dsimp only
      rw [recordEnd_lastEndOnly]
      exact kept
    · split
      · rw [setGate_vol, State.vol_modVol_self]
        exact kept
      · rw [State.vol_modVol_self]
        exact kept
    · exact kept
    · exact kept
    · exact kept
  · rfl

/-- A fault on a volume that is neither RUNNING nor ENDING sets its flag alone (R53). -/
theorem takeFault_atRest {v : Volume} (k : HoldCause) {s : State}
    (h : (s.vol v).state ≠ .running ∧ (s.vol v).state ≠ .ending) :
    ((takeFault v k s).vol v) = { s.vol v with flags := ((takeFault v k s).vol v).flags } := by
  obtain ⟨notRunning, notEnding⟩ := h
  have flagged := setFlag?_flagsOnly v k.flag s v
  have state : ((setFlag? v k.flag s).vol v).state = (s.vol v).state := by rw [flagged]
  unfold takeFault
  split
  · dsimp only
    rw [state]
    split
    · contradiction
    · contradiction
    · exact flagged
    · exact flagged
    · exact flagged
  · rfl

theorem linkLossVolume_vol {v : Volume} {s : State} (fitted : s.fitted v = true) :
    LinkLost (s.vol v) ((linkLossVolume s v).vol v) := by
  unfold linkLossVolume
  rw [if_pos fitted]
  by_cases idle : (s.vol v).state = .idle
  · rw [if_pos idle]
    have rest := takeFault_atRest .linkLost (s := s) (v := v) (by rw [idle]; exact ⟨nofun, nofun⟩)
    refine ⟨(takeFault_vol fitted rfl).1, fun _ => ?_, fun h => absurd idle h, fun h => ?_, fun h => ?_⟩
    · rw [rest]
      exact ⟨idle, rfl⟩
    · simp [idle] at h
    · simp [idle] at h
  · rw [if_neg idle]
    have discarded : (discard v s).vol v = { s.vol v with queue := [] } := State.vol_modVol_self s v _
    obtain ⟨flag, faulted⟩ := takeFault_vol (v := v) (k := .linkLost) (s := discard v s) fitted rfl
    have queue := takeFault_queue v .linkLost (discard v s)
    rw [discarded] at faulted queue
    refine ⟨flag, fun h => absurd h idle, fun _ => ⟨queue, ?_⟩, fun h => (faulted h).2, fun h => ?_⟩
    · by_cases busy : (s.vol v).state = .running ∨ (s.vol v).state = .ending
      · exact .inl (faulted busy).1
      · obtain ⟨notRunning, notEnding⟩ := not_or.1 busy
        rw [takeFault_atRest .linkLost (by rw [discarded]; exact ⟨notRunning, notEnding⟩), discarded]
        cases hs : (s.vol v).state <;> simp_all
    · have busy : (s.vol v).state ≠ .running ∧ (s.vol v).state ≠ .ending := by
        rcases h with h | h <;> rw [h] <;> exact ⟨nofun, nofun⟩
      rw [takeFault_atRest .linkLost (by rw [discarded]; exact busy), discarded]

theorem LinkLost.finish {v : Volume} {x : Vol} {s : State} (h : LinkLost x (s.vol v)) :
    LinkLost x ((finish s).vol v) := by
  obtain ⟨flag, idle, lost, cause, kept⟩ := h
  have off : (s.vol v).state ≠ .running := by
    by_cases hx : x.state = .idle
    · rw [(idle hx).1]
      exact nofun
    · rcases (lost hx).2 with e | e <;> rw [e] <;> exact nofun
  obtain ⟨queue, hold, -, flags, state⟩ := finish_parked v s off
  refine ⟨?_, fun hx => ?_, fun hx => ?_, fun hx => ?_, fun hx => ?_⟩
  · rwa [Vol.hasFlag, flags]
  · obtain ⟨still, que⟩ := idle hx
    rw [queue, que]
    refine ⟨?_, rfl⟩
    rcases state with e | ⟨e, -⟩ | ⟨e, -⟩
    · exact e.trans still
    · simp [still] at e
    · simp [still] at e
  · obtain ⟨que, stopped⟩ := lost hx
    rw [queue, que]
    refine ⟨rfl, ?_⟩
    rcases state with e | ⟨e, -⟩ | ⟨-, e⟩
    · rwa [e]
    · simp [e] at stopped
    · exact .inr e
  · rw [hold]
    exact cause hx
  · rw [hold]
    exact kept hx

theorem mem_ownedVolumes {l : Link} {v : Volume} : v ∈ ownedVolumes l ↔ v.master = l := by
  simp [ownedVolumes, Volume.mem_all]

theorem wrapInc_eq (top n : Nat) : wrapInc top n = if n < top then n + 1 else 0 := rfl

/-- The volumes of a lost link, taken one after another (R58). -/
theorem foldl_linkLossVolume_vol {l : Link} {v : Volume} {s : State} (owner : v.master = l)
    (fitted : s.fitted v = true) : LinkLost (s.vol v) (((ownedVolumes l).foldl linkLossVolume s).vol v) := by
  obtain ⟨t, ht, same, turn⟩ := foldl_reading_at (f := linkLossVolume) (get := State.vol)
    (P := fun t => t.fitted v = true)
    (fun t w h => ((linkLossVolume_eventFrame t w).fitted v).trans h)
    (fun t w u ne => (linkLossVolume_oneVolume t w).1 u ne) (ownedVolumes l)
    (nodup_volumes.filter _) s fitted v (mem_ownedVolumes.2 owner)
  rw [turn, ← same]
  exact linkLossVolume_vol ht

/-- Settles O39. -/
theorem linkExpiryCourse : Obligations.LinkExpiryCourse := by
  refine ⟨fun l s stopped => ?_, fun l n s running => ⟨linkExpiry l s, ?_, ?_⟩⟩
  · have same : expireIfRunning l s = s := by simp [expireIfRunning, stopped]
    exact congrArg Host.Outcome.next same
  · have expires : expireIfRunning l s = linkExpiry l s := by simp [expireIfRunning, running]
    exact congrArg Host.Outcome.next expires
  · have fold := (foldl_eventFrame linkLossVolume linkLossVolume_eventFrame (ownedVolumes l)
      (s.modPort l Port.expire)).trans (finish_eventFrame _)
    obtain ⟨cfg, flu, tiu, enable, -, gauges, -, -, -, -, -, ports⟩ := fold
    have port := ports l
    rw [State.port_modPort_self] at port
    simp only [Port.besideNotice, Port.mk.injEq] at port
    obtain ⟨-, -, -, -, lost, silence, -, downs, -, mask, -, -⟩ := port
    refine ⟨lost, silence, downs.trans (wrapInc_eq 255 _), mask, fun v owner fitted => ?_, cfg, flu, tiu, enable, gauges⟩
    exact (foldl_linkLossVolume_vol (s := s.modPort l Port.expire) owner fitted).finish

end Sys2Proof.Machine
end

section
/-! Proof of the statement about notices: how one is written, and the order in which an event's notices go out (R62, R163). -/

namespace Sys2Proof.Machine

open Sys2Proof

/-! ## One notice (R163, R164) -/

theorem writeNotice_enabled {n : Notice} {p : Port} (h : p.mask.getLsbD (n.kind.code - 1) = true) :
    writeNotice n p = { p with slot := some ⟨n, true⟩, sequence := (p.sequence + 1) % 8, attention := true } := if_pos h

theorem writeNotice_disabled {n : Notice} {p : Port} (h : p.mask.getLsbD (n.kind.code - 1) = false) :
    writeNotice n p = p := if_neg (Bool.eq_false_iff.1 h)

/-- A posting is written once to each addressee (R164). -/
theorem deliver_port {p : Posting} (distinct : p.addressees.Nodup) (s : State) (l : Link) :
    (deliver s p).port l = if p.addressees.contains l then writeNotice p.notice (s.port l) else s.port l := by
  have other : ∀ (t : State) (i j : Link), j ≠ i → (postTo p.notice t i).port j = t.port j := fun t i j ne =>
    State.port_modPort_ne t i j _ ne
  split
  next h =>
    exact foldl_reading_of_mem (get := State.port) (P := fun _ => True) (upd := fun _ => writeNotice p.notice)
      (fun _ _ _ => trivial) (fun t i _ => State.port_modPort_self t i _) other p.addressees distinct s trivial l
      (by simpa using h)
  next h => exact foldl_reading_of_notMem (get := State.port) other p.addressees s l (by simpa using h)

theorem foldl_deliver_port (l : Link) (q : List Posting) (distinct : ∀ p ∈ q, p.addressees.Nodup) (s : State) :
    (q.foldl deliver s).port l
      = (q.filter fun p => p.addressees.contains l).foldl (fun x p => writeNotice p.notice x) (s.port l) := by
  induction q generalizing s with
  | nil => rfl
  | cons p q ih =>
    obtain ⟨first, others⟩ := List.forall_mem_cons.1 distinct
    rw [List.foldl_cons, ih others, deliver_port first]
    split
    next h => rw [List.filter_cons_of_pos (by exact h), List.foldl_cons]
    next h => rw [List.filter_cons_of_neg (by exact h)]

/-! ## The order of an event's notices (R62, R127) -/

theorem insertPosting_perm (p : Posting) (l : List Posting) : (insertPosting p l).Perm (p :: l) := by
  induction l with
  | nil => exact .refl _
  | cons q rest ih =>
    unfold insertPosting
    split
    · exact .refl _
    · exact (ih.cons q).trans (.swap p q rest)

/-- A list of postings in ascending rank. -/
def RankSorted (l : List Posting) : Prop := l.Pairwise fun a b => a.notice.rank ≤ b.notice.rank

theorem insertPosting_sorted (p : Posting) {l : List Posting} (h : RankSorted l) : RankSorted (insertPosting p l) := by
  induction l with
  | nil => exact List.pairwise_singleton _ p
  | cons q rest ih =>
    obtain ⟨below, sorted⟩ := List.pairwise_cons.1 h
    unfold insertPosting
    split
    next first =>
      refine List.pairwise_cons.2 ⟨fun x hx => ?_, h⟩
      rcases List.mem_cons.1 hx with rfl | hx
      · exact first.le
      · exact first.le.trans (below x hx)
    next later =>
      refine List.pairwise_cons.2 ⟨fun x hx => ?_, ih sorted⟩
      rcases List.mem_cons.1 ((insertPosting_perm p rest).mem_iff.1 hx) with rfl | hx
      · exact Nat.le_of_not_lt later
      · exact below x hx

/-- Among postings of one rank the inserted one goes last. -/
theorem insertPosting_filter (p : Posting) (k : Nat) {l : List Posting} (h : RankSorted l) :
    (insertPosting p l).filter (fun x => x.notice.rank == k)
      = l.filter (fun x => x.notice.rank == k) ++ [p].filter (fun x => x.notice.rank == k) := by
  induction l with
  | nil => rfl
  | cons q rest ih =>
    obtain ⟨below, sorted⟩ := List.pairwise_cons.1 h
    unfold insertPosting
    split
    next first =>
      by_cases hk : p.notice.rank = k
      · have none : (q :: rest).filter (fun x => x.notice.rank == k) = [] := by
          refine List.filter_eq_nil_iff.2 fun x hx same => ?_
          have least : q.notice.rank ≤ x.notice.rank := by
            rcases List.mem_cons.1 hx with rfl | hx
            · exact le_rfl
            · exact below x hx
          have : x.notice.rank = k := by simpa using same
          omega
        rw [List.filter_cons, none]
        simp [hk]
      · simp [List.filter_cons, hk]
    next later =>
      rw [List.filter_cons, List.filter_cons, ih sorted]
      split <;> simp

theorem inOrder_spec (l : List Posting) : (inOrder l).Perm l ∧ RankSorted (inOrder l)
    ∧ ∀ k, (inOrder l).filter (fun x => x.notice.rank == k) = l.filter fun x => x.notice.rank == k := by
  have fold : ∀ acc, RankSorted acc →
      (l.foldl (fun acc p => insertPosting p acc) acc).Perm (acc ++ l)
        ∧ RankSorted (l.foldl (fun acc p => insertPosting p acc) acc)
        ∧ ∀ k, (l.foldl (fun acc p => insertPosting p acc) acc).filter (fun x => x.notice.rank == k)
          = acc.filter (fun x => x.notice.rank == k) ++ l.filter fun x => x.notice.rank == k := by
    induction l with
    | nil => exact fun acc h => ⟨by simp, h, by simp⟩
    | cons p l ih =>
      intro acc h
      obtain ⟨perm, sorted, stable⟩ := ih (insertPosting p acc) (insertPosting_sorted p h)
      refine ⟨?_, sorted, fun k => ?_⟩
      · exact (perm.trans ((insertPosting_perm p acc).append_right l)).trans List.perm_middle.symm
      · rw [List.foldl_cons, stable k, insertPosting_filter p k h, List.append_assoc, ← List.filter_append]
        rfl
  simpa [inOrder] using fold [] List.Pairwise.nil

/-- A notice that the part can raise: its volume and its flag number are within range. -/
def Notice.bounded (n : Notice) : Prop := n.volume ≤ 7 ∧ (n.kind = .condition → n.code ≤ 13)

/-- The rank follows the order of R62 and R127. -/
theorem Notice.rank_lt {a b : Notice} (ha : a.bounded) (hb : b.bounded) (h : a.mustPrecede b) : a.rank < b.rank := by
  obtain ⟨va, ca⟩ := ha
  obtain ⟨vb, cb⟩ := hb
  unfold Notice.mustPrecede Notice.aboutVolume at h
  unfold Notice.rank
  cases ka : a.kind <;> cases kb : b.kind <;> simp [ka, kb] at h ca cb ⊢ <;> omega

/-- Notices that no rule orders have one rank. -/
theorem Notice.rank_eq {a b : Notice} (h : ¬ a.mustPrecede b) (k : ¬ b.mustPrecede a) : a.rank = b.rank := by
  unfold Notice.mustPrecede Notice.aboutVolume at h k
  unfold Notice.rank
  cases ka : a.kind <;> cases kb : b.kind <;> simp [ka, kb] at h k ⊢ <;> omega

theorem inOrder_pairwise {l : List Posting} (bounded : ∀ p ∈ l, p.notice.bounded) :
    (inOrder l).Pairwise fun a b => ¬ b.notice.mustPrecede a.notice := by
  obtain ⟨perm, sorted, -⟩ := inOrder_spec l
  refine List.Pairwise.imp_of_mem (fun {a b} ha hb le first => ?_) sorted
  have lt := Notice.rank_lt (bounded b (perm.mem_iff.1 hb)) (bounded a (perm.mem_iff.1 ha)) first
  omega

/-- Notices of one rank stay as they arose. -/
theorem inOrder_stable {l pre mid post : List Posting} {a b : Posting} (h : l = pre ++ a :: mid ++ b :: post)
    (same : a.notice.rank = b.notice.rank) : ∃ pre' mid' post', inOrder l = pre' ++ a :: mid' ++ b :: post' := by
  have pair : [a, b].Sublist l := by
    rw [h, List.append_assoc]
    refine List.Sublist.trans ?_ (List.sublist_append_right pre _)
    exact (List.singleton_sublist.2 (by simp)).cons_cons a
  have ordered : [a, b].Sublist (inOrder l) := by
    have kept := pair.filter fun x => x.notice.rank == b.notice.rank
    rw [← (inOrder_spec l).2.2, List.filter_eq_self.2 (by simp [same])] at kept
    exact kept.trans List.filter_sublist
  obtain ⟨r, t, split, ha, hb⟩ := List.cons_sublist_iff.1 ordered
  obtain ⟨pre', mid', rfl⟩ := List.append_of_mem ha
  obtain ⟨mid'', post', rfl⟩ := List.append_of_mem (List.singleton_sublist.1 hb)
  exact ⟨pre', mid' ++ mid'', post', by simp [split]⟩

theorem inOrder_nodup {l : List Posting} (distinct : ∀ p ∈ l, p.addressees.Nodup) :
    ∀ p ∈ inOrder l, p.addressees.Nodup := fun p hp => distinct p ((inOrder_spec l).1.mem_iff.1 hp)

/-- A flag goes from clear to set with a notice (R60). -/
theorem setFlag_set {v : Volume} {f : Flag} {s : State} (fitted : s.fitted v = true) (h : (s.vol v).hasFlag f = true) :
    setFlag v f s = s.modVol v fun x => { x with flags := x.flags ||| f.bit } := by
  simp [setFlag, fitted, h]

theorem setFlag_clear {v : Volume} {f : Flag} {s : State} (fitted : s.fitted v = true) (h : (s.vol v).hasFlag f = false) :
    setFlag v f s = post [v.master] (conditionNotice v (s.vol v) f)
      (s.modVol v fun x => { x with flags := x.flags ||| f.bit }) := by
  simp [setFlag, fitted, h]

/-- Settles O40. -/
theorem noticesWrittenInOrder : Obligations.NoticesWrittenInOrder := by
  refine ⟨fun n p enabled => ?_, fun n p => writeNotice_disabled, fun v f s fitted u hu => ⟨fun h => ?_, fun h => ?_⟩,
    fun v o f n r s current u hu => ?_, rfl, rfl, rfl, rfl, rfl, rfl, fun x f => ⟨rfl, ?_⟩, fun s posted => ?_⟩
  · rw [writeNotice_besideNotice, writeNotice_enabled enabled]
    exact ⟨rfl, rfl, rfl, rfl⟩
  · rw [hu, setFlag_set fitted h]
    rfl
  · rw [hu, setFlag_clear fitted h]
    rfl
  · rw [hu, recordEnd, current]
    rfl
  · unfold Vol.currentTag
    cases x.current <;> rfl
  · have distinct : ∀ p ∈ s.outbox, p.addressees.Nodup := fun p hp => (posted p hp).1
    obtain ⟨ports, frame⟩ := flush_frame s
    refine ⟨inOrder s.outbox, (inOrder_spec _).1, inOrder_pairwise fun p hp => (posted p hp).2, fun l => ?_,
      fun pre a mid b post h no no' => inOrder_stable h (Notice.rank_eq no no'), ?_⟩
    · exact foldl_deliver_port l _ (inOrder_nodup distinct) { s with outbox := [] }
    · rw [frame]

end Sys2Proof.Machine
end

section
/-! Proof of the statement about EMERGENCY_OFF and the output lines (R59, R101, R110, R154 to R156). -/

namespace Sys2Proof.Machine

open Sys2Proof

/-! ## One volume at the assertion of EMERGENCY_OFF (R59, R154) -/

theorem takeFault_local (v : Volume) (k : HoldCause) (s : State) : Local v s (takeFault v k s) := by
  unfold takeFault
  split
  · have flagged := setFlag?_local v k.flag s
    dsimp only
    split
    · exact (flagged.trans (recordEnd_local v _ _ _ _)).trans (windDown_local v _ _)
    · have safing := flagged.trans (modVol_local v
        (fun x => { x with state := .safing, phase := .none, hold := some ⟨k, none, x.currentTag, .none⟩ }) _)
      split
      · exact safing.trans (setGate_local v false _)
      · exact safing
    · exact flagged
    · exact flagged
    · exact flagged
  · exact Local.refl v s

theorem emergencyVolume_local (s : State) (v : Volume) : Local v s (emergencyVolume s v) := by
  unfold emergencyVolume
  dsimp only
  split
  · exact ((takeFault_local v .emergencyOff s).trans (setGate_local v false _)).trans (setVent_local v false _)
  · exact (setGate_local v false s).trans (setVent_local v false _)

theorem emergencyVolume_eventFrame (s : State) (v : Volume) : EventFrame s (emergencyVolume s v) := by
  unfold emergencyVolume
  dsimp only
  split
  · exact ((takeFault_eventFrame v .emergencyOff s).trans (setGate_eventFrame v false _)).trans (modVol_eventFrame v _ _)
  · exact (setGate_eventFrame v false s).trans (modVol_eventFrame v _ _)

/-- A volume when EMERGENCY_OFF has asserted: vent and gate closed, SAFING where it ran or wound down, else as it was. -/
structure EmergencyStopped (fitted : Bool) (x y : Vol) (gate : Bool) : Prop where
  vent : y.ventOpen = false
  gate : gate = false
  stops : fitted = true → x.state = .running ∨ x.state = .ending →
    y.state = .safing ∧ ∃ h, y.hold = some h ∧ h.cause = .emergencyOff
  rests : x.state = .safing ∨ x.state = .hold ∨ x.state = .idle → y.state = x.state ∧ y.hold = x.hold

theorem takeFault_emergency {v : Volume} {s : State} (fitted : s.fitted v = true)
    (h : (s.vol v).state = .running ∨ (s.vol v).state = .ending) :
    ((takeFault v .emergencyOff s).vol v).state = .safing
      ∧ ∃ h, ((takeFault v .emergencyOff s).vol v).hold = some h ∧ h.cause = .emergencyOff := by
  obtain ⟨-, -, course⟩ := faultCourse
  obtain ⟨-, running, ending, -⟩ := course v .emergencyOff s fitted
  rcases h with h | h
  · obtain ⟨state, hold, -⟩ := running h
    exact ⟨state, _, hold, rfl⟩
  · obtain ⟨state, hold, -⟩ := ending h
    exact ⟨state, _, hold, rfl⟩

theorem setVent_gateOpen (v w : Volume) (x : Bool) (s : State) : (setVent v x s).gateOpen w = s.gateOpen w := rfl

theorem emergencyVolume_stopped (s : State) (v : Volume) :
    EmergencyStopped (s.fitted v) (s.vol v) ((emergencyVolume s v).vol v) ((emergencyVolume s v).gateOpen v) := by
  unfold emergencyVolume
  dsimp only
  split
  next busy =>
    have vol : (setVent v false ((takeFault v .emergencyOff s).setGate v false)).vol v
        = { (takeFault v .emergencyOff s).vol v with ventOpen := false } := by
      rw [setVent, State.vol_modVol_self, setGate_vol]
    rw [vol, setVent_gateOpen, State.gateOpen_setGate_false]
    refine ⟨rfl, rfl, fun fitted h => takeFault_emergency fitted h, fun h => ?_⟩
    rcases busy with b | b <;> simp [b] at h
  next rest =>
    have vol : (setVent v false (s.setGate v false)).vol v = { s.vol v with ventOpen := false } := by
      rw [setVent, State.vol_modVol_self, setGate_vol]
    rw [vol, setVent_gateOpen, State.gateOpen_setGate_false]
    exact ⟨rfl, rfl, fun _ h => absurd h rest, fun _ => ⟨rfl, rfl⟩⟩

/-! ## The assertion (R110, R154) -/

/-- The state on which the blocks act when EMERGENCY_OFF has just asserted. -/
def emergencyRaised (s : State) : State := { s with flu := { s.flu with fns := s.flu.fns.set .emergencyOff true } }

/-- The volumes stopped one after another. -/
def emergencyStopped (s : State) : State := Volume.all.foldl emergencyVolume (emergencyRaised s)

theorem emergencyStopped_eventFrame (s : State) : EventFrame (emergencyRaised s) (emergencyStopped s) :=
  foldl_eventFrame emergencyVolume emergencyVolume_eventFrame Volume.all (emergencyRaised s)

theorem emergencyStopped_vol (s : State) (v : Volume) :
    EmergencyStopped (s.fitted v) (s.vol v) ((emergencyStopped s).vol v) ((emergencyStopped s).gateOpen v) := by
  obtain ⟨t, ht, same, turn⟩ := foldl_reading_at (f := emergencyVolume) (get := fun t w => (t.vol w, t.gateOpen w))
    (P := fun t => t.fitted v = s.fitted v) (fun t w h => ((emergencyVolume_eventFrame t w).fitted v).trans h)
    (fun t w u ne => Prod.ext ((emergencyVolume_local t w).vol u ne) ((emergencyVolume_local t w).gate u ne))
    Volume.all nodup_volumes (emergencyRaised s) rfl v (Volume.mem_all v)
  obtain ⟨vol, gate⟩ := Prod.mk.inj turn
  obtain ⟨before, -⟩ := Prod.mk.inj same
  have stopped := emergencyVolume_stopped t v
  rw [ht, before] at stopped
  unfold emergencyStopped
  rw [vol, gate]
  exact stopped

theorem functionChanged_emergency (s : State) : functionChanged .emergencyOff true s
    = setFlags ((permitsLost s (emergencyStopped s)).map .ch) .permitLost (emergencyStopped s) := by
  rw [setFlags, List.foldl_map]
  rfl

theorem setFlags_gateOpen (vs : List Volume) (f : Flag) (s : State) (v : Volume) :
    (setFlags vs f s).gateOpen v = s.gateOpen v := by
  obtain ⟨vols, outbox, frame⟩ := setFlags_eq vs f s
  rw [frame]
  rfl

theorem setFlags_tiu (vs : List Volume) (f : Flag) (s : State) : (setFlags vs f s).tiu = s.tiu := by
  obtain ⟨vols, outbox, frame⟩ := setFlags_eq vs f s
  rw [frame]

theorem functionChanged_emergency_vol (s : State) (v : Volume) : (functionChanged .emergencyOff true s).vol v
    = { (emergencyStopped s).vol v with flags := ((functionChanged .emergencyOff true s).vol v).flags } := by
  rw [functionChanged_emergency]
  exact setFlags_flagsOnly _ _ _ v

theorem permit_of_emergency {s : State} (h : s.fn .emergencyOff = true) (c : Chamber) : s.permit c = false := by
  simp [State.permit, h]

theorem emergencyStopped_permit (s : State) (c : Chamber) : (emergencyStopped s).permit c = false := by
  refine permit_of_emergency ((emergencyStopped_eventFrame s).fn _ |>.trans ?_) c
  rfl

theorem functionChanged_emergency_permitLost {s : State} {c : Chamber} (fitted : s.fitted (.ch c) = true)
    (permit : s.permit c = true) :
    ((functionChanged .emergencyOff true s).vol (.ch c)).hasFlag .permitLost = true := by
  rw [functionChanged_emergency]
  refine (setFlags_hasFlag_iff _ _ _ _ _).2 (.inr ⟨rfl, ((emergencyStopped_eventFrame s).fitted _).trans fitted, ?_⟩)
  refine List.mem_map_of_mem (List.mem_filter.2 ⟨Chamber.mem_all c, ?_⟩)
  rw [permit, emergencyStopped_permit]
  rfl

/-! ## Output lines (R101, R155, R156) -/

theorem sumChannels_pos (f : Chamber → Chan → Nat) : 0 < sumChannels f ↔ ∃ c k, 0 < f c k := by
  have zero : sumChannels f = 0 ↔ ∀ c k, f c k = 0 := by
    simp [sumChannels, sumChan, Chamber.mem_all, Chan.mem_all, List.sum_eq_zero_iff]
  rw [Nat.pos_iff_ne_zero, Ne, zero]
  simp [Nat.pos_iff_ne_zero]

theorem sourceOpen_iff (s : State) (n : Nat) : s.sourceOpen n = true ↔
    (∃ c k, s.source c k = n ∧ 0 < (s.row c k).commitment) ∧ s.fn .emergencyOff = false := by
  have total : 0 < s.sourceTotal n ↔ ∃ c k, s.source c k = n ∧ 0 < (s.row c k).commitment := by
    rw [State.sourceTotal, sumChannels_pos]
    refine exists_congr fun c => exists_congr fun k => ?_
    by_cases h : s.source c k = n <;> simp [h]
  simp [State.sourceOpen, total]

theorem finalOpen_iff (s : State) (c : Chamber) : s.finalOpen c = true ↔
    (s.vol (.ch c)).state = .running ∧ ∃ k, 0 < (s.row c k).commitment := by
  rw [State.finalOpen, Bool.and_eq_true, hasCommitment_iff, beq_iff_eq]

theorem lineEnergised_iff (s : State) (n : Nat) (o : OutLine) : lineEnergised s n o = true ↔
    (lineDriven s o = true ↔ atPlace s.items.outputPolarity n = 0) := by
  unfold lineEnergised
  cases lineDriven s o <;> simp

theorem lineDriven_configuring {s : State} (h : s.cfg.serving = false) (o : OutLine) : lineDriven s o = false := by
  simp [lineDriven, h]

theorem overridden_iff (o : OutLine) :
    o.overridden = false ↔ (∃ w, o = .slit w) ∨ (∃ c, o = .rfEn c) ∨ ∃ d, o = .doorPermit d := by
  cases o <;> simp [OutLine.overridden]

/-- Each line's command is its owner's (R101, R155, R156). -/
theorem lineCommand_owner (s : State) :
    (∀ v, lineCommand s (.rough v) = (s.vol v).roughOpen ∧ lineCommand s (.vent v) = (s.vol v).ventOpen)
      ∧ (∀ t : Turbo, lineCommand s (.gate t) = s.gateOpen t.volume ∧ s.gateOpen t.volume = s.gates.getT t)
      ∧ (∀ d, s.gateOpen (.ll d) = false) ∧ (∀ c, lineCommand s (.final c) = s.finalOpen c)
      ∧ (∀ n, lineCommand s (.src n) = s.sourceOpen n)
      ∧ (∀ c, (lineCommand s (.final c) = true ↔
            (s.vol (.ch c)).state = .running ∧ ∃ k, 0 < (s.row c k).commitment)
          ∧ lineCommand s (.rfEn c) = (s.reuOf c).rfOn)
      ∧ (∀ w, lineCommand s (.slit w) = s.tiu.slits.get w) ∧ (∀ d, lineCommand s (.doorPermit d) = s.tiu.doors.get d)
      ∧ ∀ n, lineCommand s (.src n) = true ↔
          (∃ c k, s.source c k = n ∧ 0 < (s.row c k).commitment) ∧ s.fn .emergencyOff = false := by
  refine ⟨fun v => ⟨rfl, rfl⟩, fun t => ?_, fun d => rfl, fun c => rfl, fun n => rfl,
    fun c => ⟨finalOpen_iff s c, rfl⟩, fun w => rfl, fun d => rfl, sourceOpen_iff s⟩
  cases t <;> exact ⟨rfl, rfl⟩

theorem outLines_chamber (c : Chamber) : (outLines.drop (6 * (c.num - 1))).take 6
    = [.rough (.ch c), .gate (.ch c), .vent (.ch c), .final c, .slit (.ch c), .rfEn c] := by
  cases c <;> rfl

/-- Settles O37. -/
theorem emergencyOffAssertion : Obligations.EmergencyOffAssertion := by
  refine ⟨fun s _ => ⟨fun v => ?_, fun v fitted busy => ?_, fun v rest => ?_,
      fun c => functionChanged_emergency_permitLost, ?_⟩,
    fun s asserted => ⟨permit_of_emergency asserted, fun n => ?_, fun o driven => ?_⟩,
    fun s configuring n o => ⟨lineDriven_configuring configuring o, ?_⟩,
    fun s serving n o => ⟨fun free => ?_, lineEnergised_iff s n o⟩,
    lineCommand_owner, by decide, outLines_chamber, by decide, by decide⟩
  · obtain ⟨vent, gate, -, -⟩ := emergencyStopped_vol s v
    refine ⟨?_, ?_⟩
    · rw [functionChanged_emergency_vol]
      exact vent
    · rw [functionChanged_emergency, setFlags_gateOpen]
      exact gate
  · rw [functionChanged_emergency_vol]
    exact (emergencyStopped_vol s v).stops fitted busy
  · rw [functionChanged_emergency_vol]
    exact (emergencyStopped_vol s v).rests rest
  · obtain ⟨-, -, tiu, -⟩ := emergencyStopped_eventFrame s
    rw [functionChanged_emergency, setFlags_tiu]
    exact tiu
  · simp [State.sourceOpen, asserted]
  · refine (overridden_iff o).1 ?_
    simpa [lineDriven, asserted] using (Bool.and_eq_true_iff.1 driven).2
  · rw [lineEnergised_iff, lineDriven_configuring configuring]
    simp
  · have stays : (s.fn .emergencyOff && o.overridden) = false := by
      rcases free with off | free
      · rw [off]
        rfl
      · rw [(overridden_iff o).2 free, Bool.and_false]
    simp [lineDriven, serving, stays]

end Sys2Proof.Machine
end

section
/-! The laws of the shared plant (R56, R64, R69, R100, R133, R148), volume by volume: what leaves them standing. -/

namespace Sys2Proof.Machine

open Sys2Proof

/-! ## The laws, volume by volume -/

/-- What `roughLaw` says of one volume (R67 to R70). -/
structure ManifoldLaw (v : Volume) (s : State) : Prop where
  queued : v ∈ s.rma.queue → (s.vol v).state = .running ∧ (s.vol v).phase = .waitRough
  granted : ∀ g ∈ s.rma.grants, g.holder = v → (s.vol v).state = .running ∧ grantPhase g (s.vol v).phase
  once : (s.rma.queue ++ s.rma.grants.map (·.holder)).count v ≤ 1
  valve : (s.vol v).roughOpen = true →
    (∃ g ∈ s.rma.grants, g.holder = v ∧ g.valveOpen = true) ∧ s.gateOpen v = false

/-- What `rfLaw` and `restLaw` say of one chamber that runs (R103, R107, R133). -/
structure GasLaw (c : Chamber) (s : State) : Prop where
  rf : (s.reuOf c).rfOn = true → (s.vol (.ch c)).state = .running
    ∧ ((s.vol (.ch c)).phase = .ignite ∨ (s.vol (.ch c)).phase = .confirm ∨ (s.vol (.ch c)).phase = .etch)
  queued : ∀ e ∈ s.gat.queue, e.chamber = c → (s.vol (.ch c)).state = .running
    ∧ ((s.vol (.ch c)).phase = .waitGas ∨ (s.vol (.ch c)).phase = .etch)
  once : (s.gat.queue.map (·.chamber)).count c ≤ 1

theorem roughLaw_iff (s : State) : roughLaw s ↔ ∀ v, ManifoldLaw v s := by
  constructor
  · rintro ⟨queued, granted, distinct, valve⟩ v
    exact ⟨queued v, fun g hg e => e ▸ granted g hg, List.nodup_iff_count_le_one.1 distinct v, valve v⟩
  · intro h
    exact ⟨fun v => (h v).queued, fun g hg => (h g.holder).granted g hg rfl,
      List.nodup_iff_count_le_one.2 fun v => (h v).once, fun v => (h v).valve⟩

/-- The laws of the shared plant, with those of a volume's own plant said volume by volume. -/
structure PlantLaw (s : State) : Prop where
  load : s.rma.used ≤ 4
  manifold : ∀ v, ManifoldLaw v s
  gas : ∀ c, GasLaw c s
  rest : ∀ c, atRest s (.ch c) = true → s.hasCommitment c = false
  unfitted : ∀ v, s.fitted v = false → (s.vol v).state = .idle
  configuring : s.cfg.serving = false → ∀ v, (s.vol v).state = .idle
  source : ∀ n, 1 ≤ n → n ≤ 10 → s.sourceTotal n ≤ s.sourceCapacity n
  cover : ∀ c k, (s.row c k).target ≤ (s.row c k).commitment
  opening : openingLaw s

theorem plantLaw_iff (s : State) : plantLaw s ↔ PlantLaw s := by
  constructor
  · rintro ⟨load, rough, rf, ⟨queued, once, rest⟩, ⟨unfitted, configuring⟩, ⟨source, cover⟩, opening⟩
    exact ⟨load, (roughLaw_iff s).1 rough,
      fun c => ⟨rf c, fun e he same => same ▸ queued e he, List.nodup_iff_count_le_one.1 once c⟩,
      rest, unfitted, configuring, source, cover, opening⟩
  · intro h
    exact ⟨h.load, (roughLaw_iff s).2 h.manifold, fun c => (h.gas c).rf,
      ⟨fun e he => (h.gas e.chamber).queued e he rfl, List.nodup_iff_count_le_one.2 fun c => (h.gas c).once, h.rest⟩,
      ⟨h.unfitted, h.configuring⟩, ⟨h.source, h.cover⟩, h.opening⟩

/-- A volume that is not IDLE is fitted, in SERVING (R28, R169). -/
theorem PlantLaw.live {s : State} {v : Volume} (h : PlantLaw s) (busy : (s.vol v).state ≠ .idle) :
    s.fitted v = true ∧ s.cfg.serving = true :=
  ⟨Bool.not_eq_false _ ▸ fun e => busy (h.unfitted v e), Bool.not_eq_false _ ▸ fun e => busy (h.configuring e v)⟩

theorem atRest_running {s : State} {v : Volume} (h : (s.vol v).state = .running) : atRest s v = false := by
  simp [atRest, h]

theorem atRest_congr {s t : State} {v : Volume} (h : (t.vol v).state = (s.vol v).state) : atRest t v = atRest s v := by
  simp [atRest, h]

theorem sumChannels_mono {f g : Chamber → Chan → Nat} (h : ∀ c k, f c k ≤ g c k) : sumChannels f ≤ sumChannels g := by
  simp only [sumChannels, sumChan]
  exact List.sum_le_sum fun c _ => List.sum_le_sum fun k _ => h c k

theorem sourceTotal_mono {s t : State} (cfg : t.cfg = s.cfg)
    (h : ∀ c k, (t.row c k).commitment ≤ (s.row c k).commitment) (n : Nat) : t.sourceTotal n ≤ s.sourceTotal n := by
  refine sumChannels_mono fun c k => ?_
  have source : t.source c k = s.source c k := by rw [State.source, State.source, State.items, State.items, cfg]
  by_cases e : s.source c k = n
  · simpa [source, e] using h c k
  · simp [source, e]

theorem hasCommitment_eq_false_iff (s : State) (c : Chamber) :
    s.hasCommitment c = false ↔ ∀ k, (s.row c k).commitment = 0 := by
  rw [← Bool.not_eq_true, hasCommitment_iff]
  simp

/-! ## A change that asks no more of the plant -/

/-- `t` asks no more of the shared plant than `s`: the same volumes in the same phases, waits and grants; no more load,
commitment, RF, open gate, slit or door. -/
structure Eased (s t : State) : Prop where
  state : ∀ v, (t.vol v).state = (s.vol v).state
  phase : ∀ v, (t.vol v).phase = (s.vol v).phase
  valve : ∀ v, (t.vol v).roughOpen = (s.vol v).roughOpen
  gate : ∀ v, t.gateOpen v = true → s.gateOpen v = true
  queue : t.rma.queue = s.rma.queue
  grants : t.rma.grants.map (fun g => (g.holder, g.valveOpen)) = s.rma.grants.map (fun g => (g.holder, g.valveOpen))
  load : t.rma.used ≤ s.rma.used
  gas : t.gat.queue = s.gat.queue
  rf : ∀ c, (t.reuOf c).rfOn = true → (s.reuOf c).rfOn = true
  commitment : ∀ c k, (t.row c k).commitment ≤ (s.row c k).commitment
  cover : ∀ c k, (s.row c k).target ≤ (s.row c k).commitment → (t.row c k).target ≤ (t.row c k).commitment
  cfg : t.cfg = s.cfg
  slit : ∀ w, t.tiu.slits.get w = true → s.tiu.slits.get w = true
  door : ∀ d, t.tiu.doors.get d = true → s.tiu.doors.get d = true

/-- Volumes in the same states, phases and rough valves, and the rest of the plant as it was, whatever becomes of the samples,
the bus, the links and the notices. -/
theorem Eased.of_vols {s t : State} (vol : ∀ v, (t.vol v).state = (s.vol v).state ∧ (t.vol v).phase = (s.vol v).phase
      ∧ (t.vol v).roughOpen = (s.vol v).roughOpen) (gates : t.gates = s.gates) (rma : t.rma = s.rma)
    (gat : t.gat = s.gat) (reu : t.reu = s.reu) (tiu : t.tiu = s.tiu) (cfg : t.cfg = s.cfg) : Eased s t := by
  have row : ∀ c k, t.row c k = s.row c k := fun c k => congrArg (fun g : Gat => g.rows.getK c k) gat
  refine ⟨fun v => (vol v).1, fun v => (vol v).2.1, fun v => (vol v).2.2, fun v => ?_, by rw [rma], by rw [rma],
    by rw [rma], by rw [gat], fun c => ?_, fun c k => by rw [row], fun c k => by rw [row]; exact id, cfg,
    fun w => by rw [tiu]; exact id, fun d => by rw [tiu]; exact id⟩
  · unfold State.gateOpen
    rw [gates]
    exact id
  · unfold State.reuOf
    rw [reu]
    exact id

theorem Eased.of_plant {s t : State} (vols : t.vols = s.vols) (gates : t.gates = s.gates) (rma : t.rma = s.rma)
    (gat : t.gat = s.gat) (reu : t.reu = s.reu) (tiu : t.tiu = s.tiu) (cfg : t.cfg = s.cfg) : Eased s t :=
  .of_vols (fun v => by rw [show t.vol v = s.vol v from congrArg (·.get v) vols]; exact ⟨rfl, rfl, rfl⟩)
    gates rma gat reu tiu cfg

theorem Eased.refl (s : State) : Eased s s := Eased.of_plant rfl rfl rfl rfl rfl rfl rfl

theorem Eased.trans {s t u : State} (h : Eased s t) (k : Eased t u) : Eased s u :=
  ⟨fun v => (k.state v).trans (h.state v), fun v => (k.phase v).trans (h.phase v),
    fun v => (k.valve v).trans (h.valve v), fun v e => h.gate v (k.gate v e), k.queue.trans h.queue,
    k.grants.trans h.grants, k.load.trans h.load, k.gas.trans h.gas, fun c e => h.rf c (k.rf c e),
    fun c j => (k.commitment c j).trans (h.commitment c j), fun c j e => k.cover c j (h.cover c j e),
    k.cfg.trans h.cfg, fun w e => h.slit w (k.slit w e), fun d e => h.door d (k.door d e)⟩

/-- A grant of `t` has one of `s` with its holder and valve field. -/
theorem Eased.grant {s t : State} (h : Eased s t) {g : Grant} (hg : g ∈ t.rma.grants) :
    ∃ g' ∈ s.rma.grants, g'.holder = g.holder ∧ g'.valveOpen = g.valveOpen := by
  have mem : (g.holder, g.valveOpen) ∈ s.rma.grants.map (fun g => (g.holder, g.valveOpen)) :=
    h.grants ▸ List.mem_map_of_mem hg
  obtain ⟨g', hg', e⟩ := List.mem_map.1 mem
  obtain ⟨holder, open'⟩ := Prod.mk.inj e
  exact ⟨g', hg', holder, open'⟩

theorem Eased.holders {s t : State} (h : Eased s t) :
    t.rma.grants.map (·.holder) = s.rma.grants.map (·.holder) := by
  have e := congrArg (List.map Prod.fst) h.grants
  simpa [List.map_map, Function.comp_def] using e

theorem Eased.manifoldLaw {s t : State} {v : Volume} (h : Eased s t) (law : ManifoldLaw v s) : ManifoldLaw v t := by
  refine ⟨fun hq => ?_, fun g hg e => ?_, ?_, fun hv => ?_⟩
  · rw [h.state, h.phase]
    exact law.queued (h.queue ▸ hq)
  · obtain ⟨g', hg', holder, valve⟩ := h.grant hg
    obtain ⟨running, phase⟩ := law.granted g' hg' (holder.trans e)
    rw [h.state, h.phase]
    exact ⟨running, by rwa [grantPhase, ← valve]⟩
  · rw [h.queue, h.holders]
    exact law.once
  · obtain ⟨⟨g, hg, holder, valve⟩, gate⟩ := law.valve (h.valve v ▸ hv)
    have mem : (g.holder, g.valveOpen) ∈ t.rma.grants.map (fun g => (g.holder, g.valveOpen)) :=
      h.grants.symm ▸ List.mem_map_of_mem hg
    obtain ⟨g', hg', e⟩ := List.mem_map.1 mem
    obtain ⟨holder', valve'⟩ := Prod.mk.inj e
    exact ⟨⟨g', hg', holder'.trans holder, valve'.trans valve⟩,
      Bool.eq_false_iff.2 fun e => Bool.eq_false_iff.1 gate (h.gate v e)⟩

theorem Eased.gasLaw {s t : State} {c : Chamber} (h : Eased s t) (law : GasLaw c s) : GasLaw c t := by
  refine ⟨fun e => ?_, fun e he => ?_, h.gas ▸ law.once⟩
  · rw [h.state, h.phase]
    exact law.rf (h.rf c e)
  · rw [h.state, h.phase]
    exact law.queued e (h.gas ▸ he)

theorem Eased.hasCommitment {s t : State} {c : Chamber} (h : Eased s t) (none : s.hasCommitment c = false) :
    t.hasCommitment c = false := by
  rw [hasCommitment_eq_false_iff] at none ⊢
  exact fun k => Nat.le_zero.1 (none k ▸ h.commitment c k)

theorem Eased.openingLaw {s t : State} (h : Eased s t) (law : openingLaw s) : openingLaw t := by
  have rest : ∀ v, atRest t v = atRest s v := fun v => atRest_congr (h.state v)
  refine ⟨fun w e => ?_, fun d e => ?_⟩
  · rw [rest, rest]
    exact law.1 w (h.slit w e)
  · obtain ⟨r, shut⟩ := law.2 d (h.door d e)
    exact ⟨(rest _).trans r, Bool.eq_false_iff.2 fun o => Bool.eq_false_iff.1 shut (h.slit _ o)⟩

theorem Eased.plantLaw {s t : State} (h : Eased s t) (law : PlantLaw s) : PlantLaw t where
  load := h.load.trans law.load
  manifold v := h.manifoldLaw (law.manifold v)
  gas c := h.gasLaw (law.gas c)
  rest c r := h.hasCommitment (law.rest c (atRest_congr (h.state (.ch c)) ▸ r))
  unfitted v f := (h.state v).trans (law.unfitted v (by rw [← f, State.fitted, State.fitted, State.capacity,
    State.capacity, State.items, State.items, h.cfg]))
  configuring c v := (h.state v).trans (law.configuring (h.cfg ▸ c) v)
  source n low high := (sourceTotal_mono h.cfg h.commitment n).trans
    ((law.source n low high).trans_eq (by rw [State.sourceCapacity, State.sourceCapacity, State.items, State.items, h.cfg]))
  cover c k := h.cover c k (law.cover c k)
  opening := h.openingLaw law.opening

/-! ## A change on one volume's plant -/

theorem count_filter_ne {α : Type} [DecidableEq α] {a b : α} (ne : a ≠ b) (l : List α) :
    (l.filter fun x => x != b).count a = l.count a := by
  rw [List.count_filter]
  simpa using ne

theorem mem_filter_ne {α : Type} [DecidableEq α] {a b : α} (ne : a ≠ b) (l : List α) :
    a ∈ l.filter (fun x => x != b) ↔ a ∈ l := by
  simp [ne]

theorem Local.mem_queue {v w : Volume} {s t : State} (h : Local v s t) (ne : w ≠ v) :
    w ∈ t.rma.queue ↔ w ∈ s.rma.queue := by
  rw [← mem_filter_ne ne, h.queue, mem_filter_ne ne]

theorem Local.mem_grants {v : Volume} {s t : State} (h : Local v s t) {g : Grant} (ne : g.holder ≠ v) :
    g ∈ t.rma.grants ↔ g ∈ s.rma.grants := by
  have e := congrArg (g ∈ ·) h.grants
  simpa [List.mem_filter, ne] using e

theorem map_filter_holder (v : Volume) (l : List Grant) :
    (l.map (·.holder)).filter (fun w => w != v) = (l.filter fun g => g.holder != v).map (·.holder) := by
  rw [List.filter_map]
  rfl

theorem Local.count {v w : Volume} {s t : State} (h : Local v s t) (ne : w ≠ v) :
    (t.rma.queue ++ t.rma.grants.map (·.holder)).count w = (s.rma.queue ++ s.rma.grants.map (·.holder)).count w := by
  have queue : t.rma.queue.count w = s.rma.queue.count w := by
    rw [← count_filter_ne ne, h.queue, count_filter_ne ne]
  have holders : (t.rma.grants.map (·.holder)).count w = (s.rma.grants.map (·.holder)).count w := by
    rw [← count_filter_ne ne, map_filter_holder, h.grants, ← map_filter_holder, count_filter_ne ne]
  rw [List.count_append, List.count_append, queue, holders]

theorem Local.manifoldLaw {v w : Volume} {s t : State} (h : Local v s t) (ne : w ≠ v) (law : ManifoldLaw w s) :
    ManifoldLaw w t := by
  have vol := h.vol w ne
  refine ⟨fun hq => ?_, fun g hg e => ?_, ?_, fun hv => ?_⟩
  · rw [vol]
    exact law.queued ((h.mem_queue ne).1 hq)
  · rw [vol]
    exact law.granted g ((h.mem_grants (e ▸ ne)).1 hg) e
  · rw [h.count ne]
    exact law.once
  · obtain ⟨⟨g, hg, holder, valve⟩, gate⟩ := law.valve (vol ▸ hv)
    exact ⟨⟨g, (h.mem_grants (holder ▸ ne)).2 hg, holder, valve⟩, (h.gate w ne).trans gate⟩

theorem Local.mem_gas {v : Volume} {s t : State} (h : Local v s t) {e : GasEntry} (ne : Volume.ch e.chamber ≠ v) :
    e ∈ t.gat.queue ↔ e ∈ s.gat.queue := by
  have same := congrArg (e ∈ ·) h.gas
  simpa [List.mem_filter, ne] using same

theorem count_chamber_filter {c : Chamber} {v : Volume} (ne : Volume.ch c ≠ v) (l : List GasEntry) :
    ((l.filter fun e => Volume.ch e.chamber != v).map (·.chamber)).count c = (l.map (·.chamber)).count c := by
  have same : (l.filter fun e => Volume.ch e.chamber != v).map (·.chamber)
      = (l.map (·.chamber)).filter fun d => Volume.ch d != v := by
    rw [List.filter_map]
    rfl
  rw [same, List.count_filter]
  simpa using ne

theorem Local.gasLaw {v : Volume} {c : Chamber} {s t : State} (h : Local v s t) (ne : Volume.ch c ≠ v)
    (law : GasLaw c s) : GasLaw c t := by
  have vol := h.vol (.ch c) ne
  refine ⟨fun e => ?_, fun e he same => ?_, ?_⟩
  · rw [vol]
    exact law.rf (h.reu c ne.symm ▸ e)
  · rw [vol]
    exact law.queued e ((h.mem_gas (same ▸ ne)).1 he) same
  · rw [← count_chamber_filter ne, h.gas, count_chamber_filter ne]
    exact law.once

theorem Local.cover {v : Volume} {s t : State} (h : Local v s t) (c : Chamber) (k : Chan)
    (law : (s.row c k).target ≤ (s.row c k).commitment) : (t.row c k).target ≤ (t.row c k).commitment := by
  rw [h.commitment c k]
  rcases h.target c k with same | zero
  · exact same ▸ law
  · exact zero ▸ Nat.zero_le _

/-- What a step of one volume `v` must show for the laws to stand after it: those of `v`, its load, a drained chamber where
it comes to rest, and shut openings where it leaves rest (R41, R148, R151). -/
structure Turn (v : Volume) (s t : State) : Prop where
  alone : Local v s t
  frame : EventFrame s t
  load : t.rma.used ≤ 4
  manifold : ManifoldLaw v t
  gas : ∀ c, v = .ch c → GasLaw c t
  rest : ∀ c, v = .ch c → atRest t v = true → s.hasCommitment c = false
  live : (t.vol v).state ≠ .idle → s.fitted v = true ∧ s.cfg.serving = true
  shut : atRest s v = true → atRest t v = true ∨ interlockPasses s v = true

theorem Local.atRest {v w : Volume} {s t : State} (h : Local v s t) (ne : w ≠ v) : atRest t w = atRest s w :=
  atRest_congr (by rw [h.vol w ne])

theorem EventFrame.tiu {s t : State} (h : EventFrame s t) : t.tiu = s.tiu := by
  obtain ⟨-, -, tiu, -⟩ := h
  exact tiu

theorem EventFrame.cfg {s t : State} (h : EventFrame s t) : t.cfg = s.cfg := by
  obtain ⟨cfg, -⟩ := h
  exact cfg

/-- An open slit keeps its volume from passing the interlock test, and any open slit keeps TC (R41). -/
theorem slit_shut {s : State} {v : Volume} {w : Slit} (h : interlockPasses s v = true)
    (touches : v = w.volume ∨ v = .tc) : s.tiu.slits.get w = false := by
  rcases touches with rfl | rfl
  · cases w <;> simp_all [interlockPasses, Slit.volume]
  · have all : (Slit.all.all fun w => !s.tiu.slits.get w) = true := h
    have shut := List.all_eq_true.1 all w (by cases w with | ch c => cases c <;> decide | ll d => cases d <;> decide)
    simpa using shut

theorem door_shut {s : State} {d : Loadlock} (h : interlockPasses s (.ll d) = true) : s.tiu.doors.get d = false := by
  simp only [interlockPasses, Bool.and_eq_true, Bool.not_eq_true'] at h
  exact h.1.2

theorem Turn.openingLaw {v : Volume} {s t : State} (h : Turn v s t) (law : openingLaw s) : openingLaw t := by
  have stays : ∀ u, Machine.atRest s u = true → (u = v → interlockPasses s v = false) → Machine.atRest t u = true := by
    intro u rest blocked
    by_cases e : u = v
    · subst e
      rcases h.shut rest with r | passes
      · exact r
      · rw [blocked rfl] at passes
        cases passes
    · rw [h.alone.atRest e]
      exact rest
  refine ⟨fun w o => ?_, fun d o => ?_⟩
  · rw [h.frame.tiu] at o
    obtain ⟨own, tc⟩ := law.1 w o
    have blocked : v = w.volume ∨ v = .tc → interlockPasses s v = false := fun touches =>
      Bool.eq_false_iff.2 fun passes => by
        rw [slit_shut passes touches] at o
        cases o
    exact ⟨stays _ own fun e => blocked (.inl e.symm), stays _ tc fun e => blocked (.inr e.symm)⟩
  · rw [h.frame.tiu] at o ⊢
    obtain ⟨own, shut⟩ := law.2 d o
    refine ⟨stays _ own fun e => Bool.eq_false_iff.2 fun passes => ?_, shut⟩
    subst e
    rw [door_shut passes] at o
    cases o

theorem Turn.plantLaw {v : Volume} {s t : State} (h : Turn v s t) (law : PlantLaw s) : PlantLaw t where
  load := h.load
  manifold w := if e : w = v then e ▸ h.manifold else h.alone.manifoldLaw e (law.manifold w)
  gas c := if e : v = .ch c then h.gas c e else h.alone.gasLaw (Ne.symm e) (law.gas c)
  rest c r := by
    have none : s.hasCommitment c = false := by
      by_cases e : v = .ch c
      · exact h.rest c e (e ▸ r)
      · exact law.rest c (h.alone.atRest (Ne.symm e) ▸ r)
    rw [hasCommitment_eq_false_iff] at none ⊢
    exact fun k => (h.alone.commitment c k).trans (none k)
  unfitted w f := by
    rw [h.frame.fitted] at f
    by_cases e : w = v
    · subst e
      by_contra busy
      rw [(h.live busy).1] at f
      cases f
    · rw [h.alone.vol w e]
      exact law.unfitted w f
  configuring c w := by
    rw [h.frame.cfg] at c
    by_cases e : w = v
    · subst e
      by_contra busy
      rw [(h.live busy).2] at c
      cases c
    · rw [h.alone.vol w e]
      exact law.configuring c w
  source n low high := (sourceTotal_mono h.frame.cfg (fun c k => (h.alone.commitment c k).le) n).trans
    ((law.source n low high).trans_eq (by rw [State.sourceCapacity, State.sourceCapacity, h.frame.items]))
  cover c k := h.alone.cover c k (law.cover c k)
  opening := h.openingLaw law.opening

end Sys2Proof.Machine
end

section
/-! What a step start or a wind-down leaves of a volume's part of the shared plant (R45, R55, R69, R103, R133). -/

namespace Sys2Proof.Machine

open Sys2Proof

/-- A volume that holds nothing of the shared plant: no place in a queue, no grant, its rough valve closed. -/
structure Cleared (v : Volume) (s : State) : Prop where
  queue : v ∉ s.rma.queue
  grants : ∀ g ∈ s.rma.grants, g.holder ≠ v
  valve : (s.vol v).roughOpen = false
  gas : ∀ e ∈ s.gat.queue, Volume.ch e.chamber ≠ v

/-- A running volume whose step has asked for nothing yet. -/
structure Ready (v : Volume) (s : State) : Prop where
  cleared : Cleared v s
  running : (s.vol v).state = .running
  rf : ∀ c, v = .ch c → (s.reuOf c).rfOn = false

/-- A volume as a start or a wind-down leaves it: at work, without a grant, and within the laws of its own plant. -/
structure Stands (v : Volume) (s : State) : Prop where
  manifold : ManifoldLaw v s
  gas : ∀ c, v = .ch c → GasLaw c s
  grants : ∀ g ∈ s.rma.grants, g.holder ≠ v
  away : atRest s v = false

theorem Cleared.congr {v : Volume} {s t : State} (h : Cleared v s) (rma : t.rma = s.rma)
    (gas : t.gat.queue = s.gat.queue) (valve : (t.vol v).roughOpen = (s.vol v).roughOpen) : Cleared v t :=
  ⟨rma ▸ h.queue, rma ▸ h.grants, valve.trans h.valve, gas ▸ h.gas⟩

theorem Ready.congr {v : Volume} {s t : State} (h : Ready v s) (rma : t.rma = s.rma) (gas : t.gat.queue = s.gat.queue)
    (valve : (t.vol v).roughOpen = (s.vol v).roughOpen) (state : (t.vol v).state = (s.vol v).state)
    (reu : t.reu = s.reu) : Ready v t :=
  ⟨h.cleared.congr rma gas valve, state.trans h.running, fun c e => by
    unfold State.reuOf
    rw [reu]
    exact h.rf c e⟩

theorem Ready.modVol {v : Volume} {s : State} (h : Ready v s) (f : Vol → Vol)
    (valve : (f (s.vol v)).roughOpen = (s.vol v).roughOpen) (state : (f (s.vol v)).state = (s.vol v).state) :
    Ready v (s.modVol v f) :=
  h.congr rfl rfl (by rwa [State.vol_modVol_self]) (by rwa [State.vol_modVol_self]) rfl

theorem Ready.setGate {v : Volume} {s : State} (h : Ready v s) (x : Bool) : Ready v (s.setGate v x) := by
  obtain ⟨g, e⟩ := s.setGate_eq v x
  rw [e]
  exact h.congr rfl rfl rfl rfl rfl

theorem count_eq_zero_of_cleared {v : Volume} {s : State} (queue : v ∉ s.rma.queue)
    (grants : ∀ g ∈ s.rma.grants, g.holder ≠ v) : (s.rma.queue ++ s.rma.grants.map (·.holder)).count v = 0 := by
  refine List.count_eq_zero.2 fun mem => ?_
  rcases List.mem_append.1 mem with hq | hg
  · exact queue hq
  · obtain ⟨g, hg, e⟩ := List.mem_map.1 hg
    exact grants g hg e

theorem Cleared.manifoldLaw {v : Volume} {s : State} (h : Cleared v s) : ManifoldLaw v s :=
  ⟨fun e => absurd e h.queue, fun g hg e => absurd e (h.grants g hg),
    (count_eq_zero_of_cleared h.queue h.grants).le.trans (Nat.zero_le 1), fun e => by rw [h.valve] at e; cases e⟩

theorem Cleared.count_gas {c : Chamber} {s : State} (h : Cleared (.ch c) s) :
    (s.gat.queue.map (·.chamber)).count c = 0 := by
  refine List.count_eq_zero.2 fun mem => ?_
  obtain ⟨e, he, same⟩ := List.mem_map.1 mem
  exact h.gas e he (same ▸ rfl)

/-- A chamber whose RF is on in a phase that has it on. -/
def Lit (c : Chamber) (s : State) : Prop :=
  (s.vol (.ch c)).phase = .ignite ∨ (s.vol (.ch c)).phase = .confirm ∨ (s.vol (.ch c)).phase = .etch

theorem Cleared.gasLaw {c : Chamber} {s : State} (h : Cleared (.ch c) s)
    (rf : (s.reuOf c).rfOn = true → (s.vol (.ch c)).state = .running ∧ Lit c s) : GasLaw c s :=
  ⟨rf, fun e he same => absurd (same ▸ rfl) (h.gas e he), h.count_gas.le.trans (Nat.zero_le 1)⟩

theorem Cleared.stands {v : Volume} {s : State} (h : Cleared v s) (away : atRest s v = false)
    (rf : ∀ c, v = .ch c → (s.reuOf c).rfOn = true → (s.vol (.ch c)).state = .running ∧ Lit c s) : Stands v s :=
  ⟨h.manifoldLaw, fun c e => by subst e; exact h.gasLaw (rf c rfl), h.grants, away⟩

theorem Ready.stands {v : Volume} {s : State} (h : Ready v s) : Stands v s :=
  h.cleared.stands (atRest_running h.running) fun c e on => by rw [h.rf c e] at on; cases on

/-! ## Wind-down (R54, R55) -/

theorem windDown_cleared (v : Volume) (h : Option HoldRecord) (s : State) : Cleared v (windDown v h s) := by
  have rma := windDown_rma v h s
  refine ⟨?_, ?_, ?_, ?_⟩
  · rw [rma]
    simp
  · rw [rma]
    intro g hg
    simpa using (List.mem_filter.1 hg).2
  · rw [(windDown_vol v h s).2]
  · intro e he same
    subst same
    obtain ⟨-, -, gas, -⟩ := windDown_chamberOff e.chamber h s
    rw [gas] at he
    simp at he

theorem windDown_stands (v : Volume) (h : Option HoldRecord) (s : State) : Stands v (windDown v h s) := by
  refine (windDown_cleared v h s).stands ?_ fun c e on => ?_
  · rw [atRest, (windDown_vol v h s).2]
    cases h <;> rfl
  · subst e
    obtain ⟨reu, -⟩ := windDown_chamberOff c h s
    rw [reu] at on
    cases on

theorem failStep_stands {v : Volume} {s : State} (f : FailKind) (h : Stands v s) : Stands v (failStep v f s) := by
  rcases failStep_cases v f s with e | ⟨r, -, -, ⟨-, e⟩ | ⟨-, e⟩⟩ <;> rw [e]
  · exact h
  · exact windDown_stands v _ _
  · exact windDown_stands v _ _

/-! ## Requests to the manifold and to GAT (R67, R103) -/

theorem joinRough_stands {v : Volume} {s : State} (h : Ready v s) : Stands v (joinRough v s) := by
  have vol := joinRough_vol_self v s
  have state : ((joinRough v s).vol v).state = .running := by rw [vol]; exact h.running
  refine ⟨⟨fun _ => ⟨state, by rw [vol]⟩, fun g hg e => absurd e (h.cleared.grants g hg), ?_, fun e => ?_⟩, fun c e => ?_,
    h.cleared.grants, atRest_running state⟩
  · have none := count_eq_zero_of_cleared h.cleared.queue h.cleared.grants
    rw [List.count_append] at none
    rw [joinRough_rma]
    simp only [List.count_append, List.count_singleton_self]
    have grants : (joinRough v s).rma.grants = s.rma.grants := rfl
    rw [joinRough_rma] at grants
    simp only at grants
    omega
  · rw [vol] at e
    exact absurd (h.cleared.valve.symm.trans e) Bool.false_ne_true
  · subst e
    refine ⟨fun on => ?_, fun e he same => absurd (same ▸ rfl) (h.cleared.gas e he),
      h.cleared.count_gas.le.trans (Nat.zero_le 1)⟩
    exact absurd ((h.rf c rfl).symm.trans on) Bool.false_ne_true

theorem joinGas_stands {c : Chamber} {s : State} (flows : List FlowEntry) (h : Cleared (.ch c) s)
    (running : (s.vol (.ch c)).state = .running)
    (phase : (s.vol (.ch c)).phase = .waitGas ∧ (s.reuOf c).rfOn = false ∨ (s.vol (.ch c)).phase = .etch) :
    Stands (.ch c) (joinGas c flows s) := by
  have vol := joinGas_vol_self c flows s
  have state : ((joinGas c flows s).vol (.ch c)).state = .running := by rw [vol]; exact running
  have cleared : ManifoldLaw (.ch c) (joinGas c flows s) := by
    refine ⟨fun e => absurd e h.queue, fun g hg e => absurd e (h.grants g hg),
      (count_eq_zero_of_cleared h.queue h.grants).le.trans (Nat.zero_le 1), fun e => ?_⟩
    rw [vol] at e
    exact absurd (h.valve.symm.trans e) Bool.false_ne_true
  refine ⟨cleared, fun d e => ?_, h.grants, atRest_running state⟩
  obtain rfl : c = d := by injection e
  refine ⟨fun on => ⟨state, ?_⟩, fun e _ _ => ⟨state, ?_⟩, ?_⟩
  · rw [vol]
    rcases phase with ⟨-, off⟩ | etch
    · exact absurd (off.symm.trans on) Bool.false_ne_true
    · exact .inr (.inr etch)
  · rw [vol]
    exact phase.imp_left And.left
  · have queue : (joinGas c flows s).gat.queue.map (·.chamber) = s.gat.queue.map (·.chamber) ++ [c] := by
      simp [joinGas, State.modVol, State.setVol]
    rw [queue, List.count_append, h.count_gas]
    simp

theorem requestGas_stands {c : Chamber} {s : State} (flows : List FlowEntry) (h : Cleared (.ch c) s)
    (running : (s.vol (.ch c)).state = .running)
    (phase : (s.vol (.ch c)).phase = .waitGas ∧ (s.reuOf c).rfOn = false ∨ (s.vol (.ch c)).phase = .etch) :
    Stands (.ch c) (requestGas c flows s) := by
  unfold requestGas
  split
  · refine failStep_stands _ (h.stands (atRest_running running) fun d e on => ?_)
    obtain rfl : c = d := by injection e
    rcases phase with ⟨-, off⟩ | etch
    · exact absurd (off.symm.trans on) Bool.false_ne_true
    · exact ⟨running, .inr (.inr etch)⟩
  · exact joinGas_stands flows h running phase

/-! ## Starts of every kind (R81, R89, R91, R135, R141) -/

/-- What a start comes to: a volume that stands, or one that has completed and asked for nothing. -/
def Started.Sound (v : Volume) : Started → Prop
  | .stands s => Stands v s
  | .completes s => Ready v s

theorem startPump_sound {v : Volume} {s : State} (r : StepRecord) (h : Ready v s) : (startPump v r s).Sound v := by
  unfold startPump
  dsimp only
  have shut : Ready v (setVent v false s) := h.modVol _ rfl rfl
  split
  · exact failStep_stands _ h.stands
  split
  · exact h
  split
  · exact ((shut.modVol _ rfl rfl).setGate true).stands
  have closed := shut.setGate false
  split
  · split
    · exact (closed.modVol _ rfl rfl).stands
    · exact closed
  · exact joinRough_stands closed

theorem enterFill_stands {v : Volume} {s : State} (r : StepRecord) (h : Ready v s) : Stands v (enterFill v r s) := by
  have vented : Stands v ((setVent v true s).modVol v fun x => { x with phase := .fill }) :=
    ((h.modVol (fun y => { y with ventOpen := true }) rfl rfl).modVol _ rfl rfl).stands
  cases v with
  | ch c =>
    have waits := h.modVol (fun x => { x with phase := .waitGas }) rfl rfl
    exact requestGas_stands r.flows waits.cleared waits.running (.inl ⟨by rw [State.vol_modVol_self], waits.rf c rfl⟩)
  | tc => exact vented
  | ll l => exact vented

theorem purgeFrom_sound {v : Volume} (r : StepRecord) (n : Nat) {s : State} (h : Ready v s) :
    (purgeFrom v r n s).Sound v := by
  induction n generalizing s with
  | zero => exact h
  | succ n ih =>
    have retried := h.modVol (fun x => { x with retriesLeft := (s.items.pumpBackRetries.get v).toNat }) rfl rfl
    unfold purgeFrom
    dsimp only
    split
    · have cycled := retried.modVol (fun x => { x with cyclesLeft := x.cyclesLeft - 1 }) rfl rfl
      have again := cycled.modVol (fun x => { x with limitCount := 0 }) rfl rfl
      split
      · exact cycled
      split
      · exact ih again
      · exact enterFill_stands r again
    · exact joinRough_stands retried

theorem beginCycle_sound {v : Volume} {s : State} (r : StepRecord) (h : Ready v s) : (beginCycle v r s).Sound v := by
  have begun := h.modVol (fun x => { x with limitCount := 0 }) rfl rfl
  unfold beginCycle
  dsimp only
  split
  · exact purgeFrom_sound r _ begun
  · exact enterFill_stands r begun

theorem enterEtch_cleared {c : Chamber} {s : State} (r : StepRecord) (h : Cleared (.ch c) s) :
    Cleared (.ch c) (enterEtch c r s) := by
  have valve : ((enterEtch c r s).vol (.ch c)).roughOpen = (s.vol (.ch c)).roughOpen := by
    rw [(enterEtch_spec c r s).1]
  refine h.congr ?_ ?_ valve
  all_goals
    unfold enterEtch
    dsimp only
    split <;> rfl

theorem startGasKind_stands_waiting {c : Chamber} {s : State} (r : StepRecord) (h : Ready (.ch c) s) :
    Stands (.ch c) (startGasKind c r false s) := by
  obtain ⟨w, waits, -⟩ := startGasKind_windows c r s
  rw [waits]
  have waiting := h.modVol (fun x => { x with window := w, phase := .waitGas }) rfl rfl
  exact requestGas_stands r.flows waiting.cleared waiting.running (.inl ⟨by rw [State.vol_modVol_self], waiting.rf c rfl⟩)

theorem startGasKind_stands_carried {c : Chamber} {s : State} (r : StepRecord) (h : Cleared (.ch c) s)
    (running : (s.vol (.ch c)).state = .running) : Stands (.ch c) (startGasKind c r true s) := by
  obtain ⟨w, -, carries, -⟩ := startGasKind_windows c r s
  rw [carries]
  have vol := (enterEtch_spec c r (s.modVol (.ch c) fun x => { x with window := w })).1
  rw [State.vol_modVol_self] at vol
  refine requestGas_stands r.flows (enterEtch_cleared r (h.congr rfl rfl (by rw [State.vol_modVol_self]))) ?_
    (.inr (by rw [vol]))
  rw [vol]
  exact running

theorem enterKind_sound {v : Volume} {s : State} (r : StepRecord) (h : Ready v s) : (enterKind v r false s).Sound v := by
  have gas : (match v with | .ch c => Started.stands (startGasKind c r false s) | _ => .stands s).Sound v := by
    cases v with
    | ch c => exact startGasKind_stands_waiting r h
    | tc => exact h.stands
    | ll l => exact h.stands
  unfold enterKind
  split
  · exact startPump_sound r h
  · exact (((h.setGate false).modVol (fun y => { y with ventOpen := true }) rfl rfl).modVol _ rfl rfl).stands
  · exact beginCycle_sound r (h.setGate false)
  · exact (h.modVol _ rfl rfl).stands
  · exact gas
  · exact gas
  · exact gas

theorem begun_cleared {v : Volume} {s : State} (r : StepRecord) (rest : List StepRecord) (b : Bool) (h : Cleared v s) :
    Cleared v (begun v r rest b s) := by
  have valve : ((begun v r rest b s).vol v).roughOpen = (s.vol v).roughOpen := by
    rw [begun_vol_self]
    rfl
  cases v with
  | ch c =>
    obtain ⟨rows, fru, dbc, e⟩ := startChamberPlant_frame c r b
      (s.modVol (.ch c) fun x => x.begin r rest (s.items.stepLimit.get (.ch c)).toNat)
    have plant : begun (.ch c) r rest b s = _ := e
    refine h.congr ?_ ?_ valve
    · rw [plant]
      rfl
    · rw [plant]
      rfl
  | tc => exact h.congr rfl rfl valve
  | ll l => exact h.congr rfl rfl valve

theorem begun_running (v : Volume) (r : StepRecord) (rest : List StepRecord) (b : Bool) (s : State) :
    ((begun v r rest b s).vol v).state = .running := by
  rw [begun_vol_self]
  rfl

theorem startStep_sound {v : Volume} {s : State} (r : StepRecord) (rest : List StepRecord) (carry : Bool)
    (h : Cleared v s) : (startStep v r rest carry s).Sound v := by
  rw [startStep_eq]
  cases b : carry && r.kind == .etch with
  | false =>
    refine enterKind_sound r ⟨begun_cleared r rest false h, begun_running v r rest false s, fun c e => ?_⟩
    subst e
    rw [begun_reuOf]
    rfl
  | true =>
    have etch : r.kind = .etch := by simpa using (Bool.and_eq_true_iff.1 b).2
    have cleared := begun_cleared r rest true h
    have running := begun_running v r rest true s
    unfold enterKind
    rw [etch]
    cases v with
    | ch c => exact startGasKind_stands_carried r cleared running
    | tc => exact cleared.stands (atRest_running running) (fun c e => nomatch e)
    | ll l => exact cleared.stands (atRest_running running) (fun c e => nomatch e)

theorem recordEnd_plant (v : Volume) (o : StepOutcome) (f : Option FailKind) (n : Option Note) (s : State) :
    (recordEnd v o f n s).rma = s.rma ∧ (recordEnd v o f n s).gat = s.gat
      ∧ ((recordEnd v o f n s).vol v).roughOpen = (s.vol v).roughOpen := by
  refine ⟨?_, ?_, ?_⟩
  · unfold recordEnd
    split <;> rfl
  · unfold recordEnd
    split <;> rfl
  · rw [recordEnd_lastEndOnly]

theorem Cleared.recordEnd {v : Volume} {s : State} (h : Cleared v s) (o : StepOutcome) (f : Option FailKind)
    (n : Option Note) : Cleared v (recordEnd v o f n s) := by
  obtain ⟨rma, gat, valve⟩ := recordEnd_plant v o f n s
  exact h.congr rma (congrArg Gat.queue gat) valve

/-- Starts from a cleared volume leave it standing, however many steps complete at their starts (R45, R49). -/
theorem startSteps_stand {v : Volume} (l : List StepRecord) (carry : Bool) {s : State} (h : Cleared v s) :
    Stands v (startSteps v l carry s) := by
  induction l generalizing s carry with
  | nil =>
    rw [startSteps]
    unfold underflow enterSafing
    exact windDown_stands v _ _
  | cons r rest ih =>
    have sound := startStep_sound r rest carry h
    unfold startSteps
    cases start : startStep v r rest carry s with
    | stands t =>
      rw [start] at sound
      exact sound
    | completes t =>
      rw [start] at sound
      dsimp only
      split
      · exact windDown_stands v _ _
      · exact ih false (sound.cleared.recordEnd _ _ _)

/-! ## Completions (R49) -/

/-- A volume with nothing on the rough manifold. -/
structure OffManifold (v : Volume) (s : State) : Prop where
  queue : v ∉ s.rma.queue
  grants : ∀ g ∈ s.rma.grants, g.holder ≠ v
  valve : (s.vol v).roughOpen = false

theorem OffManifold.congr {v : Volume} {s t : State} (h : OffManifold v s) (rma : t.rma = s.rma)
    (valve : (t.vol v).roughOpen = (s.vol v).roughOpen) : OffManifold v t :=
  ⟨rma ▸ h.queue, rma ▸ h.grants, valve.trans h.valve⟩

theorem Cleared.offManifold {v : Volume} {s : State} (h : Cleared v s) : OffManifold v s := ⟨h.queue, h.grants, h.valve⟩

theorem leaveStep_cleared {v : Volume} {s : State} (h : OffManifold v s) : Cleared v (leaveStep v s) := by
  cases v with
  | ch c =>
    refine ⟨h.queue, h.grants, h.valve, fun e he same => ?_⟩
    have kept := (List.mem_filter.1 he).2
    simp only [bne_iff_ne] at kept
    exact kept (by injection same)
  | tc => exact ⟨h.queue, h.grants, h.valve, fun e _ => nofun⟩
  | ll l => exact ⟨h.queue, h.grants, h.valve, fun e _ => nofun⟩

theorem completed_cleared {v : Volume} {s : State} (n : Option Note) (h : OffManifold v s) :
    Cleared v (completed v n s) := (leaveStep_cleared h).recordEnd _ _ _

theorem completeStep_stands {v : Volume} {s : State} {r : StepRecord} (n : Option Note) (h : OffManifold v s)
    (running : (s.vol v).state = .running) (current : (s.vol v).current = some r) : Stands v (completeStep v n s) := by
  rw [completeStep_running n running current]
  split
  · exact windDown_stands v _ _
  · exact startSteps_stand _ _ (completed_cleared n h)

theorem Started.settle_stands {v : Volume} {x : Started} {r : StepRecord} (h : x.Sound v)
    (current : (x.state.vol v).current = some r) : Stands v (x.settle v) := by
  cases x with
  | stands s => exact h
  | completes s => exact completeStep_stands none h.cleared.offManifold h.running current

end Sys2Proof.Machine
end

section
/-! What eases the plant, and every move that falls due within an event keeps the laws of the plant (R56, R64, R69, R100, R133,
R148). -/

namespace Sys2Proof.Machine

open Sys2Proof

/-! ## Operations that ask no more of the plant -/

theorem modVol_eased (v : Volume) (f : Vol → Vol) (s : State) (state : (f (s.vol v)).state = (s.vol v).state)
    (phase : (f (s.vol v)).phase = (s.vol v).phase) (valve : (f (s.vol v)).roughOpen = (s.vol v).roughOpen) :
    Eased s (s.modVol v f) := by
  refine .of_vols (fun w => ?_) rfl rfl rfl rfl rfl rfl
  by_cases e : w = v
  · subst e
    rw [State.vol_modVol_self]
    exact ⟨state, phase, valve⟩
  · rw [State.vol_modVol_ne s v w f e]
    exact ⟨rfl, rfl, rfl⟩

theorem post_eased (a : List Link) (n : Notice) (s : State) : Eased s (post a n s) := .of_plant rfl rfl rfl rfl rfl rfl rfl

theorem setFlags_eased (vs : List Volume) (f : Flag) (s : State) : Eased s (setFlags vs f s) := by
  have vol := setFlags_flagsOnly vs f s
  obtain ⟨vols, outbox, h⟩ := setFlags_eq vs f s
  refine .of_vols (fun v => by rw [vol]; exact ⟨rfl, rfl, rfl⟩) ?_ ?_ ?_ ?_ ?_ ?_ <;> rw [h]

theorem setFlag_eased (v : Volume) (f : Flag) (s : State) : Eased s (setFlag v f s) := setFlags_eased [v] f s

theorem setFlag?_eased (v : Volume) (f : Option Flag) (s : State) : Eased s (setFlag? v f s) := by
  cases f with
  | none => exact Eased.refl s
  | some f => exact setFlag_eased v f s

theorem countOn_eased (v : Volume) (f : Counters → Counters) (s : State) : Eased s (countOn v f s) := by
  unfold countOn
  split
  · exact modVol_eased v _ s rfl rfl rfl
  · exact Eased.refl s

theorem recordEnd_eased (v : Volume) (o : StepOutcome) (f : Option FailKind) (n : Option Note) (s : State) :
    Eased s (recordEnd v o f n s) := by
  unfold recordEnd
  split
  · exact (modVol_eased v _ s rfl rfl rfl).trans (post_eased _ _ _)
  · exact Eased.refl s

theorem setVent_eased (v : Volume) (x : Bool) (s : State) : Eased s (setVent v x s) := modVol_eased v _ s rfl rfl rfl

theorem discard_eased (v : Volume) (s : State) : Eased s (discard v s) := modVol_eased v _ s rfl rfl rfl

theorem closeGate_eased (v : Volume) (s : State) : Eased s (s.setGate v false) := by
  have shut := s.gateOpen_setGate_false v
  have others : ∀ w, w ≠ v → (s.setGate v false).gateOpen w = s.gateOpen w := fun w ne => setGate_gateOpen_ne false s ne
  have gate : ∀ w, (s.setGate v false).gateOpen w = true → s.gateOpen w = true := by
    intro w
    by_cases e : w = v
    · subst e
      rw [shut]
      exact nofun
    · rw [others w e]
      exact id
  obtain ⟨g, h⟩ := s.setGate_eq v false
  rw [h] at gate ⊢
  exact { Eased.refl s with gate := gate }

theorem modReu_eased (c : Chamber) (f : Reu → Reu) (s : State)
    (rf : (f (s.reuOf c)).rfOn = true → (s.reuOf c).rfOn = true) : Eased s (s.modReu c f) := by
  refine { Eased.refl s with rf := fun d => ?_ }
  by_cases e : d = c
  · subst e
    rw [State.reuOf_modReu_self]
    exact rf
  · rw [State.reuOf_modReu_ne s c d f e]
    exact id

theorem postWrite_eased (d : Device) (x : BusValue) (k : WriteClass) (s : State) : Eased s (postWrite d x k s) := by
  obtain ⟨b, h⟩ := postWrite_dbc d x k s
  rw [h]
  exact .of_plant rfl rfl rfl rfl rfl rfl rfl

theorem zeroChannel_eased (c : Chamber) (cls : WriteClass) (k : Chan) (s : State) : Eased s (zeroChannel c cls s k) := by
  have alone := zeroChannel_local c cls k s
  have commitment : ∀ d j, ((zeroChannel c cls s k).row d j).commitment ≤ (s.row d j).commitment :=
    fun d j => (alone.commitment d j).le
  have cover := alone.cover
  obtain ⟨rows, fru, dbc, h⟩ := foldl_zeroChannel_eq c cls [k] s
  have frame : zeroChannel c cls s k = { s with gat := { s.gat with rows := rows }, fru := fru, dbc := dbc } := h
  rw [frame] at commitment cover ⊢
  exact { Eased.refl s with commitment := commitment, cover := cover }

theorem foldl_eased {α : Type} (f : State → α → State) (h : ∀ s a, Eased s (f s a)) (l : List α) (s : State) :
    Eased s (l.foldl f s) :=
  List.foldlRecOn (motive := Eased s) l f (Eased.refl s) fun t ht a _ => ht.trans (h t a)

theorem headerTest_eased (s : State) : Eased s (headerTest s) := by
  obtain ⟨hlm, outbox, h⟩ := headerTest_frame s
  rw [h]
  exact .of_plant rfl rfl rfl rfl rfl rfl rfl

theorem mapGrant_eased (v : Volume) (f : Grant → Grant) (s : State) (holder : ∀ g, (f g).holder = g.holder)
    (valve : ∀ g, (f g).valveOpen = g.valveOpen) (load : ∀ g, (f g).load.units ≤ g.load.units) :
    Eased s (mapGrant v f s) := by
  have grants : (mapGrant v f s).rma.grants.map (fun g => (g.holder, g.valveOpen))
      = s.rma.grants.map fun g => (g.holder, g.valveOpen) := by
    simp only [mapGrant, List.map_map]
    refine List.map_congr_left fun g _ => ?_
    simp only [Function.comp_apply]
    split
    · rw [holder, valve]
    · rfl
  have used : (mapGrant v f s).rma.used ≤ s.rma.used := by
    simp only [Rma.used, mapGrant, List.map_map]
    refine List.sum_le_sum fun g _ => ?_
    simp only [Function.comp_apply]
    split
    · exact load g
    · exact le_rfl
  exact { Eased.refl s with grants := grants, load := used }

theorem dropLoad_eased (v : Volume) (s : State) : Eased s (dropLoad v s) := by
  unfold dropLoad
  split
  · split
    · refine mapGrant_eased v _ s (fun _ => rfl) (fun _ => rfl) fun g => ?_
      rcases g with ⟨w, l, o⟩
      cases l <;> simp [Load.units]
    · exact Eased.refl s
  · exact Eased.refl s

theorem Eased.cleared {v : Volume} {s t : State} (h : Eased s t) (k : Cleared v s) : Cleared v t := by
  refine ⟨h.queue ▸ k.queue, fun g hg => ?_, (h.valve v).trans k.valve, h.gas ▸ k.gas⟩
  obtain ⟨g', hg', holder, -⟩ := h.grant hg
  exact holder ▸ k.grants g' hg'

theorem Eased.ready {v : Volume} {s t : State} (h : Eased s t) (k : Ready v s) : Ready v t :=
  ⟨h.cleared k.cleared, (h.state v).trans k.running, fun c e =>
    Bool.eq_false_iff.2 fun on => Bool.eq_false_iff.1 (k.rf c e) (h.rf c on)⟩

/-! ## What the laws say of a volume in its phase -/

theorem PlantLaw.offManifold {s : State} {v : Volume} (law : PlantLaw s)
    (phase : (s.vol v).state = .running → (s.vol v).phase.onManifold = false) : OffManifold v s := by
  have grants : ∀ g ∈ s.rma.grants, g.holder ≠ v := fun g hg e => by
    obtain ⟨running, stage⟩ := (law.manifold v).granted g hg e
    have off := phase running
    unfold grantPhase at stage
    split at stage
    · rcases stage with p | p <;> rw [p] at off <;> cases off
    · rw [stage] at off
      cases off
  refine ⟨fun hq => ?_, grants, Bool.eq_false_iff.2 fun o => ?_⟩
  · obtain ⟨running, waits⟩ := (law.manifold v).queued hq
    have off := phase running
    rw [waits] at off
    cases off
  · obtain ⟨⟨g, hg, holder, -⟩, -⟩ := (law.manifold v).valve o
    exact grants g hg holder

/-- The phases in which a chamber has neither an entry in the gas admission queue nor RF on (R103, R133). -/
def Phase.gasFree : Phase → Bool
  | .waitGas | .ignite | .confirm | .etch => false
  | _ => true

/-- The phases in which a chamber has no entry in the gas admission queue (R103). -/
def Phase.unqueued : Phase → Bool
  | .waitGas | .etch => false
  | _ => true

theorem Phase.unqueued_of_gasFree {p : Phase} (h : p.gasFree = true) : p.unqueued = true := by
  revert h
  cases p <;> decide

theorem PlantLaw.noGas {s : State} {v : Volume} (law : PlantLaw s)
    (phase : (s.vol v).state = .running → (s.vol v).phase.unqueued = true) :
    ∀ e ∈ s.gat.queue, Volume.ch e.chamber ≠ v := by
  rintro e he rfl
  obtain ⟨running, waits⟩ := (law.gas e.chamber).queued e he rfl
  have off := phase running
  rcases waits with p | p <;> rw [p] at off <;> cases off

theorem PlantLaw.rfOff {s : State} {v : Volume} (law : PlantLaw s)
    (phase : (s.vol v).state = .running → (s.vol v).phase.gasFree = true) (c : Chamber) (e : v = .ch c) :
    (s.reuOf c).rfOn = false := by
  subst e
  refine Bool.eq_false_iff.2 fun on => ?_
  obtain ⟨running, lit⟩ := (law.gas c).rf on
  have off := phase running
  rcases lit with p | p | p <;> rw [p] at off <;> cases off

theorem PlantLaw.cleared {s : State} {v : Volume} (law : PlantLaw s)
    (manifold : (s.vol v).state = .running → (s.vol v).phase.onManifold = false)
    (gas : (s.vol v).state = .running → (s.vol v).phase.unqueued = true) : Cleared v s := by
  obtain ⟨queue, grants, valve⟩ := law.offManifold manifold
  exact ⟨queue, grants, valve, law.noGas gas⟩

theorem PlantLaw.cleared_of_not_running {s : State} {v : Volume} (law : PlantLaw s) (h : (s.vol v).state ≠ .running) :
    Cleared v s := law.cleared (fun e => absurd e h) (fun e => absurd e h)

/-- A step in a phase in which it asks nothing of the shared plant. -/
theorem PlantLaw.ready {s : State} {v : Volume} (law : PlantLaw s) (running : (s.vol v).state = .running)
    (manifold : (s.vol v).phase.onManifold = false) (gas : (s.vol v).phase.gasFree = true) : Ready v s :=
  ⟨law.cleared (fun _ => manifold) (fun _ => Phase.unqueued_of_gasFree gas), running, law.rfOff fun _ => gas⟩

/-! ## A volume at work that a step leaves standing -/

theorem used_filter_le (v : Volume) (l : List Grant) :
    ((l.filter fun g => g.holder != v).map fun g => g.load.units).sum ≤ (l.map fun g => g.load.units).sum :=
  ((List.filter_sublist (l := l)).map _).sum_le_sum (by simp)

theorem Local.load {v : Volume} {s t : State} (h : Local v s t) (grants : ∀ g ∈ t.rma.grants, g.holder ≠ v) :
    t.rma.used ≤ s.rma.used := by
  have all : t.rma.grants.filter (fun g => g.holder != v) = t.rma.grants :=
    List.filter_eq_self.2 fun g hg => by simpa using grants g hg
  rw [Rma.used, ← all, h.grants]
  exact used_filter_le v s.rma.grants

theorem PlantLaw.started {v : Volume} {s t : State} (law : PlantLaw s) (alone : Local v s t) (frame : EventFrame s t)
    (stands : Stands v t) (live : s.fitted v = true ∧ s.cfg.serving = true)
    (shut : atRest s v = true → interlockPasses s v = true) : PlantLaw t :=
  Turn.plantLaw (v := v) ⟨alone, frame, (alone.load stands.grants).trans law.load, stands.manifold, stands.gas,
    fun _ _ r => absurd (stands.away.symm.trans r) Bool.false_ne_true, fun _ => live, fun r => .inr (shut r)⟩ law

theorem PlantLaw.works {v : Volume} {s t : State} (law : PlantLaw s) (away : atRest s v = false) (alone : Local v s t)
    (frame : EventFrame s t) (stands : Stands v t) : PlantLaw t :=
  law.started alone frame stands (law.live fun e => by simp [atRest, e] at away) fun r =>
    absurd (away.symm.trans r) Bool.false_ne_true

theorem PlantLaw.runs {v : Volume} {s t : State} (law : PlantLaw s) (running : (s.vol v).state = .running)
    (alone : Local v s t) (frame : EventFrame s t) (stands : Stands v t) : PlantLaw t :=
  law.works (atRest_running running) alone frame stands

end Sys2Proof.Machine
end

section
/-! Every move that falls due within an event keeps the laws of the shared plant (R56, R64, R69, R100, R133, R148). -/

namespace Sys2Proof.Machine

open Sys2Proof

theorem inPhase_runs {s : State} {v : Volume} {p : Phase} {r : StepRecord} (h : inPhase s v p = some r) :
    (s.vol v).state = .running ∧ (s.vol v).phase = p ∧ (s.vol v).current = some r := by
  obtain ⟨running, phase, current⟩ := inPhase_eq_some.1 h
  exact ⟨running, phase, current⟩

theorem PlantLaw.readyIn {s : State} {v : Volume} {p : Phase} {r : StepRecord} (law : PlantLaw s)
    (h : inPhase s v p = some r) (manifold : p.onManifold = false) (gas : p.gasFree = true) : Ready v s := by
  obtain ⟨running, phase, -⟩ := inPhase_runs h
  exact law.ready running (by rwa [phase]) (by rwa [phase])

/-! ## Ends of steps (R49, R52, R56) -/

theorem PlantLaw.failStep {s : State} (law : PlantLaw s) (v : Volume) (f : FailKind) : PlantLaw (failStep v f s) := by
  have frame := failStep_eventFrame v f s
  have alone := failStep_local v f s
  rcases failStep_cases v f s with e | ⟨r, running, -, ⟨-, e⟩ | ⟨-, e⟩⟩
  · rw [e]
    exact law
  · exact law.runs running alone frame (e ▸ windDown_stands v _ _)
  · exact law.runs running alone frame (e ▸ windDown_stands v _ _)

theorem PlantLaw.completeStep {s : State} {v : Volume} {r : StepRecord} (law : PlantLaw s) (n : Option Note)
    (running : (s.vol v).state = .running) (current : (s.vol v).current = some r)
    (apart : (s.vol v).phase.onManifold = false) : PlantLaw (completeStep v n s) :=
  law.runs running (completeStep_local v n s) (completeStep_eventFrame v n s)
    (completeStep_stands n (law.offManifold fun _ => apart) running current)

/-- A drained volume at work or at rest, but not RUNNING, comes to rest. -/
theorem PlantLaw.rests {s t : State} {v : Volume} (law : PlantLaw s) (drained : s.drained v = true)
    (stopped : (s.vol v).state ≠ .running) (busy : (s.vol v).state ≠ .idle) (settled : atRest t v = true)
    (alone : Local v s t) (frame : EventFrame s t) (rma : t.rma = s.rma) (gas : t.gat.queue = s.gat.queue)
    (valve : (t.vol v).roughOpen = (s.vol v).roughOpen) (rf : t.reu = s.reu) : PlantLaw t := by
  have cleared := (law.cleared_of_not_running stopped).congr rma gas valve
  refine Turn.plantLaw ⟨alone, frame, by rw [rma]; exact law.load, cleared.manifoldLaw, fun c e => ?_, fun c e _ => ?_,
    fun _ => law.live busy, fun _ => .inl settled⟩ law
  · subst e
    refine cleared.gasLaw fun on => ?_
    have off := law.rfOff (v := .ch c) (fun e => absurd e stopped) c rfl
    unfold State.reuOf at on off
    rw [rf, off] at on
    cases on
  · subst e
    simpa [State.drained] using drained

/-! ## Moves off the manifold -/

theorem releaseRough_ready {s : State} {v : Volume} (running : (s.vol v).state = .running)
    (gas : ∀ e ∈ s.gat.queue, Volume.ch e.chamber ≠ v) (rf : ∀ c, v = .ch c → (s.reuOf c).rfOn = false) :
    Ready v (releaseRough v s) := by
  have vol := releaseRough_vol_self v s
  refine ⟨⟨?_, ?_, by rw [vol], gas⟩, by rw [vol]; exact running, rf⟩
  · rw [releaseRough_rma]
    simp
  · rw [releaseRough_rma]
    intro g hg
    simpa using (List.mem_filter.1 hg).2

/-- A step in its roughing stage that gives up what it holds of the manifold. -/
theorem PlantLaw.releaseRough_ready {s : State} {v : Volume} (law : PlantLaw s) (running : (s.vol v).state = .running)
    (gas : (s.vol v).phase.gasFree = true) : Ready v (releaseRough v s) :=
  Machine.releaseRough_ready running (law.noGas fun _ => Phase.unqueued_of_gasFree gas) (law.rfOff fun _ => gas)

theorem retried_eased (v : Volume) (s : State) : Eased s (retried v s) :=
  ((modVol_eased v _ s rfl rfl rfl).trans (setFlag_eased v .pumpRetry _)).trans (countOn_eased v _ _)

theorem PlantLaw.stallRetry {s : State} {v : Volume} (law : PlantLaw s) (stage : roughing s v = true) :
    PlantLaw (stallRetry v s) := by
  obtain ⟨running, phase, -⟩ := (roughing_iff s v).1 stage
  have gas : (s.vol v).phase.gasFree = true := by rcases phase with p | p <;> rw [p] <;> rfl
  have eased := retried_eased v s
  have ready : Ready v (releaseRough v (retried v s)) :=
    (eased.plantLaw law).releaseRough_ready ((eased.state v).trans running) (by rwa [eased.phase])
  have frame : EventFrame s (Machine.stallRetry v s) := by
    rw [stallRetry_eq]
    exact ((modVol_eventFrame v _ s).trans (setFlag_eventFrame v .pumpRetry _)).trans (countOn_eventFrame v _ _)
  refine law.runs running (stallRetry_local v s) frame ?_
  rw [stallRetry_eq]
  exact joinRough_stands ready

/-- The REU at a strike retry (R139): one retry less, its counts 0 and RF off. -/
def struck (c : Chamber) (s : State) : State :=
  rfOff c (s.modReu c fun u => { u with retriesLeft := u.retriesLeft - 1, confirmCount := 0, pauseCount := 0 })

theorem strikeRetry_eq (c : Chamber) (s : State) : strikeRetry c s
    = (countOn (.ch c) Counters.countStrikeRetry (setFlag (.ch c) .strikeRetry (struck c s))).modVol (.ch c) fun x =>
        { x with phase := .retryPause } := rfl

theorem rfOff_eased (c : Chamber) (s : State) : Eased s (rfOff c s) := modReu_eased c _ s nofun

theorem struck_eased (c : Chamber) (s : State) : Eased s (struck c s) :=
  (modReu_eased c _ s id).trans (rfOff_eased c _)

theorem struck_dark (c : Chamber) (s : State) : ((struck c s).reuOf c).rfOn = false := by
  rw [struck, rfOff, State.reuOf_modReu_self]

theorem PlantLaw.strikeRetry {s : State} {c : Chamber} {r : StepRecord} {p : Phase} (law : PlantLaw s)
    (h : inPhase s (.ch c) p = some r) (lit : p = .ignite ∨ p = .confirm) : PlantLaw (strikeRetry c s) := by
  obtain ⟨running, phase, -⟩ := inPhase_runs h
  have off := struck_eased c s
  have apart : (s.vol (.ch c)).phase.onManifold = false ∧ (s.vol (.ch c)).phase.unqueued = true := by
    rcases lit with e | e <;> rw [phase, e] <;> exact ⟨rfl, rfl⟩
  have cleared : Cleared (.ch c) s := law.cleared (fun _ => apart.1) (fun _ => apart.2)
  have ready : Ready (.ch c) (struck c s) := ⟨off.cleared cleared, (off.state (.ch c)).trans running, fun d e => by
    injection e with e
    exact e ▸ struck_dark c s⟩
  have counted := (setFlag_eased (.ch c) .strikeRetry (struck c s)).trans
    (countOn_eased (.ch c) Counters.countStrikeRetry _)
  refine law.runs running (strikeRetry_local c s) (strikeRetry_eventFrame c s) ?_
  rw [strikeRetry_eq]
  exact ((counted.ready ready).modVol _ rfl rfl).stands

theorem enterIgnite_stands {s : State} {c : Chamber} (r : StepRecord) (h : Cleared (.ch c) s)
    (running : (s.vol (.ch c)).state = .running) : Stands (.ch c) (enterIgnite c r s) := by
  have vol := (enterIgnite_spec c r s).1
  have state : ((enterIgnite c r s).vol (.ch c)).state = .running := by rw [vol]; exact running
  have cleared : Cleared (.ch c) (enterIgnite c r s) := h.congr rfl rfl (by rw [vol])
  refine cleared.stands (atRest_running state) fun d e _ => ?_
  obtain rfl : c = d := by injection e
  exact ⟨state, .inl (by rw [vol])⟩

theorem enterEtch_stands {s : State} {c : Chamber} (r : StepRecord) (h : Cleared (.ch c) s)
    (running : (s.vol (.ch c)).state = .running) : Stands (.ch c) (enterEtch c r s) := by
  have vol := (enterEtch_spec c r s).1
  have state : ((enterEtch c r s).vol (.ch c)).state = .running := by rw [vol]; exact running
  refine (enterEtch_cleared r h).stands (atRest_running state) fun d e _ => ?_
  obtain rfl : c = d := by injection e
  exact ⟨state, .inr (.inr (by rw [vol]))⟩

theorem PlantLaw.afterTransition {s : State} {c : Chamber} {r : StepRecord} (law : PlantLaw s)
    (h : inPhase s (.ch c) .transition = some r) : PlantLaw (afterTransition c r s) := by
  have ready := law.readyIn h rfl rfl
  refine law.runs ready.running (afterTransition_local c r s) (afterTransition_eventFrame c r s) ?_
  unfold Machine.afterTransition
  split
  · exact enterIgnite_stands r ready.cleared ready.running
  · exact enterEtch_stands r ready.cleared ready.running
  · exact (ready.modVol _ rfl rfl).stands

/-- The state in which CONFIRM begins (R138). -/
def confirming (c : Chamber) (s : State) : State :=
  (s.modVol (.ch c) fun x => { x with phase := .confirm }).modReu c fun u => { u with confirmCount := 0 }

theorem confirming_vol (c : Chamber) (s : State) :
    (confirming c s).vol (.ch c) = { s.vol (.ch c) with phase := .confirm } :=
  (State.modReu_vol _ c _ (.ch c)).trans (State.vol_modVol_self s (.ch c) _)

theorem PlantLaw.confirms {s : State} {c : Chamber} {r : StepRecord} (law : PlantLaw s)
    (h : inPhase s (.ch c) .ignite = some r) : PlantLaw (confirming c s) := by
  obtain ⟨running, phase, -⟩ := inPhase_runs h
  have vol := confirming_vol c s
  have state : ((confirming c s).vol (.ch c)).state = .running := by rw [vol]; exact running
  have cleared : Cleared (.ch c) s := law.cleared (fun _ => by rw [phase]; rfl) (fun _ => by rw [phase]; rfl)
  have same : Cleared (.ch c) (confirming c s) := cleared.congr rfl rfl (by rw [vol])
  refine law.runs running ((modVol_local _ _ s).trans (modReu_local c _ _)) (EventFrame.refl s)
    (same.stands (atRest_running state) fun d e _ => ?_)
  obtain rfl : c = d := by injection e
  exact ⟨state, .inr (.inl (by rw [vol]))⟩

/-! ## The end of roughing, of a fill and of a pump-back (R72, R93, R94) -/

theorem PlantLaw.endRough {s : State} {v : Volume} {r : StepRecord} (law : PlantLaw s)
    (h : inPhase s v .rough = some r) : PlantLaw (endRough v r s) := by
  obtain ⟨running, phase, current⟩ := inPhase_runs h
  have ready : Ready v (releaseRough v s) := law.releaseRough_ready running (by rw [phase]; rfl)
  refine law.runs running (endRough_local v r s) (endRough_eventFrame v r s) ?_
  unfold Machine.endRough
  dsimp only
  split
  · exact (ready.modVol _ rfl rfl).stands
  · exact completeStep_stands none ready.cleared.offManifold ready.running
      (by rw [releaseRough_vol_self]; exact current)

theorem fillClosed_eased (v : Volume) (r : StepRecord) (s : State) : Eased s (fillClosed v r s) := by
  cases v with
  | ch c => exact foldl_eased _ (fun t f => zeroChannel_eased c .normal f.chan t) r.flows s
  | tc => exact setVent_eased .tc false s
  | ll l => exact setVent_eased (.ll l) false s

theorem PlantLaw.endFill {s : State} {v : Volume} {r : StepRecord} (law : PlantLaw s) (h : inPhase s v .fill = some r) :
    PlantLaw (endFill v r s) := by
  obtain ⟨running, -, current⟩ := inPhase_runs h
  have ready := (fillClosed_eased v r s).ready (law.readyIn h rfl rfl)
  have sound := purgeFrom_sound r ((fillClosed v r s).vol v).cyclesLeft ready
  refine law.runs running (endFill_local v r s) (endFill_eventFrame v r s) ?_
  rw [endFill_eq]
  refine Started.settle_stands sound (r := r) ?_
  rw [(purgeFrom_within v r _ _).current, (fillClosed_within v r s).current]
  exact current

theorem PlantLaw.endPumpBack {s : State} {v : Volume} {r : StepRecord} (law : PlantLaw s)
    (h : inPhase s v .pumpback = some r) : PlantLaw (endPumpBack v r s) := by
  obtain ⟨running, phase, current⟩ := inPhase_runs h
  have ready : Ready v (pumpedBack v s) :=
    (law.releaseRough_ready running (by rw [phase]; rfl)).modVol (fun x => { x with cyclesLeft := x.cyclesLeft - 1 }) rfl rfl
  have same : ((pumpedBack v s).vol v).current = some r := by
    rw [(pumpedBack_spec v s).2.1]
    exact current
  refine law.runs running (endPumpBack_local v r s) (endPumpBack_eventFrame v r s) ?_
  rw [endPumpBack_eq]
  split
  · exact completeStep_stands none ready.cleared.offManifold ready.running same
  · refine Started.settle_stands (beginCycle_sound r ready) (r := r) ?_
    rw [(beginCycle_within v r _).current]
    exact same

/-! ## Grants and rough valves (R64 to R70) -/

theorem rma_local {v : Volume} {s : State} {r : Rma}
    (grants : r.grants.filter (fun g => g.holder != v) = s.rma.grants.filter fun g => g.holder != v)
    (queue : r.queue.filter (fun w => w != v) = s.rma.queue.filter fun w => w != v) : Local v s { s with rma := r } :=
  { Local.refl v s with grants := grants, queue := queue }

theorem grant?_eq_some {s : State} {v : Volume} {g : Grant} (h : s.grant? v = some g) : g ∈ s.rma.grants ∧ g.holder = v :=
  ⟨List.mem_of_find?_eq_some h, by simpa using List.find?_some h⟩

/-- The grant list after the opening of a rough valve. -/
def openedGrants (v : Volume) (s : State) : List Grant :=
  s.rma.grants.map fun g => if g.holder = v then { g with valveOpen := true } else g

theorem openedGrants_map (v : Volume) (s : State) {β : Type} (f : Grant → β)
    (h : ∀ g : Grant, f { g with valveOpen := true } = f g) : (openedGrants v s).map f = s.rma.grants.map f := by
  rw [openedGrants, List.map_map]
  refine List.map_congr_left fun g _ => ?_
  simp only [Function.comp_apply]
  split
  · exact h g
  · rfl

theorem openedGrants_filter (v : Volume) (s : State) :
    (openedGrants v s).filter (fun g => g.holder != v) = s.rma.grants.filter fun g => g.holder != v := by
  rw [openedGrants]
  induction s.rma.grants with
  | nil => rfl
  | cons g l ih =>
    by_cases e : g.holder = v
    · simp [e, ih]
    · simp [e, ih]

theorem Vol.roughingPhase_cases (x : Vol) : x.roughingPhase = .rough ∨ x.roughingPhase = .pumpback := by
  unfold Vol.roughingPhase
  split
  · exact .inr rfl
  · exact .inl rfl

theorem PlantLaw.opened {s : State} {v : Volume} {g : Grant} (law : PlantLaw s) (p : Int) (grant : s.grant? v = some g)
    (waiting : g.valveOpen = false) (gate : s.gateOpen v = false) : PlantLaw (opened v p s) := by
  obtain ⟨mem, holder⟩ := grant?_eq_some grant
  obtain ⟨running, stage⟩ := (law.manifold v).granted g mem holder
  have phase : (s.vol v).phase = .valveWait := by simpa [grantPhase, waiting] using stage
  have vol : (Machine.opened v p s).vol v = { s.vol v with
      roughOpen := true, phase := (s.vol v).roughingPhase, stallBaseline := p, stallCount := 0 } :=
    State.vol_modVol_self _ v _
  have rma : (Machine.opened v p s).rma = ⟨openedGrants v s, s.rma.queue⟩ := rfl
  have state : ((Machine.opened v p s).vol v).state = .running := by rw [vol]; exact running
  have count := (law.manifold v).once
  have held : 0 < (s.rma.grants.map (·.holder)).count v :=
    List.count_pos_iff.2 (List.mem_map.2 ⟨g, mem, holder⟩)
  have unqueued : v ∉ s.rma.queue := fun e => by
    rw [List.count_append] at count
    have : 0 < s.rma.queue.count v := List.count_pos_iff.2 e
    omega
  have opens : ∀ h ∈ openedGrants v s, h.holder = v → h.valveOpen = true := by
    intro h mem e
    obtain ⟨k, -, rfl⟩ := List.mem_map.1 mem
    by_cases own : k.holder = v <;> simp_all
  have own : { g with valveOpen := true } ∈ openedGrants v s := List.mem_map.2 ⟨g, mem, if_pos holder⟩
  refine Turn.plantLaw (v := v) ⟨(rma_local (r := ⟨openedGrants v s, s.rma.queue⟩) (openedGrants_filter v s) rfl).trans
      (modVol_local v _ _), EventFrame.refl s, ?_, ⟨fun e => ?_, fun h mem e => ⟨state, ?_⟩, ?_, fun _ => ⟨?_, gate⟩⟩,
      fun c e => ?_, fun _ _ r => ?_, fun _ => law.live (by rw [running]; decide), fun r => ?_⟩ law
  · rw [rma, Rma.used, openedGrants_map v s _ fun _ => rfl]
    exact law.load
  · rw [rma] at e
    exact absurd e unqueued
  · rw [rma] at mem
    rw [grantPhase, if_pos (opens h mem e), vol]
    exact Vol.roughingPhase_cases _
  · rw [rma, openedGrants_map v s _ fun _ => rfl]
    exact count
  · rw [rma]
    exact ⟨_, own, holder, rfl⟩
  · subst e
    have cleared := law.noGas (v := .ch c) fun _ => by rw [phase]; rfl
    have dark := law.rfOff (v := .ch c) (fun _ => by rw [phase]; rfl) c rfl
    refine ⟨fun on => absurd (dark.symm.trans on) Bool.false_ne_true, fun e he same => absurd (same ▸ rfl) (cleared e he), ?_⟩
    exact (law.gas c).once
  · rw [atRest_running state] at r
    cases r
  · rw [atRest_running running] at r
    cases r

theorem PlantLaw.granted {s : State} {v : Volume} {rest : List Volume} (law : PlantLaw s) (queue : s.rma.queue = v :: rest)
    (fits : s.rma.used + (prospectiveLoad s v).units ≤ 4) : PlantLaw (granted v rest s) := by
  obtain ⟨running, phase⟩ := (law.manifold v).queued (by rw [queue]; exact List.mem_cons_self)
  have vol : (Machine.granted v rest s).vol v = { s.vol v with phase := .valveWait } := State.vol_modVol_self _ v _
  have rma : (Machine.granted v rest s).rma = ⟨s.rma.grants ++ [⟨v, prospectiveLoad s v, false⟩], rest⟩ := rfl
  have state : ((Machine.granted v rest s).vol v).state = .running := by rw [vol]; exact running
  have count := (law.manifold v).once
  rw [queue, List.cons_append, List.count_cons_self, List.count_append] at count
  have unqueued : v ∉ rest := fun e => by
    have : 0 < rest.count v := List.count_pos_iff.2 e
    omega
  have ungranted : ∀ g ∈ s.rma.grants, g.holder ≠ v := fun g mem e => by
    have : 0 < (s.rma.grants.map (·.holder)).count v := List.count_pos_iff.2 (List.mem_map.2 ⟨g, mem, e⟩)
    omega
  refine Turn.plantLaw (v := v) ⟨(rma_local (r := ⟨s.rma.grants ++ [⟨v, prospectiveLoad s v, false⟩], rest⟩)
      (by simp) (by simp [queue])).trans (modVol_local v _ _), EventFrame.refl s, ?_,
      ⟨fun e => ?_, fun h mem e => ⟨state, ?_⟩, ?_, fun e => ?_⟩, fun c e => ?_, fun _ _ r => ?_,
      fun _ => law.live (by rw [running]; decide), fun r => ?_⟩ law
  · rw [rma]
    simpa [Rma.used] using fits
  · rw [rma] at e
    exact absurd e unqueued
  · rw [rma] at mem
    rcases List.mem_append.1 mem with old | new
    · exact absurd e (ungranted h old)
    · obtain rfl := List.mem_singleton.1 new
      rw [vol]
      simp [grantPhase]
  · rw [rma]
    simp only [List.map_append, List.count_append, List.map_cons, List.map_nil, List.count_singleton_self]
    omega
  · rw [vol] at e
    obtain ⟨⟨g, mem, holder, -⟩, -⟩ := (law.manifold v).valve e
    exact absurd holder (ungranted g mem)
  · subst e
    have cleared := law.noGas (v := .ch c) fun _ => by rw [phase]; rfl
    have dark := law.rfOff (v := .ch c) (fun _ => by rw [phase]; rfl) c rfl
    exact ⟨fun on => absurd (dark.symm.trans on) Bool.false_ne_true, fun e he same => absurd (same ▸ rfl) (cleared e he),
      (law.gas c).once⟩
  · rw [atRest_running state] at r
    cases r
  · rw [atRest_running running] at r
    cases r

end Sys2Proof.Machine
end

section
/-! An admission keeps the laws of the shared plant (R97, R100, R104, R107), and with it everything that follows within an
event. -/

namespace Sys2Proof.Machine

open Sys2Proof

/-! ## The commitments after an admission -/

/-- A channel's row after an admission that asks for `target`: as it was, or at the start of a transition toward it. -/
def Asked (target : Nat) (before after : ChannelRow) : Prop := after = before ∨ after = before.start target

theorem Asked.commitment_le {target : Nat} {before after : ChannelRow} (h : Asked target before after) :
    after.commitment ≤ max before.commitment target := by
  rcases h with rfl | rfl
  · exact le_max_left _ _
  · exact le_rfl

theorem Asked.cover {target : Nat} {before after : ChannelRow} (h : Asked target before after)
    (law : before.target ≤ before.commitment) : after.target ≤ after.commitment := by
  rcases h with rfl | rfl
  · exact law
  · exact le_max_right _ _

theorem startTransition_row (c : Chamber) (k : Chan) (target n : Nat) (cls : WriteClass) (s : State) (d : Chamber)
    (j : Chan) : (startTransition c k target n cls s).row d j
      = (s.gat.rows.setK c k ((s.row c k).start target)).getK d j := by
  obtain ⟨b, h⟩ := startTransition_eq c k target n cls s
  rw [h]
  rfl

theorem admitChannel_other {c d : Chamber} {k j : Chan} (aims : Per6 Aim) (s : State) (ne : (d, j) ≠ (c, k)) :
    (admitChannel c aims s k).row d j = s.row d j := by
  unfold admitChannel
  dsimp only
  split
  · rfl
  · rw [startTransition_row]
    exact Per4.getK_setK_ne _ c d k j _ ne

theorem admitChannel_turn (c : Chamber) (k : Chan) (aims : Per6 Aim) (s : State) :
    Asked (aims.get k).target (s.row c k) ((admitChannel c aims s k).row c k) := by
  unfold admitChannel
  dsimp only
  split
  · exact .inl rfl
  · rw [startTransition_row]
    exact .inr (Per4.getK_setK_self _ c k _)

theorem admitChannels_other {c d : Chamber} (aims : Per6 Aim) (s : State) (ne : d ≠ c) (j : Chan) :
    (Chan.all.foldl (admitChannel c aims) s).row d j = s.row d j :=
  List.foldlRecOn (motive := fun t : State => t.row d j = s.row d j) Chan.all _ rfl fun t h _ _ =>
    (admitChannel_other aims t fun e => ne (congrArg Prod.fst e)).trans h

theorem admitChannels_asked (c : Chamber) (aims : Per6 Aim) (s : State) (k : Chan) :
    Asked (aims.get k).target (s.row c k) ((Chan.all.foldl (admitChannel c aims) s).row c k) := by
  refine foldl_turn (P := fun t : State => t.row c k = s.row c k)
    (Q := fun t : State => Asked (aims.get k).target (s.row c k) (t.row c k)) (fun t j ne h => ?_) (fun t h => ?_)
    (fun t j ne h => ?_) Chan.all nodup_chans (Chan.mem_all k) s rfl
  · exact (admitChannel_other aims t fun e => ne (congrArg Prod.snd e).symm).trans h
  · exact h ▸ admitChannel_turn c k aims t
  · rw [admitChannel_other aims t fun e => ne (congrArg Prod.snd e).symm]
    exact h

theorem admitEntry_row (e : GasEntry) (s : State) (d : Chamber) (j : Chan) : (admitEntry e s).row d j
    = (Chan.all.foldl (admitChannel e.chamber e.aims) (withdrawGas e.chamber s)).row d j := by
  obtain ⟨hlm, outbox, h⟩ := headerTest_frame (Chan.all.foldl (admitChannel e.chamber e.aims) (withdrawGas e.chamber s))
  unfold admitEntry
  dsimp only
  rw [h]
  rfl

theorem admitEntry_row_other {e : GasEntry} {d : Chamber} (s : State) (ne : d ≠ e.chamber) (j : Chan) :
    (admitEntry e s).row d j = s.row d j :=
  (admitEntry_row e s d j).trans (admitChannels_other e.aims (withdrawGas e.chamber s) ne j)

theorem admitEntry_asked (e : GasEntry) (s : State) (k : Chan) :
    Asked (e.aims.get k).target (s.row e.chamber k) ((admitEntry e s).row e.chamber k) := by
  rw [admitEntry_row]
  exact admitChannels_asked e.chamber e.aims (withdrawGas e.chamber s) k

/-! ## A source's committed total (R100, R104) -/

theorem sumChannels_add (f g : Chamber → Chan → Nat) :
    sumChannels (fun c k => f c k + g c k) = sumChannels f + sumChannels g := by
  simp only [sumChannels, sumChan, List.sum_map_add]

theorem sumChannels_single (d : Chamber) (h : Chan → Nat) :
    sumChannels (fun c k => if c = d then h k else 0) = sumChan h := by
  cases d <;> simp [sumChannels, sumChan, Chamber.all]

theorem admitEntry_sourceTotal (e : GasEntry) (s : State) (n : Nat) :
    (admitEntry e s).sourceTotal n ≤ s.sourceTotal n + sourceIncrease s e n := by
  have source : ∀ c k, (admitEntry e s).source c k = s.source c k := fun c k => by
    rw [State.source, State.source, (admitEntry_eventFrame e s).items]
  rw [State.sourceTotal, State.sourceTotal, sourceIncrease, ← sumChannels_single e.chamber, ← sumChannels_add]
  refine sumChannels_mono fun c k => ?_
  rw [source]
  by_cases own : c = e.chamber
  · subst own
    have asked := (admitEntry_asked e s k).commitment_le
    by_cases mapped : s.source e.chamber k = n
    · simp only [mapped, if_true, increase]
      omega
    · simp [mapped]
  · rw [admitEntry_row_other s own]
    simp [own]

theorem admissible_source {s : State} {e : GasEntry} (h : admissible s e = true) {n : Nat} (low : 1 ≤ n) (high : n ≤ 10) :
    s.sourceTotal n + sourceIncrease s e n ≤ s.sourceCapacity n := by
  simp only [admissible, Bool.and_eq_true] at h
  obtain ⟨⟨⟨room, -⟩, -⟩, -⟩ := h
  refine of_decide_eq_true (List.all_eq_true.1 room n ?_)
  simp only [sourceNumbers, List.mem_cons]
  omega

theorem nextAdmission_some {s : State} {e : GasEntry} (h : nextAdmission s = some e) :
    e ∈ s.gat.queue ∧ admissible s e = true := by
  unfold nextAdmission at h
  split at h
  · cases h
  next head rest queue =>
    rw [queue]
    split at h
    next passes => exact Option.some.inj h ▸ ⟨List.mem_cons_self, passes⟩
    split at h
    · cases h
    · exact ⟨List.mem_cons_of_mem _ (List.mem_of_find?_eq_some h), by simpa using List.find?_some h⟩

/-! ## The laws after an admission -/

theorem admitEntry_vol_self (e : GasEntry) (s : State) :
    (admitEntry e s).vol (.ch e.chamber) = (s.vol (.ch e.chamber)).afterAdmission := by
  obtain ⟨rows, fru, dbc, hlm, outbox, h⟩ := admitEntry_frame e s
  rw [h, State.vol_modVol_self]
  rfl

theorem admitEntry_plant (e : GasEntry) (s : State) : (admitEntry e s).rma = s.rma ∧ (admitEntry e s).gates = s.gates
    ∧ (admitEntry e s).reu = s.reu
    ∧ (admitEntry e s).gat.queue = s.gat.queue.filter (fun f => f.chamber != e.chamber)
    ∧ ∀ w, w ≠ .ch e.chamber → (admitEntry e s).vol w = s.vol w := by
  obtain ⟨rows, fru, dbc, hlm, outbox, h⟩ := admitEntry_frame e s
  rw [h]
  exact ⟨rfl, rfl, rfl, rfl, fun w ne => State.vol_modVol_ne _ _ w _ ne⟩

theorem admitEntry_state (e : GasEntry) (s : State) (w : Volume) :
    ((admitEntry e s).vol w).state = (s.vol w).state ∧ ((admitEntry e s).vol w).roughOpen = (s.vol w).roughOpen := by
  by_cases own : w = .ch e.chamber
  · rw [own, admitEntry_vol_self, Vol.afterAdmission_phase]
    exact ⟨rfl, rfl⟩
  · obtain ⟨-, -, -, -, others⟩ := admitEntry_plant e s
    rw [others w own]
    exact ⟨rfl, rfl⟩

/-- The admitted chamber holds nothing of the manifold, and its entry is gone. -/
theorem admitEntry_cleared {s : State} {e : GasEntry} (law : PlantLaw s) (mem : e ∈ s.gat.queue) :
    Cleared (.ch e.chamber) (admitEntry e s) := by
  obtain ⟨rma, -, -, queue, -⟩ := admitEntry_plant e s
  obtain ⟨-, waits⟩ := (law.gas e.chamber).queued e mem rfl
  have off := law.offManifold (v := .ch e.chamber) fun _ => by rcases waits with p | p <;> rw [p] <;> rfl
  refine ⟨rma ▸ off.queue, rma ▸ off.grants, (admitEntry_state e s _).2.trans off.valve, fun f hf same => ?_⟩
  rw [queue] at hf
  have kept := (List.mem_filter.1 hf).2
  simp only [bne_iff_ne] at kept
  exact kept (by injection same)

theorem admitEntry_gasLaw {s : State} {e : GasEntry} (law : PlantLaw s) (mem : e ∈ s.gat.queue) :
    GasLaw e.chamber (admitEntry e s) := by
  obtain ⟨running, waits⟩ := (law.gas e.chamber).queued e mem rfl
  obtain ⟨-, -, reu, -⟩ := admitEntry_plant e s
  refine (admitEntry_cleared law mem).gasLaw fun on => ⟨(admitEntry_state e s _).1.trans running, ?_⟩
  unfold State.reuOf at on
  rw [reu] at on
  obtain ⟨-, lit⟩ := (law.gas e.chamber).rf on
  have etch : (s.vol (.ch e.chamber)).phase = .etch := by
    rcases waits with p | p
    · rw [p] at lit
      rcases lit with q | q | q <;> cases q
    · exact p
  refine .inr (.inr ?_)
  rw [admitEntry_vol_self, Vol.afterAdmission, etch, if_neg (by decide)]
  exact etch

theorem PlantLaw.admitEntry {s : State} {e : GasEntry} (law : PlantLaw s) (mem : e ∈ s.gat.queue)
    (passes : admissible s e = true) : PlantLaw (admitEntry e s) := by
  obtain ⟨rma, gates, reu, queue, others⟩ := admitEntry_plant e s
  have frame := admitEntry_eventFrame e s
  have state := fun w => (admitEntry_state e s w).1
  obtain ⟨running, -⟩ := (law.gas e.chamber).queued e mem rfl
  refine ⟨rma ▸ law.load, fun w => ?_, fun c => ?_, fun c rest => ?_, fun w f => ?_, fun c w => ?_, fun n low high => ?_,
    fun c k => ?_, ?_⟩
  · by_cases own : w = .ch e.chamber
    · exact own ▸ (admitEntry_cleared law mem).manifoldLaw
    · have gate : (Machine.admitEntry e s).gateOpen w = s.gateOpen w := by rw [State.gateOpen, gates]; rfl
      obtain ⟨queued, granted, once, valve⟩ := law.manifold w
      exact ⟨by rw [rma, others w own]; exact queued, by rw [rma, others w own]; exact granted, by rw [rma]; exact once,
        by rw [rma, others w own, gate]; exact valve⟩
  · by_cases own : c = e.chamber
    · exact own ▸ admitEntry_gasLaw law mem
    · have vol := others (.ch c) fun same => own (by injection same)
      obtain ⟨rf, queued, once⟩ := law.gas c
      refine ⟨?_, fun f hf => ?_, ?_⟩
      · unfold State.reuOf
        rw [reu, vol]
        exact rf
      · rw [queue] at hf
        rw [vol]
        exact queued f (List.mem_of_mem_filter hf)
      · rw [queue]
        exact (((List.filter_sublist).map _).count_le c).trans once
  · rw [atRest_congr (state (.ch c))] at rest
    have own : c ≠ e.chamber := by
      rintro rfl
      rw [atRest_running running] at rest
      cases rest
    have none := law.rest c rest
    rw [hasCommitment_eq_false_iff] at none ⊢
    exact fun k => (congrArg ChannelRow.commitment (admitEntry_row_other s own k)).trans (none k)
  · rw [state w]
    exact law.unfitted w (by rw [← f, frame.fitted])
  · rw [state w]
    exact law.configuring (by rw [← c, frame.cfg]) w
  · have capacity : (Machine.admitEntry e s).sourceCapacity n = s.sourceCapacity n := by
      rw [State.sourceCapacity, State.sourceCapacity, frame.items]
    rw [capacity]
    exact (admitEntry_sourceTotal e s n).trans (admissible_source passes low high)
  · by_cases own : c = e.chamber
    · subst own
      exact (admitEntry_asked e s k).cover (law.cover e.chamber k)
    · rw [admitEntry_row_other s own]
      exact law.cover c k
  · have rest : ∀ w, atRest (Machine.admitEntry e s) w = atRest s w := fun w => atRest_congr (state w)
    unfold openingLaw
    simp only [frame.tiu, rest]
    exact law.opening

/-! ## What follows within an event -/

/-- A step off the manifold whose change asks nothing of the plant. -/
theorem PlantLaw.ofReady {s t : State} {v : Volume} (law : PlantLaw s) (running : (s.vol v).state = .running)
    (alone : Local v s t) (frame : EventFrame s t) (ready : Ready v t) : PlantLaw t :=
  law.runs running alone frame ready.stands

theorem Move.plantLaw {s t : State} (h : Move s t) (law : PlantLaw s) : PlantLaw t := by
  cases h with
  | completes v n r p h apart =>
    obtain ⟨running, phase, current⟩ := inPhase_runs h
    exact law.completeStep n running current (by rwa [phase])
  | closes v r h =>
    obtain ⟨running, phase, current⟩ := inPhase_runs h
    have eased := setVent_eased v false s
    have vol : (setVent v false s).vol v = { s.vol v with ventOpen := false } := State.vol_modVol_self s v _
    exact (eased.plantLaw law).completeStep none ((eased.state v).trans running) (by rw [vol]; exact current)
      (by rw [eased.phase, phase]; rfl)
  | fails v f r h => exact law.failStep v f
  | renews v p stage count => exact (modVol_eased v _ s rfl rfl rfl).plantLaw law
  | retries v stage count left => exact law.stallRetry stage
  | strikes c r p h lit => exact law.strikeRetry h lit
  | relights c r h pause =>
    have ready := law.readyIn h rfl rfl
    exact law.runs ready.running (enterIgnite_local c r s) (enterIgnite_eventFrame c r s)
      (enterIgnite_stands r ready.cleared ready.running)
  | idles v drained ending n =>
    exact law.rests drained (by simp [ending]) (by simp [ending]) (by simp [atRest])
      ((modVol_local v _ s).trans (post_local v _ n _)) (EventFrame.refl s) rfl rfl
      (by rw [post_vol, State.vol_modVol_self]) rfl
  | holds v drained safing n =>
    exact law.rests drained (by simp [safing]) (by simp [safing]) (by simp [atRest])
      ((modVol_local v _ s).trans (post_local v _ n _)) (EventFrame.refl s) rfl rfl
      (by rw [post_vol, State.vol_modVol_self]) rfl
  | transits c r h => exact law.afterTransition h
  | lights c r h => exact law.confirms h
  | highPumps v r h =>
    have ready := law.readyIn h rfl rfl
    exact law.ofReady ready.running (enterHighPump_within v s).alone (enterHighPump_eventFrame v s)
      ((ready.modVol (fun x => { x with phase := .highPump }) rfl rfl).setGate true)
  | roughs v r h => exact law.endRough h
  | vents v r h =>
    have ready := law.readyIn h rfl rfl
    exact law.ofReady ready.running (modVol_local v _ s) (modVol_eventFrame v _ s) (ready.modVol _ rfl rfl)
  | fills v r h target => exact law.endFill h
  | pumps v r h floor => exact law.endPumpBack h
  | opens v g p grant waiting gate => exact law.opened p grant waiting gate
  | grants v rest queue fits => exact law.granted queue fits
  | admits e next =>
    obtain ⟨mem, passes⟩ := nextAdmission_some next
    exact law.admitEntry mem passes

theorem PlantLaw.settle {s : State} (law : PlantLaw s) (n : Nat) : PlantLaw (settle n s) :=
  settle_keeps (fun _ _ move h => move.plantLaw h) n law

theorem flush_eased (s : State) : Eased s (flush s) := by
  obtain ⟨ports, h⟩ := flush_frame s
  rw [h]
  exact .of_plant rfl rfl rfl rfl rfl rfl rfl

theorem PlantLaw.finish {s : State} (law : PlantLaw s) : PlantLaw (finish s) :=
  (flush_eased _).plantLaw (law.settle settleBound)

theorem PlantLaw.whenDue {s : State} {o : Option State} (law : PlantLaw s) (h : Leads (fun t => Move s t ∨ t = s) o) :
    PlantLaw (whenDue o s) := by
  unfold Machine.whenDue
  split
  next t =>
    rcases h t rfl with move | same
    · exact (move.plantLaw law).finish
    · exact (same ▸ law).finish
  · exact law

end Sys2Proof.Machine
end

section
/-! Faults, ticks, samples, input functions, the device bus and link loss keep the laws of the shared plant. -/

namespace Sys2Proof.Machine

open Sys2Proof

/-! ## Faults (R53, R54) -/

theorem PlantLaw.windDown {s : State} {v : Volume} (law : PlantLaw s) (away : atRest s v = false)
    (h : Option HoldRecord) : PlantLaw (windDown v h s) :=
  law.works away (windDown_local v h s) (windDown_eventFrame v h s) (windDown_stands v h s)

/-- A volume in ENDING turns to SAFING: it holds nothing of the plant already. -/
theorem PlantLaw.turnsSafe {s : State} {v : Volume} (law : PlantLaw s) (ending : (s.vol v).state = .ending)
    (h : HoldRecord) :
    PlantLaw (s.modVol v fun x => { x with state := .safing, phase := .none, hold := some h }) := by
  have stopped : (s.vol v).state ≠ .running := by simp [ending]
  have away : atRest s v = false := by simp [atRest, ending]
  have vol := State.vol_modVol_self s v fun x => { x with state := .safing, phase := .none, hold := some h }
  have cleared : Cleared v (s.modVol v fun x => { x with state := .safing, phase := .none, hold := some h }) :=
    (law.cleared_of_not_running stopped).congr rfl rfl (by rw [vol])
  refine law.works away (modVol_local v _ s) (modVol_eventFrame v _ s)
    (cleared.stands (by rw [atRest, vol]; rfl) fun c e on => ?_)
  have off : (s.reuOf c).rfOn = false := law.rfOff (fun running => absurd running stopped) c e
  exact absurd (off.symm.trans on) Bool.false_ne_true

theorem PlantLaw.takeFault {s : State} (law : PlantLaw s) (v : Volume) (k : HoldCause) : PlantLaw (takeFault v k s) := by
  unfold Machine.takeFault
  split
  · dsimp only
    have flagged := (setFlag?_eased v k.flag s).plantLaw law
    split
    next running =>
      have recorded := recordEnd_eased v .stopped none none (setFlag? v k.flag s)
      exact (recorded.plantLaw flagged).windDown (atRest_running ((recorded.state v).trans running)) _
    next ending =>
      have safe := flagged.turnsSafe ending ⟨k, none, ((setFlag? v k.flag s).vol v).currentTag, .none⟩
      split
      · exact (closeGate_eased v _).plantLaw safe
      · exact safe
    · exact flagged
    · exact flagged
    · exact flagged
  · exact law

/-- The laws do not read the samples, the header state, the generators, the bus, the input functions or the links. -/
theorem PlantLaw.beside {s : State} (law : PlantLaw s) {pec : Pec} {hlm : Hlm} {fru : Per24 Generator} {dbc : Dbc}
    {flu : Flu} {ports : Per5 Port} {base : TimeBase} {outbox : List Posting} {pending : List Instr} :
    PlantLaw { s with pec := pec, hlm := hlm, fru := fru, dbc := dbc, flu := flu, ports := ports, base := base,
                      outbox := outbox, pending := pending } := by
  refine Eased.plantLaw (s := s) ?_ law
  exact .of_plant rfl rfl rfl rfl rfl rfl rfl

theorem PlantLaw.foldl {α : Type} {f : State → α → State} {l : List α} {s : State} (law : PlantLaw s)
    (h : ∀ s a, PlantLaw s → PlantLaw (f s a)) : PlantLaw (l.foldl f s) :=
  List.foldlRecOn (motive := PlantLaw) l f law fun t ht a _ => h t a ht

/-! ## Ticks (R2) -/

theorem stepTickEffect_eased (s : State) : Eased s (stepTickEffect s) := by
  obtain ⟨vols, detectors, fru, dbc, reu, h, vol, -, -, regs, -⟩ := stepTickEffect_eq s
  rw [h]
  have same : ∀ v, ((vols.get v).state = (s.vol v).state ∧ (vols.get v).phase = (s.vol v).phase
      ∧ (vols.get v).roughOpen = (s.vol v).roughOpen) := fun v => by
    rw [vol, Vol.stepTick_eq]
    exact ⟨rfl, rfl, rfl⟩
  have rf : ∀ c, (reu.get c).rfOn = true → (s.reuOf c).rfOn = true := fun c => by
    rw [regs, State.reuTick]
    split
    · rw [Reu.stepTick_eq]
      exact id
    · exact id
  exact { Eased.refl s with
    state := fun v => (same v).1, phase := fun v => (same v).2.1, valve := fun v => (same v).2.2, rf := rf }

theorem secondTickEffect_eased (s : State) : Eased s (secondTickEffect s) := by
  obtain ⟨vols, h, vol⟩ := secondTickEffect_eq s
  rw [h]
  refine .of_vols (fun v => ?_) rfl rfl rfl rfl rfl rfl
  have same : State.vol { s with vols := vols } v = s.secondTickVol v := vol v
  rw [same, State.secondTickVol_eq]
  exact ⟨rfl, rfl, rfl⟩

/-! ## Samples (R5 to R16, R143) -/

theorem setGauge_eased (g : Gauge) (x : GaugeChannel) (s : State) : Eased s (s.setGauge g x) :=
  .of_plant rfl rfl rfl rfl rfl rfl rfl

theorem takeSample_eased (g : Gauge) (x : GaugeSample) (s : State) : Eased s (takeSample g x s) := by
  rw [takeSample_eq]
  exact (setGauge_eased g _ s).trans (setFlags_eased _ _ _)

theorem PlantLaw.headerTripChamber {s : State} (law : PlantLaw s) (c : Chamber) : PlantLaw (headerTripChamber s c) := by
  unfold Machine.headerTripChamber
  dsimp only
  split
  · exact law.takeFault _ _
  · exact (setFlag_eased _ _ s).plantLaw law

theorem PlantLaw.tripAsserted {s : State} (law : PlantLaw s) (g : Gauge) : PlantLaw (tripAsserted g s) := by
  cases g with
  | vol v => exact law.takeFault v .pressureTrip
  | manifold => exact (setFlags_eased _ _ s).plantLaw law
  | header =>
    have tripped : PlantLaw { s with hlm := { s.hlm with trip := true } } :=
      law.beside
    exact tripped.foldl fun t c h => h.headerTripChamber c

theorem tripCleared_eased (g : Gauge) (s : State) : Eased s (tripCleared g s) := by
  cases g <;> exact .of_plant rfl rfl rfl rfl rfl rfl rfl

theorem PlantLaw.evalComparator {s : State} (law : PlantLaw s) (g : Gauge) (p : Int) :
    PlantLaw (evalComparator g p s) := by
  unfold Machine.evalComparator
  split
  · dsimp only
    have held := (setGauge_eased g { s.gauge g with asserted := comparatorNext s g (s.gauge g).asserted p } s).plantLaw law
    split
    · exact held.tripAsserted g
    · split
      · exact (tripCleared_eased g _).plantLaw held
      · exact held
  · exact law

theorem sampleWindow_eased (c : Chamber) (s : State) : Eased s (sampleWindow c s) := by
  unfold sampleWindow
  split
  · split
    · exact modVol_eased (.ch c) _ s rfl rfl rfl
    · exact Eased.refl s
  · exact Eased.refl s

theorem sampleVolume_eased (v : Volume) (s : State) : Eased s (sampleVolume v s) := by
  have dropped := dropLoad_eased v s
  cases v with
  | ch c => exact dropped.trans (sampleWindow_eased c _)
  | tc => exact dropped
  | ll l => exact dropped

theorem PlantLaw.pressureSampleEffect {s : State} (law : PlantLaw s) (g : Gauge) (n : Nat) :
    PlantLaw (pressureSampleEffect g n s) := by
  have judged := ((takeSample_eased g (sampleOf s g n) s).plantLaw law).evalComparator g (sampleOf s g n).code
  cases g with
  | vol v => exact (sampleVolume_eased v _).plantLaw judged
  | manifold => exact judged
  | header => exact judged

theorem setDetector_eased (c : Chamber) (x : Detector) (s : State) : Eased s (s.setDetector c x) :=
  .of_plant rfl rfl rfl rfl rfl rfl rfl

theorem judgeSample_eased (c : Chamber) (r : StepRecord) (p : Endpoint) (n : Nat) (s : State) :
    Eased s (judgeSample c r p n s) := by
  unfold judgeSample
  dsimp only
  split
  · split
    · unfold confirmEndpoint
      exact ((setDetector_eased c _ s).trans (setDetector_eased c _ _)).trans (modReu_eased c _ _ id)
    · exact setDetector_eased c _ s
  · split
    · exact setDetector_eased c _ s
    · exact Eased.refl s

theorem emissionSampleEffect_eased (c : Chamber) (n : Nat) (s : State) : Eased s (emissionSampleEffect c n s) := by
  have held : Eased s { s with pec := { s.pec with emission := s.pec.emission.set c (some n) } } :=
    .of_plant rfl rfl rfl rfl rfl rfl rfl
  refine held.trans ?_
  unfold emissionSampleEffect examineSample
  split
  · split
    · split
      · exact Eased.refl _
      · exact judgeSample_eased c _ _ n _
    · exact Eased.refl _
  · exact Eased.refl _

/-! ## The device bus (R120 to R130) -/

theorem setDevice_eased (d : Device) (x : DeviceRow) (s : State) : Eased s (s.setDevice d x) :=
  .of_plant rfl rfl rfl rfl rfl rfl rfl

theorem setCheck_eased (c : Chamber) (k : Chan) (x : FlowCheck) (s : State) : Eased s (s.setCheck c k x) :=
  .of_plant rfl rfl rfl rfl rfl rfl rfl

theorem arbitrate_eased (s : State) : Eased s (arbitrate s) := by
  obtain ⟨b, h⟩ := arbitrate_dbc s
  rw [h]
  exact .of_plant rfl rfl rfl rfl rfl rfl rfl

/-- A channel's row replaced by one that promises no more and covers its target. -/
theorem setRow_eased (c : Chamber) (k : Chan) (x : ChannelRow) (s : State)
    (h : (s.row c k).target ≤ (s.row c k).commitment → x.commitment ≤ (s.row c k).commitment)
    (cover : x.target ≤ x.commitment) (law : (s.row c k).target ≤ (s.row c k).commitment) : Eased s (s.setRow c k x) := by
  have row : ∀ d j, (s.setRow c k x).row d j = if (d, j) = (c, k) then x else s.row d j := fun d j => by
    split
    next e =>
      obtain ⟨rfl, rfl⟩ := Prod.mk.inj e
      exact State.row_setRow_self s d j x
    next ne => exact State.row_setRow_ne s c d k j x ne
  refine { Eased.refl s with commitment := fun d j => ?_, cover := fun d j held => ?_ }
  · rw [row]
    split
    next e =>
      obtain ⟨rfl, rfl⟩ := Prod.mk.inj e
      exact h law
    · exact le_rfl
  · rw [row]
    split
    · exact cover
    · exact held

theorem PlantLaw.finalWrite {s : State} (law : PlantLaw s) (c : Chamber) (k : Chan) : PlantLaw (finalWrite c k s) := by
  unfold Machine.finalWrite
  split
  · have row := setRow_eased c k ⟨(s.row c k).target, (s.row c k).target, false⟩ s id le_rfl (law.cover c k)
    exact ((row.trans (setCheck_eased c k _ _)).trans (headerTest_eased _)).plantLaw law
  · exact law

theorem PlantLaw.releaseChannel {s : State} (law : PlantLaw s) (c : Chamber) (k : Chan) :
    PlantLaw (releaseChannel c k s) := by
  have row := setRow_eased c k ⟨0, 0, false⟩ s (fun _ => Nat.zero_le _) le_rfl (law.cover c k)
  have stopped : Eased (s.setRow c k ⟨0, 0, false⟩)
      ((s.setRow c k ⟨0, 0, false⟩).setGen c k ((s.setRow c k ⟨0, 0, false⟩).gen c k).stop) :=
    .of_plant rfl rfl rfl rfl rfl rfl rfl
  exact (((row.trans stopped).trans (setCheck_eased c k _ _)).trans (headerTest_eased _)).plantLaw law

theorem PlantLaw.setAnswered {s : State} (law : PlantLaw s) (d : Device) (w : PendingWrite) :
    PlantLaw (setAnswered d w s) := by
  have written := (setDevice_eased d { s.device d with written := some w.value, consecutive := 0 } s).plantLaw law
  cases d with
  | mfc c k => exact written.finalWrite c k
  | throttle c => exact written

theorem PlantLaw.deviationCheck {s : State} (law : PlantLaw s) (c : Chamber) (k : Chan) (flow : Nat) :
    PlantLaw (deviationCheck c k flow s) := by
  unfold Machine.deviationCheck
  split
  · dsimp only
    split
    · split
      · exact ((setCheck_eased c k _ s).plantLaw law).failStep _ _
      · exact (setCheck_eased c k _ s).plantLaw law
    · exact (setCheck_eased c k _ s).plantLaw law
  · exact law

theorem PlantLaw.readAnswered {s : State} (law : PlantLaw s) (d : Device) (r : Reading) :
    PlantLaw (readAnswered d r s) := by
  have read := (setDevice_eased d { s.device d with reading := some r, consecutive := 0 } s).plantLaw law
  unfold Machine.readAnswered
  split
  · exact read.deviationCheck _ _ _
  · exact read

theorem PlantLaw.failureStage2 {s : State} (law : PlantLaw s) (d : Device) : PlantLaw (failureStage2 d s) := by
  cases d with
  | mfc c k =>
    have released := law.releaseChannel c k
    have either : ∀ waiting : Bool, PlantLaw (if waiting then Machine.failStep (.ch c) .deviceFailed
        (Machine.releaseChannel c k s) else Machine.releaseChannel c k s) := fun waiting => by
      cases waiting with
      | true => exact released.failStep _ _
      | false => exact released
    exact either _
  | throttle c => exact law

theorem PlantLaw.failDevice {s : State} (law : PlantLaw s) (d : Device) : PlantLaw (failDevice d s) := by
  have failed := ((setDevice_eased d { s.device d with failed := true, pending := none, written := none } s).plantLaw
    law).failureStage2 d
  unfold Machine.failDevice
  dsimp only
  unfold postDeviceFailed
  dsimp only
  have faulted : ∀ t, PlantLaw t →
      PlantLaw (if t.fitted (.ch d.chamber) then post [.cc d.chamber]
        ⟨.deviceFailed, d.chamber.num, (s.vol (.ch d.chamber)).currentTag, 0, d.addr, 0⟩ t else t) := fun t h => by
    split
    · exact (post_eased _ _ t).plantLaw h
    · exact h
  refine faulted _ ?_
  split
  · exact failed.takeFault _ _
  · exact (setFlag_eased _ _ _).plantLaw failed

theorem PlantLaw.countNoAnswer {s : State} (law : PlantLaw s) (d : Device) : PlantLaw (countNoAnswer d s) := by
  unfold Machine.countNoAnswer
  dsimp only
  split
  · exact ((setDevice_eased d _ s).plantLaw law).failDevice d
  · exact (setDevice_eased d _ s).plantLaw law

theorem PlantLaw.noAnswer {s : State} (law : PlantLaw s) (t : Transaction) : PlantLaw (noAnswer t s) := by
  unfold Machine.noAnswer
  split
  · exact ((setDevice_eased t.device _ s).plantLaw law).countNoAnswer t.device
  · exact law.countNoAnswer t.device

theorem PlantLaw.finishBus {s : State} (law : PlantLaw s) : PlantLaw (finishBus s) := by
  have freed : Eased (Machine.settle settleBound s) (freeBus (Machine.settle settleBound s)) :=
    .of_plant rfl rfl rfl rfl rfl rfl rfl
  exact ((freed.trans (arbitrate_eased _)).trans (flush_eased _)).plantLaw (law.settle settleBound)

theorem PlantLaw.complete {s : State} (law : PlantLaw s) (t : Transaction) {effect : State → State}
    (h : PlantLaw (effect s)) : PlantLaw (complete t effect s) := by
  unfold Machine.complete
  split
  · exact law.finishBus
  · exact h.finishBus

theorem PlantLaw.endUnanswered {s : State} (law : PlantLaw s) : PlantLaw (endUnanswered s) := by
  unfold Machine.endUnanswered
  split
  · exact law.complete _ (law.noAnswer _)
  · exact law

theorem PlantLaw.answerSet {s : State} (law : PlantLaw s) : PlantLaw (answerSet s) := by
  unfold Machine.answerSet
  split
  · split
    · exact law.complete _ (law.setAnswered _ _)
    · exact law
  · exact law

theorem PlantLaw.answerRead {s : State} (law : PlantLaw s) (r : Reading) : PlantLaw (answerRead r s) := by
  unfold Machine.answerRead
  split
  · split
    · split
      · exact law.complete _ (law.readAnswered _ _)
      · exact law
    · exact law
  · exact law

/-! ## Input functions (R84, R88, R110, R134, R153, R154) -/

theorem PlantLaw.permitLoss {s : State} (law : PlantLaw s) (c : Chamber) : PlantLaw (permitLoss c s) := by
  unfold Machine.permitLoss
  dsimp only
  split
  · exact law.takeFault _ _
  · exact (setFlag_eased _ _ s).plantLaw law

theorem PlantLaw.turboLoss {s : State} (law : PlantLaw s) (t : Turbo) : PlantLaw (turboLoss t s) := by
  unfold Machine.turboLoss
  dsimp only
  split
  · exact law.takeFault _ _
  · exact (closeGate_eased _ s).plantLaw law

theorem PlantLaw.emergencyVolume {s : State} (law : PlantLaw s) (v : Volume) : PlantLaw (emergencyVolume s v) := by
  have shut : ∀ t, PlantLaw t → PlantLaw (setVent v false (t.setGate v false)) := fun t h =>
    ((closeGate_eased v t).trans (setVent_eased v false _)).plantLaw h
  unfold Machine.emergencyVolume
  dsimp only
  split
  · exact shut _ (law.takeFault v .emergencyOff)
  · exact shut _ law

theorem PlantLaw.emergencyAsserted {s : State} (law : PlantLaw s) (before : State) :
    PlantLaw (emergencyAsserted before s) := by
  have stopped : PlantLaw (Volume.all.foldl Machine.emergencyVolume s) := law.foldl fun t v h => h.emergencyVolume v
  exact stopped.foldl fun t c h => (setFlag_eased (.ch c) .permitLost t).plantLaw h

theorem PlantLaw.reignites {s : State} {c : Chamber} (law : PlantLaw s) (running : (s.vol (.ch c)).state = .running)
    (phase : (s.vol (.ch c)).phase = .confirm) : PlantLaw
      ((s.modVol (.ch c) fun y => { y with phase := .ignite }).modReu c fun u => { u with confirmCount := 0 }) := by
  have cleared : Cleared (.ch c) s := law.cleared (fun _ => by rw [phase]; rfl) (fun _ => by rw [phase]; rfl)
  have vol := State.vol_modVol_self s (.ch c) fun y => { y with phase := .ignite }
  have state : ((s.modVol (.ch c) fun y => { y with phase := .ignite }).vol (.ch c)).state = .running := by
    rw [vol]; exact running
  have ignites : PlantLaw (s.modVol (.ch c) fun y => { y with phase := .ignite }) := by
    have same : Cleared (.ch c) (s.modVol (.ch c) fun y => { y with phase := .ignite }) :=
      cleared.congr rfl rfl (by rw [vol])
    refine law.runs running (modVol_local _ _ s) (modVol_eventFrame _ _ s)
      (same.stands (atRest_running state) fun d e _ => ?_)
    obtain rfl : c = d := by injection e
    exact ⟨state, .inl (by rw [vol])⟩
  exact (modReu_eased c _ _ id).plantLaw ignites

theorem PlantLaw.plasmaChanged {s : State} (law : PlantLaw s) (c : Chamber) (x : Bool) :
    PlantLaw (plasmaChanged c x s) := by
  unfold Machine.plasmaChanged
  split
  next r step =>
    obtain ⟨running, -⟩ := runningStep_eq_some.1 step
    split
    next confirm => exact law.reignites running confirm.1
    · split
      · exact (modReu_eased c _ s id).plantLaw law
      · exact law
  · exact law

theorem PlantLaw.functionChanged {s : State} (law : PlantLaw s) (f : InputFn) (x : Bool) :
    PlantLaw (functionChanged f x s) := by
  have set : PlantLaw { s with flu := { s.flu with fns := s.flu.fns.set f x } } :=
    law.beside
  cases f with
  | facilityGasOk => exact set.foldl fun t c h => h.permitLoss c
  | exhaustOk => exact set.foldl fun t c h => h.permitLoss c
  | emergencyOff =>
    cases x with
    | true => exact set.emergencyAsserted s
    | false => exact set
  | plasma c => exact set.plasmaChanged c x
  | lid c => exact set
  | turbo t =>
    unfold Machine.functionChanged
    dsimp only
    split
    · exact set.turboLoss t
    · exact set
  | door d => exact set

theorem PlantLaw.recompute {s : State} (law : PlantLaw s) : PlantLaw (recompute s) := by
  refine law.foldl fun t f h => ?_
  unfold updateFunction
  dsimp only
  split
  · exact h
  · exact (h.functionChanged f _).finish

/-! ## Link loss (R58, R161) and the time base (R2) -/

theorem modPort_eased (l : Link) (f : Port → Port) (s : State) : Eased s (s.modPort l f) :=
  .of_plant rfl rfl rfl rfl rfl rfl rfl

theorem PlantLaw.linkLossVolume {s : State} (law : PlantLaw s) (v : Volume) : PlantLaw (linkLossVolume s v) := by
  unfold Machine.linkLossVolume
  split
  · split
    · exact law.takeFault _ _
    · exact ((discard_eased v s).plantLaw law).takeFault _ _
  · exact law

theorem PlantLaw.linkExpiry {s : State} (law : PlantLaw s) (l : Link) : PlantLaw (linkExpiry l s) :=
  (((modPort_eased l Port.expire s).plantLaw law).foldl fun _ v h => h.linkLossVolume v).finish

theorem PlantLaw.tickTransaction {s : State} (law : PlantLaw s) : PlantLaw (tickTransaction s) := by
  unfold Machine.tickTransaction
  split
  · exact law
  next t flying =>
    dsimp only
    have counted : PlantLaw { s with dbc := { s.dbc with inFlight := some { t with count := t.count + 1 } } } :=
      law.beside
    split
    · exact counted.endUnanswered
    · exact counted

theorem PlantLaw.tickSilence {s : State} (law : PlantLaw s) (l : Link) : PlantLaw (tickSilence s l) := by
  unfold Machine.tickSilence
  split
  · exact law
  · dsimp only
    split
    · exact ((modPort_eased l _ s).plantLaw law).linkExpiry l
    · exact (modPort_eased l _ s).plantLaw law

theorem withBase_eased (s : State) (b : TimeBase) : Eased s { s with base := b } := .of_plant rfl rfl rfl rfl rfl rfl rfl

theorem PlantLaw.cascadeStep {s : State} (law : PlantLaw s) : PlantLaw (cascadeStep s) := by
  have settled := ((stepTickEffect_eased s).plantLaw law).settle settleBound
  unfold Machine.cascadeStep
  dsimp only
  split
  · exact ((withBase_eased _ _).trans (flush_eased _)).plantLaw settled
  · exact (((withBase_eased _ _).trans (secondTickEffect_eased _)).plantLaw settled).finish

theorem PlantLaw.sampleTick {s : State} (law : PlantLaw s) : PlantLaw (sampleTick s) := by
  have based : PlantLaw (baseTick s) := by
    unfold baseTick
    split
    · exact (withBase_eased s _).plantLaw law
    · exact ((withBase_eased s _).plantLaw law).cascadeStep
  rw [sampleTick_eq]
  exact based.tickTransaction.foldl fun t l h => h.tickSilence l

end Sys2Proof.Machine
end

section
/-! Requests keep the laws of the shared plant, and with them every step does (R56, R64, R69, R100, R133, R148). -/

namespace Sys2Proof.Machine

open Sys2Proof

/-! ## Volume requests (R22 to R27, R38 to R44) -/

theorem volumeCheck_fitted {l : Link} {n : Nat} {s : State} {v : Volume} (h : volumeCheck l n s = .ok v) :
    s.fitted v = true := by
  unfold volumeCheck at h
  split at h
  · cases h
  · split at h
    · cases h
    next fitted =>
      split at h
      · cases h
      · obtain rfl := Except.ok.inj h
        simpa using fitted

theorem runTest_none {s : State} {v : Volume} (h : runTest s v = none) :
    s.cfg.serving = true ∧ (s.vol v).state = .idle ∧ interlockPasses s v = true := by
  unfold runTest at h
  simp only [ite_eq_iff, reduceCtorEq, and_false, false_or] at h
  obtain ⟨serving, idle, -, passes, -⟩ := h
  exact ⟨by simpa using serving, by simpa using idle, by simpa using passes⟩

theorem resumeTest_none {s : State} {v : Volume} (h : resumeTest s v = none) :
    (s.vol v).state = .hold ∧ interlockPasses s v = true := by
  unfold resumeTest at h
  simp only [ite_eq_iff, reduceCtorEq, and_false, false_or] at h
  obtain ⟨hold, -, passes, -⟩ := h
  exact ⟨by simpa using hold, by simpa using passes⟩

/-- A volume at rest whose interlock test passes starts its queue. -/
theorem PlantLaw.startQueue {s : State} {v : Volume} (law : PlantLaw s) (fitted : s.fitted v = true)
    (serving : s.cfg.serving = true) (stopped : (s.vol v).state ≠ .running) (passes : interlockPasses s v = true) :
    PlantLaw (startQueue v s) :=
  law.started (startSteps_local v _ false s) (startSteps_eventFrame v _ false s)
    (startSteps_stand _ false (law.cleared_of_not_running stopped)) ⟨fitted, serving⟩ fun _ => passes

theorem PlantLaw.onLoad {s : State} (law : PlantLaw s) (l : Link) (n : Nat) (r : RawRecord) :
    PlantLaw (onLoad l n r s).1 := by
  unfold Machine.onLoad
  split
  · exact law
  next v check =>
    split
    · exact law
    · split
      · exact (modVol_eased v (fun x => { x with queue := x.queue ++ [_] }) s rfl rfl rfl).plantLaw law
      · exact (((countOn_eased v _ s).trans (setFlag_eased v .stepOverflow _)).plantLaw law).finish

theorem PlantLaw.onRun {s : State} (law : PlantLaw s) (l : Link) (n : Nat) : PlantLaw (onRun l n s).1 := by
  unfold Machine.onRun
  split
  · exact law
  next v check =>
    split
    · exact law
    next tests =>
      obtain ⟨serving, idle, passes⟩ := runTest_none tests
      exact (law.startQueue (volumeCheck_fitted check) serving (by simp [idle]) passes).finish

theorem PlantLaw.onResume {s : State} (law : PlantLaw s) (l : Link) (n : Nat) : PlantLaw (onResume l n s).1 := by
  unfold Machine.onResume
  split
  · exact law
  next v check =>
    split
    · exact law
    next tests =>
      obtain ⟨hold, passes⟩ := resumeTest_none tests
      obtain ⟨fitted, serving⟩ := law.live (v := v) (by simp [hold])
      exact (law.startQueue fitted serving (by simp [hold]) passes).finish

theorem PlantLaw.onHold {s : State} (law : PlantLaw s) (l : Link) (n : Nat) : PlantLaw (onHold l n s).1 := by
  unfold Machine.onHold
  split
  · exact law
  next v check =>
    split
    next running =>
      have recorded := recordEnd_eased v .stopped none none s
      exact ((recorded.plantLaw law).windDown (atRest_running ((recorded.state v).trans running)) _).finish
    · exact law

theorem PlantLaw.onAbort {s : State} (law : PlantLaw s) (l : Link) (n : Nat) : PlantLaw (onAbort l n s).1 := by
  unfold Machine.onAbort
  split
  · exact law
  next v check =>
    split
    next running =>
      have recorded := (discard_eased v s).trans (recordEnd_eased v .stopped none none (discard v s))
      exact ((recorded.plantLaw law).windDown (atRest_running ((recorded.state v).trans running)) _).finish
    · exact law

theorem PlantLaw.clearHeld {s : State} {v : Volume} (law : PlantLaw s) (hold : (s.vol v).state = .hold) :
    PlantLaw (clearHeld v s) := by
  have drained : s.drained v = true := by
    cases v with
    | ch c => simpa [State.drained] using law.rest c (by simp [atRest, hold])
    | tc => rfl
    | ll l => rfl
  exact law.rests drained (by simp [hold]) (by simp [hold]) (by simp [atRest, Machine.clearHeld])
    ((modVol_local v _ s).trans (post_local v _ _ _)) (EventFrame.refl s) rfl rfl (by simp [Machine.clearHeld]) rfl

theorem PlantLaw.onClear {s : State} (law : PlantLaw s) (l : Link) (n : Nat) : PlantLaw (onClear l n s).1 := by
  unfold Machine.onClear
  split
  · exact law
  next v check =>
    split
    next hold => exact (law.clearHeld hold).finish
    · exact (discard_eased v s).plantLaw law
    · exact law

/-! ## Consents, slits and doors (R109, R147 to R151) -/

theorem PlantLaw.setEnable {s : State} (law : PlantLaw s) (c : Chamber) (x : Bool) : PlantLaw (setEnable c x s) := by
  have eased : Eased s { s with gat := { s.gat with enable := s.gat.enable.set c x } } := { Eased.refl s with gas := rfl }
  have set := eased.plantLaw law
  unfold Machine.setEnable
  dsimp only
  split
  · exact set.permitLoss c
  · exact set

theorem PlantLaw.onGasEnable {s : State} (law : PlantLaw s) (l : Link) (n : Nat) (x : Bool) :
    PlantLaw (onGasEnable l n x s).1 := by
  unfold Machine.onGasEnable
  split
  · exact law
  · split
    · exact law
    · exact (law.setEnable _ x).finish

theorem PlantLaw.onTransferAllow {s : State} (law : PlantLaw s) (l : Link) (n : Nat) (x : Bool) :
    PlantLaw (onTransferAllow l n x s).1 := by
  unfold Machine.onTransferAllow
  split
  · exact law
  next c check =>
    have eased : Eased s { s with tiu := { s.tiu with allow := s.tiu.allow.set c x } } :=
      { Eased.refl s with slit := fun _ => id }
    exact eased.plantLaw law

/-- The laws of a part whose slits and doors alone change. -/
theorem PlantLaw.withTiu {s : State} (law : PlantLaw s) {tiu : Tiu} (opening : openingLaw { s with tiu := tiu }) :
    PlantLaw { s with tiu := tiu } :=
  { load := law.load, rest := law.rest, unfitted := law.unfitted, configuring := law.configuring, source := law.source,
    cover := law.cover, opening := opening
    manifold := fun v => ⟨(law.manifold v).queued, (law.manifold v).granted, (law.manifold v).once, (law.manifold v).valve⟩
    gas := fun c => ⟨(law.gas c).rf, (law.gas c).queued, (law.gas c).once⟩ }

theorem slitTest_none {s : State} {w : Slit} (h : slitTest s w = none) :
    atRest s w.volume = true ∧ atRest s .tc = true ∧ ∀ d, w = .ll d → s.tiu.doors.get d = false := by
  unfold slitTest at h
  simp only [ite_eq_iff, reduceCtorEq, and_false, false_or] at h
  obtain ⟨-, -, rest, shut, -⟩ := h
  have both : atRest s w.volume = true ∧ atRest s .tc = true := by simpa using rest
  refine ⟨both.1, both.2, fun d e => ?_⟩
  subst e
  cases door : s.tiu.doors.get d with
  | false => rfl
  | true => simp [door] at shut

theorem doorTest_none {s : State} {d : Loadlock} (h : doorTest s d = none) :
    atRest s (.ll d) = true ∧ s.tiu.slits.get (.ll d) = false := by
  unfold doorTest at h
  simp only [ite_eq_iff, reduceCtorEq, and_false, false_or] at h
  obtain ⟨-, -, rest, shut, -⟩ := h
  exact ⟨by simpa using rest, by simpa using shut⟩

theorem setSlit_opening {s : State} {w : Slit} (law : openingLaw s) (own : atRest s w.volume = true)
    (tc : atRest s .tc = true) (doors : ∀ d, w = .ll d → s.tiu.doors.get d = false) : openingLaw (setSlit w true s) := by
  obtain ⟨slits, permits⟩ := law
  have slit : ∀ u, u ≠ w → (setSlit w true s).tiu.slits.get u = s.tiu.slits.get u := fun u ne =>
    PerSlit.get_set_ne s.tiu.slits w u true ne
  refine ⟨fun u o => ?_, fun d o => ?_⟩
  · by_cases e : u = w
    · subst e
      exact ⟨own, tc⟩
    · rw [slit u e] at o
      exact slits u o
  · obtain ⟨rest, shut⟩ := permits d o
    refine ⟨rest, ?_⟩
    by_cases e : .ll d = w
    · have closed : s.tiu.doors.get d = false := doors d e.symm
      exact absurd (closed.symm.trans o) Bool.false_ne_true
    · rw [slit _ e]
      exact shut

theorem PlantLaw.onOpenSlit {s : State} (law : PlantLaw s) (l : Link) (n : Nat) : PlantLaw (onOpenSlit l n s).1 := by
  unfold Machine.onOpenSlit
  split
  · exact law
  next w check =>
    split
    · exact law
    · split
      · exact law
      next tests =>
        obtain ⟨own, tc, doors⟩ := slitTest_none tests
        have opened : PlantLaw (setSlit w true s) :=
          (post_eased _ _ _).plantLaw (law.withTiu (setSlit_opening law.opening own tc doors))
        exact opened.finish

theorem PlantLaw.onCloseSlit {s : State} (law : PlantLaw s) (l : Link) (n : Nat) : PlantLaw (onCloseSlit l n s).1 := by
  unfold Machine.onCloseSlit
  split
  · exact law
  next w check =>
    split
    · have shut : ∀ u, (s.tiu.slits.set w false).get u = true → s.tiu.slits.get u = true := fun u o => by
        by_cases e : u = w
        · subst e
          rw [PerSlit.get_set_self] at o
          cases o
        · rwa [PerSlit.get_set_ne s.tiu.slits w u false e] at o
      have eased : Eased s (setSlit w false s) := { Eased.refl s with slit := shut }
      exact (eased.plantLaw law).finish
    · exact law

theorem setDoor_opening {s : State} {d : Loadlock} (law : openingLaw s) (own : atRest s (.ll d) = true)
    (slit : s.tiu.slits.get (.ll d) = false) : openingLaw (setDoor d true s) := by
  obtain ⟨slits, permits⟩ := law
  refine ⟨slits, fun e o => ?_⟩
  by_cases same : e = d
  · subst same
    exact ⟨own, slit⟩
  · exact permits e ((Per2.get_set_ne s.tiu.doors d e true same).symm.trans o)

theorem PlantLaw.onOpenDoor {s : State} (law : PlantLaw s) (l : Link) (n : Nat) : PlantLaw (onOpenDoor l n s).1 := by
  unfold Machine.onOpenDoor
  split
  · exact law
  next d check =>
    split
    · exact law
    · split
      · exact law
      next tests =>
        obtain ⟨own, slit⟩ := doorTest_none tests
        exact law.withTiu (setDoor_opening law.opening own slit)

theorem PlantLaw.onCloseDoor {s : State} (law : PlantLaw s) (l : Link) (n : Nat) : PlantLaw (onCloseDoor l n s).1 := by
  unfold Machine.onCloseDoor
  split
  · exact law
  next d check =>
    have shut : ∀ e, (s.tiu.doors.set d false).get e = true → s.tiu.doors.get e = true := fun e o => by
      by_cases same : e = d
      · subst same
        rw [Per2.get_set_self] at o
        cases o
      · rwa [Per2.get_set_ne s.tiu.doors d e false same] at o
    have eased : Eased s (setDoor d false s) := { Eased.refl s with door := shut }
    exact eased.plantLaw law

/-! ## Conditions, counters and devices (R124, R128, R165 to R167) -/

theorem PlantLaw.onClearConditions {s : State} (law : PlantLaw s) (l : Link) (n : Nat) (mask : Word16) :
    PlantLaw (onClearConditions l n mask s).1 := by
  unfold Machine.onClearConditions
  split
  · exact law
  next v check => exact (modVol_eased v (fun x => x.clearFlags mask) s rfl rfl rfl).plantLaw law

theorem PlantLaw.onResetCounters {s : State} (law : PlantLaw s) (l : Link) (n : Nat) :
    PlantLaw (onResetCounters l n s).1 := by
  unfold Machine.onResetCounters
  split
  · exact (modPort_eased l (fun p => { p with frameErrors := 0, linkDowns := 0 }) s).plantLaw law
  · split
    · exact law
    next v check =>
      have reset := (modVol_eased v (fun x => { x with counters := .reset }) s rfl rfl rfl).plantLaw law
      cases v with
      | ch c => exact (foldl_eased resetNoAnswers (fun t d => setDevice_eased d _ t) (chamberDevices c) _).plantLaw reset
      | tc => exact reset
      | ll d => exact reset

theorem clearDevice_eased (d : Device) (s : State) : Eased s (clearDevice d s) := by
  unfold clearDevice
  dsimp only
  split
  · exact (setDevice_eased d _ s).trans (postWrite_eased d _ _ _)
  · exact (setDevice_eased d _ s).trans (arbitrate_eased _)

theorem PlantLaw.onClearDevice {s : State} (law : PlantLaw s) (l : Link) (a : Nat) : PlantLaw (onClearDevice l a s).1 := by
  unfold Machine.onClearDevice
  split
  · exact law
  · split
    · exact law
    · split
      · exact law
      · exact (clearDevice_eased _ s).plantLaw law

/-! ## Configuration requests (R170 to R174) -/

/-- The laws of a part whose configuration alone changes. -/
theorem PlantLaw.withCfg {s : State} (law : PlantLaw s) {cfg : Cfg}
    (unfitted : ∀ v, State.fitted { s with cfg := cfg } v = false → (s.vol v).state = .idle)
    (configuring : cfg.serving = false → ∀ v, (s.vol v).state = .idle)
    (source : ∀ n, 1 ≤ n → n ≤ 10 →
      State.sourceTotal { s with cfg := cfg } n ≤ State.sourceCapacity { s with cfg := cfg } n) :
    PlantLaw { s with cfg := cfg } :=
  { load := law.load, rest := law.rest, unfitted := unfitted, configuring := configuring, source := source,
    cover := law.cover, opening := law.opening
    manifold := fun v => ⟨(law.manifold v).queued, (law.manifold v).granted, (law.manifold v).once, (law.manifold v).valve⟩
    gas := fun c => ⟨(law.gas c).rf, (law.gas c).queued, (law.gas c).once⟩ }

/-- In CONFIGURING no volume runs, so that the items may change: no chamber holds a commitment. -/
theorem PlantLaw.withItems {s : State} (law : PlantLaw s) (h : s.cfg.serving = false) (items : Items) :
    PlantLaw { s with cfg := { s.cfg with items := items } } := by
  have idle := law.configuring h
  have none : ∀ c k, (s.row c k).commitment = 0 := fun c =>
    (hasCommitment_eq_false_iff s c).1 (law.rest c (by simp [atRest, idle]))
  refine law.withCfg (fun v _ => idle v) (fun _ => idle) fun n _ _ => ?_
  have total : State.sourceTotal { s with cfg := { s.cfg with items := items } } n = 0 := by
    have zero : ∀ c k, (State.row { s with cfg := { s.cfg with items := items } } c k).commitment = 0 := none
    simp [State.sourceTotal, sumChannels, sumChan, zero]
  exact total ▸ Nat.zero_le _

theorem PlantLaw.onWriteConfig {s : State} (law : PlantLaw s) (n i : Nat) (x : Int) : PlantLaw (onWriteConfig n i x s).1 := by
  unfold Machine.onWriteConfig
  split
  · exact law
  next configuring =>
    split
    · have written := law.withItems (by simpa using configuring) (s.items.put n i x)
      unfold writeItem
      dsimp only
      split
      · exact written.recompute
      · exact written
    · exact law

theorem mapPorts_eased (f : Port → Port) (s : State) : Eased s (mapPorts f s) :=
  foldl_eased _ (fun t l => modPort_eased l f t) Link.all s

theorem closingPosts_eased (s : State) : Eased s (closingPosts s) := by
  have posts : Eased s (channels.foldl closingPost s) := foldl_eased closingPost (fun t p => by
    unfold closingPost
    split
    · exact Eased.refl t
    · exact postWrite_eased _ _ _ t) channels s
  exact posts.trans (foldl_eased _ (fun t c => postWrite_eased _ _ _ t) Chamber.all _)

theorem PlantLaw.closingActions {s : State} (law : PlantLaw s) : PlantLaw (closingActions s) :=
  (((closingPosts_eased _).trans (arbitrate_eased _)).trans (mapPorts_eased _ _)).plantLaw law.beside

theorem PlantLaw.enterServing {s : State} (law : PlantLaw s) : PlantLaw (enterServing s) :=
  law.withCfg law.unfitted nofun law.source

theorem PlantLaw.onCloseConfiguration {s : State} (law : PlantLaw s) : PlantLaw (onCloseConfiguration s).1 := by
  unfold Machine.onCloseConfiguration
  split
  · exact law
  · split
    · exact law
    · exact law.enterServing.closingActions

theorem PlantLaw.idle_of_reopenTest {s : State} (law : PlantLaw s) (h : reopenTest s = none) (v : Volume) :
    (s.vol v).state = .idle := by
  unfold reopenTest at h
  simp only [ite_eq_iff, reduceCtorEq, and_false, false_or] at h
  obtain ⟨-, idle, -⟩ := h
  have all : Volume.all.all (fun v => !s.fitted v || (s.vol v).state == .idle) = true :=
    Bool.not_eq_false _ ▸ fun e => idle (by rw [e]; rfl)
  have own := List.all_eq_true.1 all v (Volume.mem_all v)
  cases fitted : s.fitted v with
  | false => exact law.unfitted v fitted
  | true => simpa [fitted] using own

theorem PlantLaw.forceInactive {s : State} (law : PlantLaw s) (g : Gauge) : PlantLaw (forceInactive s g) := by
  unfold Machine.forceInactive
  split
  · exact ((setGauge_eased g _ s).trans (tripCleared_eased g _)).plantLaw law
  · exact law

theorem PlantLaw.reopen {s : State} (law : PlantLaw s) (idle : ∀ v, (s.vol v).state = .idle) : PlantLaw (reopen s) := by
  have discarded : Eased s (Volume.all.foldl (fun s v => discard v s) s) := foldl_eased _ (fun t v => discard_eased v t) _ s
  have configuring : PlantLaw { Volume.all.foldl (fun s v => discard v s) s with
      cfg := { (Volume.all.foldl (fun s v => discard v s) s).cfg with serving := false } } :=
    (discarded.plantLaw law).withCfg (discarded.plantLaw law).unfitted
      (fun _ v => (discarded.state v).trans (idle v)) (discarded.plantLaw law).source
  have forced := (configuring.foldl (l := Gauge.all) fun t g h => h.forceInactive g)
  exact ((foldl_eased _ (fun t v => (closeGate_eased v t).trans (setVent_eased v false _)) Volume.all _).trans
    (mapPorts_eased _ _)).plantLaw forced.beside

theorem PlantLaw.onReopenConfiguration {s : State} (law : PlantLaw s) : PlantLaw (onReopenConfiguration s).1 := by
  unfold Machine.onReopenConfiguration
  split
  · exact law
  next tests => exact (law.reopen (law.idle_of_reopenTest tests)).finish

/-- A state with its plant at its power-on values obeys the laws, whatever its items. -/
theorem plantLaw_of_reset {s : State} (vols : s.vols = .fill .reset) (rma : s.rma = .reset) (gat : s.gat = .reset)
    (reu : s.reu = .fill .reset) (tiu : s.tiu = .reset) : PlantLaw s := by
  have vol : ∀ v, s.vol v = .reset := fun v => by rw [State.vol, vols, Per7.get_fill]
  have row : ∀ c k, s.row c k = .reset := fun c k => by rw [State.row, gat, Gat.reset, Per4.getK_fill]
  have dark : ∀ c, (s.reuOf c).rfOn = false := fun c => by rw [State.reuOf, reu, Per4.get_fill]; rfl
  have cleared : ∀ v, Cleared v s := fun v =>
    ⟨by rw [rma]; exact List.not_mem_nil, by rw [rma]; exact nofun, by rw [vol]; rfl, by rw [gat]; exact nofun⟩
  refine ⟨by rw [rma]; decide, fun v => (cleared v).manifoldLaw,
    fun c => (cleared (.ch c)).gasLaw fun on => absurd ((dark c).symm.trans on) Bool.false_ne_true, fun c _ => ?_,
    fun v _ => by rw [vol]; rfl, fun _ v => by rw [vol]; rfl, fun n _ _ => ?_, fun c k => by rw [row]; exact le_rfl,
    fun w o => ?_, fun d o => ?_⟩
  · exact (hasCommitment_eq_false_iff s c).2 fun k => by rw [row]; rfl
  · have total : s.sourceTotal n = 0 := by simp [State.sourceTotal, sumChannels, sumChan, row, ChannelRow.reset]
    exact total ▸ Nat.zero_le _
  · simp [tiu, Tiu.reset] at o
  · simp [tiu, Tiu.reset] at o

theorem PlantLaw.onRestart {s : State} (law : PlantLaw s) : PlantLaw (onRestart s).1 := by
  unfold Machine.onRestart
  split
  · exact law
  · exact (plantLaw_of_reset (s := restartBlocks s) rfl rfl rfl rfl rfl).closingActions

/-! ## Every request and every frame (R158 to R160) -/

theorem PlantLaw.serve {s : State} (law : PlantLaw s) (l : Link) (req : Request) : PlantLaw (serve l req s).1 := by
  cases req with
  | load v r => exact law.onLoad l v r
  | run v => exact law.onRun l v
  | hold v => exact law.onHold l v
  | resume v => exact law.onResume l v
  | clear v => exact law.onClear l v
  | abort v => exact law.onAbort l v
  | gasEnable c x => exact law.onGasEnable l c x
  | transferAllow c x => exact law.onTransferAllow l c x
  | openSlit v => exact law.onOpenSlit l v
  | closeSlit v => exact law.onCloseSlit l v
  | openDoor v => exact law.onOpenDoor l v
  | closeDoor v => exact law.onCloseDoor l v
  | readNotice => exact (modPort_eased l _ s).plantLaw law
  | clearConditions v m => exact law.onClearConditions l v m
  | resetCounters v => exact law.onResetCounters l v
  | clearDevice a => exact law.onClearDevice l a
  | setNoticeMask m => exact (modPort_eased l (fun p => { p with mask := m.setWidth 7 }) s).plantLaw law
  | writeConfig n i x => exact law.onWriteConfig n i x
  | closeConfiguration => exact law.onCloseConfiguration
  | reopenConfiguration => exact law.onReopenConfiguration
  | restart => exact law.onRestart
  | _ => exact law

theorem PlantLaw.take {s : State} (law : PlantLaw s) (l : Link) (req : Request) : PlantLaw (take l req s).1 := by
  unfold Machine.take
  split
  · exact law.serve l req
  · exact law

theorem PlantLaw.request {s : State} (law : PlantLaw s) (l : Link) (tag : Byte) (req : Request) :
    PlantLaw (request l tag req s) := by
  have heard : PlantLaw (hear l s) := (modPort_eased l _ s).plantLaw law
  unfold Machine.request
  exact (modPort_eased l _ _).plantLaw (heard.take l req)

theorem PlantLaw.takeBody {s : State} (law : PlantLaw s) (l : Link) (body : List Byte) : PlantLaw (takeBody l body s).1 := by
  unfold Machine.takeBody
  split
  · split
    · exact law.take l _
    · exact law
  · exact law

theorem PlantLaw.goodFrame {s : State} (law : PlantLaw s) (l : Link) (body : List Byte) : PlantLaw (goodFrame l body s) := by
  have heard : PlantLaw (hear l s) := (modPort_eased l _ s).plantLaw law
  unfold Machine.goodFrame
  dsimp only
  split
  · exact (modPort_eased l _ _).plantLaw heard
  · exact (modPort_eased l _ _).plantLaw (heard.takeBody l body)

/-! ## Every step -/

theorem PlantLaw.exec {s : State} (law : PlantLaw s) (i : Instr) : ∃ t, exec i s = .next t ∧ PlantLaw t := by
  have due : ∀ {o : Option State}, Leads (Move s) o → PlantLaw (Machine.whenDue o s) := fun h =>
    law.whenDue (h.mono fun _ => .inl)
  cases i with
  | powerOn => exact ⟨_, rfl, plantLaw_of_reset rfl rfl rfl rfl rfl⟩
  | stepTick => exact ⟨_, rfl, ((stepTickEffect_eased s).plantLaw law).finish⟩
  | secondTick => exact ⟨_, rfl, ((secondTickEffect_eased s).plantLaw law).finish⟩
  | pressureSample g n => exact ⟨_, rfl, (law.pressureSampleEffect g n).finish⟩
  | emissionSample c n => exact ⟨_, rfl, ((emissionSampleEffect_eased c n s).plantLaw law).finish⟩
  | auxSample a n => exact ⟨_, rfl, law.beside⟩
  | tripBlankingEnd => exact ⟨_, rfl, law.beside⟩
  | roughGrant => exact ⟨_, rfl, due (grantHead?_moves s)⟩
  | roughValveOpen v => exact ⟨_, rfl, due (openValve?_moves v s)⟩
  | stallCheck v => exact ⟨_, rfl, law.whenDue (stallCheck?_moves v s)⟩
  | stepLimitExpiry v => exact ⟨_, rfl, due (stepLimitExpiry?_moves v s)⟩
  | admissionLimitExpiry v => exact ⟨_, rfl, due (admissionLimitExpiry?_moves v s)⟩
  | dwellComplete v => exact ⟨_, rfl, due (dwellComplete?_moves v s)⟩
  | overhangEnd v => exact ⟨_, rfl, due (overhangEnd?_moves v s)⟩
  | settleComplete c => exact ⟨_, rfl, due (settleComplete?_moves c s)⟩
  | transitionEnd c => exact ⟨_, rfl, due (transitionEnd?_moves c s)⟩
  | strikeConfirmed c => exact ⟨_, rfl, due (strikeConfirmed?_moves c s)⟩
  | strikeTimeout c => exact ⟨_, rfl, due (strikeTimeout?_moves c s)⟩
  | retryPauseEnd c => exact ⟨_, rfl, due (retryPauseEnd?_moves c s)⟩
  | dropoutLimitExceeded c => exact ⟨_, rfl, due (dropoutLimitExceeded?_moves c s)⟩
  | gatedTimeEnd c => exact ⟨_, rfl, due (gatedTimeEnd?_moves c s)⟩
  | windDownEnd v => exact ⟨_, rfl, due (windDownEnd?_moves v s)⟩
  | gasAdmission => exact ⟨_, rfl, due (gasAdmission?_moves s)⟩
  | transactionStart => exact ⟨_, rfl, (arbitrate_eased s).plantLaw law⟩
  | setGoodAnswer => exact ⟨_, rfl, law.answerSet⟩
  | readGoodAnswer r => exact ⟨_, rfl, law.answerRead r⟩
  | busBadAnswer => exact ⟨_, rfl, law.endUnanswered⟩
  | responseTimeout => exact ⟨_, rfl, law.endUnanswered⟩
  | strayAnswer => exact ⟨_, rfl, law⟩
  | inputLineRead levels => exact ⟨_, rfl, law.beside.recompute⟩
  | frameReceived l body check =>
    refine ⟨_, rfl, ?_⟩
    split
    · exact law.goodFrame l body
    · exact (modPort_eased l _ s).plantLaw law
  | frameDiscard l => exact ⟨_, rfl, (modPort_eased l _ s).plantLaw law⟩
  | frameGapTimeout l =>
    refine ⟨_, rfl, ?_⟩
    split
    · exact (modPort_eased l _ s).plantLaw law
    · exact law
  | replySent l => exact ⟨_, rfl, (modPort_eased l _ s).plantLaw law⟩
  | linkExpiry l =>
    refine ⟨_, rfl, ?_⟩
    unfold expireIfRunning
    split
    · exact law.linkExpiry l
    · exact law
  | startCharacter l => exact ⟨_, rfl, (modPort_eased l _ s).plantLaw law⟩
  | _ => exact ⟨_, rfl, law.request _ _ _⟩

/-- Settles O10: every event either asks no more of the plant, or moves one volume within the laws of its own plant, or admits a
gas request that its sources can bear. -/
theorem plantLawKept : Obligations.PlantLawKept := by
  intro s t h taken
  have law := (plantLaw_iff s).1 h
  refine (plantLaw_iff t).2 ?_
  unfold step at taken
  split at taken
  next i rest pending =>
    have waiting : PlantLaw { s with pending := rest } := law.beside
    obtain ⟨u, next, kept⟩ := waiting.exec i
    rw [next] at taken
    exact Host.Outcome.next.inj taken ▸ kept
  next idle => exact Host.Outcome.next.inj taken ▸ law.sampleTick

end Sys2Proof.Machine
end

section
/-! The used load of the rough manifold (R64): everything but a rough grant leaves it or lowers it, whatever state the rest of
the part is in (R66, R71, R74). -/

namespace Sys2Proof.Machine

open Sys2Proof

/-! ## Wind-down, failures and faults (R52 to R55) -/

theorem roughLoadLaw.of_rma {s t : State} (h : roughLoadLaw s) (same : t.rma = s.rma) : roughLoadLaw t := by
  unfold roughLoadLaw at h ⊢
  rwa [same]

theorem Eased.roughLoadLaw {s t : State} (e : Eased s t) (h : roughLoadLaw s) : roughLoadLaw t := e.load.trans h

/-- A state without grants has the whole manifold to give. -/
theorem roughLoadLaw_of_reset {s : State} (h : s.rma = .reset) : roughLoadLaw s := by
  unfold roughLoadLaw
  rw [h]
  exact Nat.zero_le 4

theorem roughLoadLaw.foldl {α : Type} {f : State → α → State} {l : List α} {s : State} (h : roughLoadLaw s)
    (keeps : ∀ s a, roughLoadLaw s → roughLoadLaw (f s a)) : roughLoadLaw (l.foldl f s) :=
  List.foldlRecOn (motive := roughLoadLaw) l f h fun t ht a _ => keeps t a ht

theorem roughLoadLaw.releaseRough {s : State} (h : roughLoadLaw s) (v : Volume) : roughLoadLaw (releaseRough v s) :=
  (used_filter_le v s.rma.grants).trans h

theorem roughLoadLaw.windDown {s : State} (h : roughLoadLaw s) (v : Volume) (r : Option HoldRecord) :
    roughLoadLaw (windDown v r s) := by
  unfold Machine.roughLoadLaw
  rw [windDown_rma]
  exact (used_filter_le v s.rma.grants).trans h

theorem failed_eased (v : Volume) (f : FailKind) (s : State) : Eased s (failed v f s) :=
  ((recordEnd_eased v _ _ _ s).trans (setFlag?_eased v _ _)).trans (countOn_eased v _ _)

theorem roughLoadLaw.failStep {s : State} (h : roughLoadLaw s) (v : Volume) (f : FailKind) :
    roughLoadLaw (failStep v f s) := by
  have failed : Machine.roughLoadLaw (failed v f s) := (failed_eased v f s).roughLoadLaw h
  rcases failStep_cases v f s with e | ⟨r, -, -, ⟨-, e⟩ | ⟨-, e⟩⟩ <;> rw [e]
  · exact h
  · exact failed.windDown v _
  · exact ((discard_eased v _).roughLoadLaw failed).windDown v _

theorem roughLoadLaw.takeFault {s : State} (h : roughLoadLaw s) (v : Volume) (k : HoldCause) :
    roughLoadLaw (takeFault v k s) := by
  unfold Machine.takeFault
  split
  · have flagged := (setFlag?_eased v k.flag s).roughLoadLaw h
    dsimp only
    split
    · exact ((recordEnd_eased v _ _ _ _).roughLoadLaw flagged).windDown v _
    · split
      · exact (closeGate_eased v _).roughLoadLaw flagged
      · exact flagged
    · exact flagged
    · exact flagged
    · exact flagged
  · exact h

/-! ## Starts and completions of steps (R45, R49) -/

theorem roughLoadLaw.setGate {s : State} (h : roughLoadLaw s) (v : Volume) (x : Bool) : roughLoadLaw (s.setGate v x) :=
  h.of_rma (setGate_rma v x s)

theorem roughLoadLaw.requestGas {c : Chamber} {s : State} (h : roughLoadLaw s) (flows : List FlowEntry) :
    roughLoadLaw (requestGas c flows s) := by
  unfold Machine.requestGas
  split
  · exact h.failStep _ _
  · exact h

theorem roughLoadLaw.startPump {v : Volume} {s : State} (h : roughLoadLaw s) (r : StepRecord) :
    roughLoadLaw (startPump v r s).state := by
  unfold Machine.startPump
  dsimp only
  have shut : Machine.roughLoadLaw (setVent v false s) := h
  split
  · exact h.failStep v _
  split
  · exact h
  split
  · exact roughLoadLaw.setGate (s := (setVent v false s).modVol v fun x => { x with phase := .highPump }) h v true
  have closed := shut.setGate v false
  split
  · split
    · exact closed
    · exact closed
  · exact closed

theorem roughLoadLaw.enterFill {v : Volume} {s : State} (h : roughLoadLaw s) (r : StepRecord) :
    roughLoadLaw (enterFill v r s) := by
  cases v with
  | ch c => exact roughLoadLaw.requestGas (s := s.modVol (.ch c) fun x => { x with phase := .waitGas }) h r.flows
  | tc => exact h
  | ll l => exact h

theorem roughLoadLaw.purgeFrom {v : Volume} (r : StepRecord) (n : Nat) {s : State} (h : roughLoadLaw s) :
    roughLoadLaw (purgeFrom v r n s).state := by
  induction n generalizing s with
  | zero => exact h
  | succ n ih =>
    unfold Machine.purgeFrom
    dsimp only
    split
    · split
      · exact h
      split
      · exact ih h
      · refine roughLoadLaw.enterFill ?_ r
        exact h
    · exact h

theorem roughLoadLaw.beginCycle {v : Volume} {s : State} (h : roughLoadLaw s) (r : StepRecord) :
    roughLoadLaw (beginCycle v r s).state := by
  unfold Machine.beginCycle
  dsimp only
  split
  · exact roughLoadLaw.purgeFrom r _ h
  · refine roughLoadLaw.enterFill ?_ r
    exact h

theorem enterEtch_rma (c : Chamber) (r : StepRecord) (s : State) : (enterEtch c r s).rma = s.rma := by
  unfold enterEtch
  dsimp only
  split <;> rfl

theorem roughLoadLaw.startGasKind {c : Chamber} {s : State} (h : roughLoadLaw s) (r : StepRecord) (carry : Bool) :
    roughLoadLaw (startGasKind c r carry s) := by
  obtain ⟨w, waits, carries, -⟩ := startGasKind_windows c r s
  cases carry with
  | true =>
    rw [carries]
    refine roughLoadLaw.requestGas (roughLoadLaw.of_rma ?_ (enterEtch_rma c r _)) r.flows
    exact h
  | false =>
    rw [waits]
    refine roughLoadLaw.requestGas ?_ r.flows
    exact h

theorem roughLoadLaw.enterKind {v : Volume} {s : State} (h : roughLoadLaw s) (r : StepRecord) (carry : Bool) :
    roughLoadLaw (enterKind v r carry s).state := by
  have gas : roughLoadLaw
      (match v with | .ch c => Started.stands (Machine.startGasKind c r carry s) | _ => .stands s).state := by
    cases v with
    | ch c => exact h.startGasKind r carry
    | tc => exact h
    | ll l => exact h
  unfold Machine.enterKind
  split
  · exact h.startPump r
  · exact h.setGate v false
  · exact (h.setGate v false).beginCycle r
  · exact h
  · exact gas
  · exact gas
  · exact gas

theorem begun_rma (v : Volume) (r : StepRecord) (rest : List StepRecord) (b : Bool) (s : State) :
    (begun v r rest b s).rma = s.rma := by
  cases v with
  | ch c =>
    obtain ⟨rows, fru, dbc, e⟩ := startChamberPlant_frame c r b
      (s.modVol (.ch c) fun x => x.begin r rest (s.items.stepLimit.get (.ch c)).toNat)
    rw [begun, e]
    rfl
  | tc => rfl
  | ll l => rfl

theorem roughLoadLaw.startStep {v : Volume} {s : State} (h : roughLoadLaw s) (r : StepRecord) (rest : List StepRecord)
    (carry : Bool) : roughLoadLaw (startStep v r rest carry s).state := by
  rw [startStep_eq]
  exact (h.of_rma (begun_rma v r rest _ s)).enterKind r _

theorem roughLoadLaw.startSteps {v : Volume} (l : List StepRecord) (carry : Bool) {s : State} (h : roughLoadLaw s) :
    roughLoadLaw (startSteps v l carry s) := by
  induction l generalizing s carry with
  | nil => exact (((setFlag_eased v .underflow s).trans (countOn_eased v _ _)).roughLoadLaw h).windDown v _
  | cons r rest ih =>
    have started := h.startStep (v := v) r rest carry
    unfold Machine.startSteps
    cases start : Machine.startStep v r rest carry s with
    | stands t =>
      rw [start] at started
      exact started
    | completes t =>
      rw [start] at started
      have recorded := (recordEnd_eased v .completed none none t).roughLoadLaw started
      dsimp only
      split
      · exact recorded.windDown v _
      · exact ih false recorded

theorem completed_rma (v : Volume) (n : Option Note) (s : State) : (completed v n s).rma = s.rma :=
  (recordEnd_plant v _ _ _ _).1.trans (by cases v <;> rfl)

theorem roughLoadLaw.completeStep {s : State} (h : roughLoadLaw s) (v : Volume) (n : Option Note) :
    roughLoadLaw (completeStep v n s) := by
  have completed := h.of_rma (completed_rma v n s)
  by_cases running : (s.vol v).state = .running
  · cases current : (s.vol v).current with
    | none =>
      rw [completeStep_idle n (.inr current)]
      exact h
    | some r =>
      rw [completeStep_running n running current]
      split
      · exact completed.windDown v _
      · exact roughLoadLaw.startSteps _ _ completed
  · rw [completeStep_idle n (.inl running)]
    exact h

theorem roughLoadLaw.settleStart {x : Started} (h : roughLoadLaw x.state) (v : Volume) : roughLoadLaw (x.settle v) := by
  cases x with
  | stands s => exact h
  | completes s => exact roughLoadLaw.completeStep h v none

/-! ## What follows within an event -/

theorem roughLoadLaw.stallRetry {s : State} (h : roughLoadLaw s) (v : Volume) : roughLoadLaw (stallRetry v s) :=
  ((retried_eased v s).roughLoadLaw h).releaseRough v

theorem strikeRetry_rma (c : Chamber) (s : State) : (strikeRetry c s).rma = s.rma := by
  obtain ⟨a, h⟩ := countOn_eq (.ch c) Counters.countStrikeRetry (setFlag (.ch c) .strikeRetry (struck c s))
  obtain ⟨b, d, k⟩ := setFlag_eq (.ch c) .strikeRetry (struck c s)
  rw [strikeRetry_eq, h, k]
  rfl

theorem afterTransition_rma (c : Chamber) (r : StepRecord) (s : State) : (afterTransition c r s).rma = s.rma := by
  unfold afterTransition
  split
  · rfl
  · exact enterEtch_rma c r s
  · rfl

theorem roughLoadLaw.endRough {s : State} (h : roughLoadLaw s) (v : Volume) (r : StepRecord) :
    roughLoadLaw (endRough v r s) := by
  have released := h.releaseRough v
  unfold Machine.endRough
  dsimp only
  split
  · exact released
  · exact released.completeStep v none

theorem roughLoadLaw.endFill {s : State} (h : roughLoadLaw s) (v : Volume) (r : StepRecord) :
    roughLoadLaw (endFill v r s) := by
  rw [endFill_eq]
  exact (roughLoadLaw.purgeFrom r _ ((fillClosed_eased v r s).roughLoadLaw h)).settleStart v

theorem roughLoadLaw.endPumpBack {s : State} (h : roughLoadLaw s) (v : Volume) (r : StepRecord) :
    roughLoadLaw (endPumpBack v r s) := by
  have pumped : Machine.roughLoadLaw (pumpedBack v s) := h.releaseRough v
  rw [endPumpBack_eq]
  split
  · exact pumped.completeStep v none
  · exact (pumped.beginCycle r).settleStart v

/-- An opened rough valve changes no load field. -/
theorem opened_used (v : Volume) (p : Int) (s : State) : (opened v p s).rma.used = s.rma.used :=
  congrArg List.sum (openedGrants_map v s _ fun _ => rfl)

theorem granted_used (v : Volume) (rest : List Volume) (s : State) :
    (granted v rest s).rma.used = s.rma.used + (prospectiveLoad s v).units := by
  simp [granted, Rma.used]

/-- The one move that takes load is a grant, and it takes what fits (R68). -/
theorem Move.roughLoadLaw {s t : State} (move : Move s t) (h : roughLoadLaw s) : roughLoadLaw t := by
  cases move with
  | completes v n => exact h.completeStep v n
  | closes v => exact roughLoadLaw.completeStep (s := setVent v false s) h v none
  | fails v f => exact h.failStep v f
  | renews => exact h
  | retries v => exact h.stallRetry v
  | strikes c => exact h.of_rma (strikeRetry_rma c s)
  | relights => exact h
  | idles => exact h
  | holds => exact h
  | transits c r => exact h.of_rma (afterTransition_rma c r s)
  | lights => exact h
  | highPumps v => exact h.of_rma (setGate_rma v true _)
  | roughs v r => exact h.endRough v r
  | vents => exact h
  | fills v r => exact h.endFill v r
  | pumps v r => exact h.endPumpBack v r
  | opens v _ p => exact (opened_used v p s).trans_le h
  | grants v rest _ fits => exact (granted_used v rest s).trans_le fits
  | admits e => exact h.of_rma (admitEntry_plant e s).1

theorem roughLoadLaw.settle {s : State} (h : roughLoadLaw s) (n : Nat) : roughLoadLaw (settle n s) :=
  settle_keeps (fun _ _ move => move.roughLoadLaw) n h

theorem roughLoadLaw.finish {s : State} (h : roughLoadLaw s) : roughLoadLaw (finish s) :=
  (flush_eased _).roughLoadLaw (h.settle settleBound)

theorem roughLoadLaw.whenDue {s : State} {o : Option State} (h : roughLoadLaw s)
    (due : Leads (fun t => Move s t ∨ t = s) o) : roughLoadLaw (whenDue o s) := by
  unfold Machine.whenDue
  split
  next t =>
    rcases due t rfl with move | same
    · exact (move.roughLoadLaw h).finish
    · exact (same ▸ h).finish
  · exact h

end Sys2Proof.Machine
end

section
/-! Samples, ticks, the device bus, the field lines, the links and the requests keep the used load of the rough manifold, and
with them every step does (R64, R66, R68). -/

namespace Sys2Proof.Machine

open Sys2Proof

/-! ## Samples (R5 to R16) -/

theorem roughLoadLaw.tripAsserted {s : State} (h : roughLoadLaw s) (g : Gauge) : roughLoadLaw (tripAsserted g s) := by
  cases g with
  | vol v => exact h.takeFault v .pressureTrip
  | manifold => exact (setFlags_eased _ _ s).roughLoadLaw h
  | header =>
    refine roughLoadLaw.foldl h fun t c k => ?_
    unfold headerTripChamber
    dsimp only
    split
    · exact k.takeFault _ _
    · exact (setFlag_eased _ _ t).roughLoadLaw k

theorem roughLoadLaw.evalComparator {s : State} (h : roughLoadLaw s) (g : Gauge) (p : Int) :
    roughLoadLaw (evalComparator g p s) := by
  unfold Machine.evalComparator
  split
  · dsimp only
    split
    · exact roughLoadLaw.tripAsserted (s := s.setGauge g _) h g
    · split
      · exact (tripCleared_eased g _).roughLoadLaw h
      · exact h
  · exact h

theorem roughLoadLaw.pressureSampleEffect {s : State} (h : roughLoadLaw s) (g : Gauge) (n : Nat) :
    roughLoadLaw (pressureSampleEffect g n s) := by
  have judged := ((takeSample_eased g (sampleOf s g n) s).roughLoadLaw h).evalComparator g (sampleOf s g n).code
  cases g with
  | vol v => exact (sampleVolume_eased v _).roughLoadLaw judged
  | manifold => exact judged
  | header => exact judged

/-! ## The device bus (R120 to R130) -/

theorem roughLoadLaw.setAnswered {s : State} (h : roughLoadLaw s) (d : Device) (w : PendingWrite) :
    roughLoadLaw (setAnswered d w s) := by
  cases d with
  | mfc c k =>
    unfold Machine.setAnswered
    dsimp only
    unfold finalWrite
    split
    · exact (headerTest_eased _).roughLoadLaw h
    · exact h
  | throttle c => exact h

theorem roughLoadLaw.deviationCheck {s : State} (h : roughLoadLaw s) (c : Chamber) (k : Chan) (flow : Nat) :
    roughLoadLaw (deviationCheck c k flow s) := by
  unfold Machine.deviationCheck
  split
  · dsimp only
    split
    · split
      · exact roughLoadLaw.failStep (s := s.setCheck c k _) h _ _
      · exact h
    · exact h
  · exact h

theorem roughLoadLaw.readAnswered {s : State} (h : roughLoadLaw s) (d : Device) (r : Reading) :
    roughLoadLaw (readAnswered d r s) := by
  unfold Machine.readAnswered
  dsimp only
  split
  · exact roughLoadLaw.deviationCheck (s := s.setDevice _ _) h _ _ _
  · exact h

theorem roughLoadLaw.failureStage2 {s : State} (h : roughLoadLaw s) (d : Device) : roughLoadLaw (failureStage2 d s) := by
  cases d with
  | mfc c k =>
    have released : roughLoadLaw (releaseChannel c k s) := (headerTest_eased _).roughLoadLaw h
    have either : ∀ waiting : Bool, roughLoadLaw (if waiting then Machine.failStep (.ch c) .deviceFailed
        (releaseChannel c k s) else releaseChannel c k s) := fun waiting => by
      cases waiting with
      | true => exact released.failStep _ _
      | false => exact released
    exact either _
  | throttle c => exact h

theorem postDeviceFailed_rma (d : Device) (tag : Nat) (s : State) : (postDeviceFailed d tag s).rma = s.rma := by
  unfold postDeviceFailed
  dsimp only
  split <;> rfl

theorem roughLoadLaw.failDevice {s : State} (h : roughLoadLaw s) (d : Device) : roughLoadLaw (failDevice d s) := by
  have failed := roughLoadLaw.failureStage2
    (s := s.setDevice d { s.device d with failed := true, pending := none, written := none }) h d
  unfold Machine.failDevice
  dsimp only
  refine roughLoadLaw.of_rma ?_ (postDeviceFailed_rma _ _ _)
  split
  · exact failed.takeFault _ _
  · exact (setFlag_eased _ _ _).roughLoadLaw failed

theorem roughLoadLaw.countNoAnswer {s : State} (h : roughLoadLaw s) (d : Device) : roughLoadLaw (countNoAnswer d s) := by
  unfold Machine.countNoAnswer
  dsimp only
  split
  · exact roughLoadLaw.failDevice (s := s.setDevice d _) h d
  · exact h

theorem roughLoadLaw.noAnswer {s : State} (h : roughLoadLaw s) (t : Transaction) : roughLoadLaw (noAnswer t s) := by
  unfold Machine.noAnswer
  split
  · exact roughLoadLaw.countNoAnswer (s := s.setDevice t.device _) h t.device
  · exact h.countNoAnswer t.device

theorem roughLoadLaw.complete {s : State} (h : roughLoadLaw s) (t : Transaction) {effect : State → State}
    (k : roughLoadLaw (effect s)) : roughLoadLaw (complete t effect s) := by
  have freed : ∀ u, roughLoadLaw u → roughLoadLaw (finishBus u) := fun u r =>
    ((arbitrate_eased _).trans (flush_eased _)).roughLoadLaw (s := freeBus (Machine.settle settleBound u)) (r.settle settleBound)
  unfold Machine.complete
  split
  · exact freed _ h
  · exact freed _ k

theorem roughLoadLaw.endUnanswered {s : State} (h : roughLoadLaw s) : roughLoadLaw (endUnanswered s) := by
  unfold Machine.endUnanswered
  split
  · exact h.complete _ (h.noAnswer _)
  · exact h

theorem roughLoadLaw.answerSet {s : State} (h : roughLoadLaw s) : roughLoadLaw (answerSet s) := by
  unfold Machine.answerSet
  split
  · split
    · exact h.complete _ (h.setAnswered _ _)
    · exact h
  · exact h

theorem roughLoadLaw.answerRead {s : State} (h : roughLoadLaw s) (r : Reading) : roughLoadLaw (answerRead r s) := by
  unfold Machine.answerRead
  split
  · split
    · split
      · exact h.complete _ (h.readAnswered _ _)
      · exact h
    · exact h
  · exact h

/-! ## Input functions (R84, R88, R110, R134, R153, R154) -/

theorem roughLoadLaw.permitLoss {s : State} (h : roughLoadLaw s) (c : Chamber) : roughLoadLaw (permitLoss c s) := by
  unfold Machine.permitLoss
  dsimp only
  split
  · exact h.takeFault _ _
  · exact (setFlag_eased _ _ s).roughLoadLaw h

theorem roughLoadLaw.emergencyVolume {s : State} (h : roughLoadLaw s) (v : Volume) :
    roughLoadLaw (emergencyVolume s v) := by
  unfold Machine.emergencyVolume
  dsimp only
  split
  · exact (h.takeFault v .emergencyOff).setGate v false
  · exact h.setGate v false

theorem plasmaChanged_rma (c : Chamber) (x : Bool) (s : State) : (plasmaChanged c x s).rma = s.rma := by
  unfold plasmaChanged
  split
  · split
    · rfl
    · split <;> rfl
  · rfl

theorem roughLoadLaw.functionChanged {s : State} (h : roughLoadLaw s) (f : InputFn) (x : Bool) :
    roughLoadLaw (functionChanged f x s) := by
  cases f with
  | facilityGasOk => exact roughLoadLaw.foldl h fun _ c k => k.permitLoss c
  | exhaustOk => exact roughLoadLaw.foldl h fun _ c k => k.permitLoss c
  | emergencyOff =>
    cases x with
    | true =>
      have stopped : roughLoadLaw (emergencyStopped s) := roughLoadLaw.foldl h fun _ v k => k.emergencyVolume v
      exact stopped.foldl fun t c k => (setFlag_eased (.ch c) .permitLost t).roughLoadLaw k
    | false => exact h
  | plasma c => exact h.of_rma (plasmaChanged_rma c x _)
  | lid c => exact h
  | turbo t =>
    unfold Machine.functionChanged turboLoss
    dsimp only
    split
    · split
      · refine roughLoadLaw.takeFault ?_ t.volume .turboLost
        exact h
      · exact roughLoadLaw.of_rma h (setGate_rma t.volume false _)
    · exact h
  | door d => exact h

theorem roughLoadLaw.recompute {s : State} (h : roughLoadLaw s) : roughLoadLaw (recompute s) := by
  refine h.foldl fun t f k => ?_
  unfold updateFunction
  dsimp only
  split
  · exact k
  · exact (k.functionChanged f _).finish

/-! ## Link loss (R58, R161) and the time base (R2) -/

theorem roughLoadLaw.linkExpiry {s : State} (h : roughLoadLaw s) (l : Link) : roughLoadLaw (linkExpiry l s) := by
  refine (roughLoadLaw.foldl (s := s.modPort l Port.expire) h fun t v k => ?_).finish
  unfold linkLossVolume
  split
  · split
    · exact k.takeFault _ _
    · exact roughLoadLaw.takeFault (s := discard v t) k _ _
  · exact k

theorem roughLoadLaw.tickTransaction {s : State} (h : roughLoadLaw s) : roughLoadLaw (tickTransaction s) := by
  unfold Machine.tickTransaction
  split
  · exact h
  · dsimp only
    split
    · refine roughLoadLaw.endUnanswered ?_
      exact h
    · exact h

theorem roughLoadLaw.tickSilence {s : State} (h : roughLoadLaw s) (l : Link) : roughLoadLaw (tickSilence s l) := by
  unfold Machine.tickSilence
  split
  · exact h
  · dsimp only
    split
    · exact roughLoadLaw.linkExpiry (s := s.modPort l _) h l
    · exact h

theorem roughLoadLaw.cascadeStep {s : State} (h : roughLoadLaw s) : roughLoadLaw (cascadeStep s) := by
  have settled := ((stepTickEffect_eased s).roughLoadLaw h).settle settleBound
  unfold Machine.cascadeStep
  dsimp only
  split
  · exact ((withBase_eased _ _).trans (flush_eased _)).roughLoadLaw settled
  · exact (((withBase_eased _ _).trans (secondTickEffect_eased _)).roughLoadLaw settled).finish

theorem roughLoadLaw.sampleTick {s : State} (h : roughLoadLaw s) : roughLoadLaw (sampleTick s) := by
  have based : roughLoadLaw (baseTick s) := by
    unfold baseTick
    split
    · exact h
    · exact roughLoadLaw.cascadeStep h
  rw [sampleTick_eq]
  exact based.tickTransaction.foldl fun t l k => k.tickSilence l

/-! ## Requests (R22 to R44, R109, R147 to R151, R165 to R174) -/

theorem roughLoadLaw.onLoad {s : State} (h : roughLoadLaw s) (l : Link) (n : Nat) (r : RawRecord) :
    roughLoadLaw (onLoad l n r s).1 := by
  unfold Machine.onLoad
  split
  · exact h
  next v check =>
    split
    · exact h
    · split
      · exact h
      · exact (((countOn_eased v _ s).trans (setFlag_eased v .stepOverflow _)).roughLoadLaw h).finish

theorem roughLoadLaw.onRun {s : State} (h : roughLoadLaw s) (l : Link) (n : Nat) : roughLoadLaw (onRun l n s).1 := by
  unfold Machine.onRun
  split
  · exact h
  · split
    · exact h
    · exact (roughLoadLaw.startSteps _ false h).finish

theorem roughLoadLaw.onResume {s : State} (h : roughLoadLaw s) (l : Link) (n : Nat) :
    roughLoadLaw (onResume l n s).1 := by
  unfold Machine.onResume
  split
  · exact h
  · split
    · exact h
    · exact (roughLoadLaw.startSteps _ false h).finish

theorem roughLoadLaw.onHold {s : State} (h : roughLoadLaw s) (l : Link) (n : Nat) : roughLoadLaw (onHold l n s).1 := by
  unfold Machine.onHold
  split
  · exact h
  next v check =>
    split
    · exact (((recordEnd_eased v .stopped none none s).roughLoadLaw h).windDown v _).finish
    · exact h

theorem roughLoadLaw.onAbort {s : State} (h : roughLoadLaw s) (l : Link) (n : Nat) : roughLoadLaw (onAbort l n s).1 := by
  unfold Machine.onAbort
  split
  · exact h
  next v check =>
    split
    · exact (((recordEnd_eased v .stopped none none (discard v s)).roughLoadLaw h).windDown v _).finish
    · exact h

theorem roughLoadLaw.onClear {s : State} (h : roughLoadLaw s) (l : Link) (n : Nat) : roughLoadLaw (onClear l n s).1 := by
  unfold Machine.onClear
  split
  · exact h
  · split
    · exact roughLoadLaw.finish (s := clearHeld _ s) h
    · exact h
    · exact h

theorem roughLoadLaw.onGasEnable {s : State} (h : roughLoadLaw s) (l : Link) (n : Nat) (x : Bool) :
    roughLoadLaw (onGasEnable l n x s).1 := by
  unfold Machine.onGasEnable
  split
  · exact h
  · split
    · exact h
    · refine roughLoadLaw.finish ?_
      unfold setEnable
      dsimp only
      split
      · refine roughLoadLaw.permitLoss ?_ _
        exact h
      · exact h

theorem onTransferAllow_rma (l : Link) (n : Nat) (x : Bool) (s : State) : (onTransferAllow l n x s).1.rma = s.rma := by
  unfold onTransferAllow
  split <;> rfl

theorem roughLoadLaw.onOpenSlit {s : State} (h : roughLoadLaw s) (l : Link) (n : Nat) :
    roughLoadLaw (onOpenSlit l n s).1 := by
  unfold Machine.onOpenSlit
  split
  · exact h
  · split
    · exact h
    · split
      · exact h
      · exact roughLoadLaw.finish (s := setSlit _ true s) h

theorem roughLoadLaw.onCloseSlit {s : State} (h : roughLoadLaw s) (l : Link) (n : Nat) :
    roughLoadLaw (onCloseSlit l n s).1 := by
  unfold Machine.onCloseSlit
  split
  · exact h
  · split
    · exact roughLoadLaw.finish (s := setSlit _ false s) h
    · exact h

theorem onOpenDoor_rma (l : Link) (n : Nat) (s : State) : (onOpenDoor l n s).1.rma = s.rma := by
  unfold onOpenDoor
  split
  · rfl
  · split
    · rfl
    · split <;> rfl

theorem onCloseDoor_rma (l : Link) (n : Nat) (s : State) : (onCloseDoor l n s).1.rma = s.rma := by
  unfold onCloseDoor
  split <;> rfl

theorem onClearConditions_rma (l : Link) (n : Nat) (mask : Word16) (s : State) :
    (onClearConditions l n mask s).1.rma = s.rma := by
  unfold onClearConditions
  split <;> rfl

theorem roughLoadLaw.onResetCounters {s : State} (h : roughLoadLaw s) (l : Link) (n : Nat) :
    roughLoadLaw (onResetCounters l n s).1 := by
  unfold Machine.onResetCounters
  split
  · exact h
  · split
    · exact h
    next v check =>
      cases v with
      | ch c => exact (foldl_eased resetNoAnswers (fun t d => setDevice_eased d _ t) (chamberDevices c) _).roughLoadLaw h
      | tc => exact h
      | ll d => exact h

theorem roughLoadLaw.onClearDevice {s : State} (h : roughLoadLaw s) (l : Link) (a : Nat) :
    roughLoadLaw (onClearDevice l a s).1 := by
  unfold Machine.onClearDevice
  split
  · exact h
  · split
    · exact h
    · split
      · exact h
      · exact (clearDevice_eased _ s).roughLoadLaw h

theorem roughLoadLaw.onWriteConfig {s : State} (h : roughLoadLaw s) (n i : Nat) (x : Int) :
    roughLoadLaw (onWriteConfig n i x s).1 := by
  unfold Machine.onWriteConfig
  split
  · exact h
  · split
    · unfold writeItem
      dsimp only
      split
      · refine roughLoadLaw.recompute ?_
        exact h
      · exact h
    · exact h

theorem roughLoadLaw.closingActions {s : State} (h : roughLoadLaw s) : roughLoadLaw (closingActions s) := by
  refine (((closingPosts_eased _).trans (arbitrate_eased _)).trans (mapPorts_eased _ _)).roughLoadLaw ?_
  exact h

theorem roughLoadLaw.onCloseConfiguration {s : State} (h : roughLoadLaw s) :
    roughLoadLaw (onCloseConfiguration s).1 := by
  unfold Machine.onCloseConfiguration
  split
  · exact h
  · split
    · exact h
    · exact roughLoadLaw.closingActions (s := enterServing s) h

theorem roughLoadLaw.forceInactive {s : State} (h : roughLoadLaw s) (g : Gauge) : roughLoadLaw (forceInactive s g) := by
  unfold Machine.forceInactive
  split
  · exact ((setGauge_eased g _ s).trans (tripCleared_eased g _)).roughLoadLaw h
  · exact h

theorem roughLoadLaw.onReopenConfiguration {s : State} (h : roughLoadLaw s) :
    roughLoadLaw (onReopenConfiguration s).1 := by
  unfold Machine.onReopenConfiguration
  split
  · exact h
  · have discarded : roughLoadLaw (Volume.all.foldl (fun t v => discard v t) s) := h.foldl fun _ _ k => k
    refine roughLoadLaw.finish (((foldl_eased _ (fun t v => (closeGate_eased v t).trans (setVent_eased v false _))
      Volume.all _).trans (mapPorts_eased _ _)).roughLoadLaw ?_)
    refine roughLoadLaw.foldl (l := Gauge.all) ?_ fun t g k => k.forceInactive g
    exact discarded

theorem roughLoadLaw.onRestart {s : State} (h : roughLoadLaw s) : roughLoadLaw (onRestart s).1 := by
  unfold Machine.onRestart
  split
  · exact h
  · exact (roughLoadLaw_of_reset (s := restartBlocks s) rfl).closingActions

/-! ## Every request and every frame (R158 to R160) -/

theorem roughLoadLaw.serve {s : State} (h : roughLoadLaw s) (l : Link) (req : Request) :
    roughLoadLaw (serve l req s).1 := by
  cases req with
  | load v r => exact h.onLoad l v r
  | run v => exact h.onRun l v
  | hold v => exact h.onHold l v
  | resume v => exact h.onResume l v
  | clear v => exact h.onClear l v
  | abort v => exact h.onAbort l v
  | gasEnable c x => exact h.onGasEnable l c x
  | transferAllow c x => exact h.of_rma (onTransferAllow_rma l c x s)
  | openSlit v => exact h.onOpenSlit l v
  | closeSlit v => exact h.onCloseSlit l v
  | openDoor v => exact h.of_rma (onOpenDoor_rma l v s)
  | closeDoor v => exact h.of_rma (onCloseDoor_rma l v s)
  | clearConditions v m => exact h.of_rma (onClearConditions_rma l v m s)
  | resetCounters v => exact h.onResetCounters l v
  | clearDevice a => exact h.onClearDevice l a
  | writeConfig n i x => exact h.onWriteConfig n i x
  | closeConfiguration => exact h.onCloseConfiguration
  | reopenConfiguration => exact h.onReopenConfiguration
  | restart => exact h.onRestart
  | _ => exact h

theorem roughLoadLaw.take {s : State} (h : roughLoadLaw s) (l : Link) (req : Request) :
    roughLoadLaw (take l req s).1 := by
  unfold Machine.take
  split
  · exact h.serve l req
  · exact h

theorem roughLoadLaw.request {s : State} (h : roughLoadLaw s) (l : Link) (tag : Byte) (req : Request) :
    roughLoadLaw (request l tag req s) :=
  roughLoadLaw.take (s := hear l s) h l req

theorem roughLoadLaw.goodFrame {s : State} (h : roughLoadLaw s) (l : Link) (body : List Byte) :
    roughLoadLaw (goodFrame l body s) := by
  have taken : roughLoadLaw (takeBody l body (hear l s)).1 := by
    unfold takeBody
    split
    · split
      · exact roughLoadLaw.take (s := hear l s) h l _
      · exact h
    · exact h
  unfold Machine.goodFrame
  dsimp only
  split
  · exact h
  · exact taken

/-! ## Every step -/

theorem roughLoadLaw.exec {s : State} (h : roughLoadLaw s) (i : Instr) : ∃ t, exec i s = .next t ∧ roughLoadLaw t := by
  have due : ∀ {o : Option State}, Leads (Move s) o → roughLoadLaw (Machine.whenDue o s) := fun k =>
    h.whenDue (k.mono fun _ => .inl)
  cases i with
  | powerOn => exact ⟨_, rfl, roughLoadLaw_of_reset rfl⟩
  | stepTick => exact ⟨_, rfl, ((stepTickEffect_eased s).roughLoadLaw h).finish⟩
  | secondTick => exact ⟨_, rfl, ((secondTickEffect_eased s).roughLoadLaw h).finish⟩
  | pressureSample g n => exact ⟨_, rfl, (h.pressureSampleEffect g n).finish⟩
  | emissionSample c n => exact ⟨_, rfl, ((emissionSampleEffect_eased c n s).roughLoadLaw h).finish⟩
  | auxSample a n => exact ⟨_, rfl, h⟩
  | tripBlankingEnd => exact ⟨_, rfl, h⟩
  | roughGrant => exact ⟨_, rfl, due (grantHead?_moves s)⟩
  | roughValveOpen v => exact ⟨_, rfl, due (openValve?_moves v s)⟩
  | stallCheck v => exact ⟨_, rfl, h.whenDue (stallCheck?_moves v s)⟩
  | stepLimitExpiry v => exact ⟨_, rfl, due (stepLimitExpiry?_moves v s)⟩
  | admissionLimitExpiry v => exact ⟨_, rfl, due (admissionLimitExpiry?_moves v s)⟩
  | dwellComplete v => exact ⟨_, rfl, due (dwellComplete?_moves v s)⟩
  | overhangEnd v => exact ⟨_, rfl, due (overhangEnd?_moves v s)⟩
  | settleComplete c => exact ⟨_, rfl, due (settleComplete?_moves c s)⟩
  | transitionEnd c => exact ⟨_, rfl, due (transitionEnd?_moves c s)⟩
  | strikeConfirmed c => exact ⟨_, rfl, due (strikeConfirmed?_moves c s)⟩
  | strikeTimeout c => exact ⟨_, rfl, due (strikeTimeout?_moves c s)⟩
  | retryPauseEnd c => exact ⟨_, rfl, due (retryPauseEnd?_moves c s)⟩
  | dropoutLimitExceeded c => exact ⟨_, rfl, due (dropoutLimitExceeded?_moves c s)⟩
  | gatedTimeEnd c => exact ⟨_, rfl, due (gatedTimeEnd?_moves c s)⟩
  | windDownEnd v => exact ⟨_, rfl, due (windDownEnd?_moves v s)⟩
  | gasAdmission => exact ⟨_, rfl, due (gasAdmission?_moves s)⟩
  | transactionStart => exact ⟨_, rfl, (arbitrate_eased s).roughLoadLaw h⟩
  | setGoodAnswer => exact ⟨_, rfl, h.answerSet⟩
  | readGoodAnswer r => exact ⟨_, rfl, h.answerRead r⟩
  | busBadAnswer => exact ⟨_, rfl, h.endUnanswered⟩
  | responseTimeout => exact ⟨_, rfl, h.endUnanswered⟩
  | strayAnswer => exact ⟨_, rfl, h⟩
  | inputLineRead levels =>
    refine ⟨_, rfl, roughLoadLaw.recompute ?_⟩
    exact h
  | frameReceived l body check =>
    refine ⟨_, rfl, ?_⟩
    split
    · exact h.goodFrame l body
    · exact h
  | frameDiscard l => exact ⟨_, rfl, h⟩
  | frameGapTimeout l =>
    refine ⟨_, rfl, ?_⟩
    split <;> exact h
  | replySent l => exact ⟨_, rfl, h⟩
  | linkExpiry l =>
    refine ⟨_, rfl, ?_⟩
    unfold expireIfRunning
    split
    · exact h.linkExpiry l
    · exact h
  | startCharacter l => exact ⟨_, rfl, h⟩
  | _ => exact ⟨_, rfl, h.request _ _ _⟩

/-- Settles O5: a grant takes no more than fits (R68), and nothing else adds to the load of the manifold. -/
theorem roughLoadKept : Obligations.RoughLoadKept := by
  intro s t h taken
  unfold step at taken
  split at taken
  next i rest pending =>
    obtain ⟨u, next, kept⟩ := roughLoadLaw.exec (s := { s with pending := rest }) h i
    rw [next] at taken
    exact Host.Outcome.next.inj taken ▸ kept
  next idle => exact Host.Outcome.next.inj taken ▸ h.sampleTick

end Sys2Proof.Machine
end

section
/-! The rows of the rough manifold (R64, R65, R68, R70): what a grant and an opening valve leave, and when neither is taken. -/

namespace Sys2Proof.Machine

open Sys2Proof

/-! ## Loads (R64, R65) -/

theorem prospectiveLoad_of_code {s : State} {v : Volume} {p : Int} (code : s.code? (.vol v) = some p) :
    prospectiveLoad s v = if p < s.items.heavyLimit then .light else .heavy := by
  rw [prospectiveLoad, code]

theorem prospectiveLoad_of_no_sample {s : State} {v : Volume} (none : s.code? (.vol v) = none) :
    prospectiveLoad s v = .heavy := by
  rw [prospectiveLoad, none]

theorem prospectiveLoad_light_iff (s : State) (v : Volume) :
    prospectiveLoad s v = .light ↔ ∃ p, s.code? (.vol v) = some p ∧ p < s.items.heavyLimit := by
  cases code : s.code? (.vol v) with
  | none => simp [prospectiveLoad_of_no_sample code]
  | some p => simp [prospectiveLoad_of_code code]

theorem prospectiveLoad_heavy_iff (s : State) (v : Volume) :
    prospectiveLoad s v = .heavy ↔ ∀ p, s.code? (.vol v) = some p → s.items.heavyLimit ≤ p := by
  cases code : s.code? (.vol v) with
  | none => simp [prospectiveLoad_of_no_sample code]
  | some p => simp [prospectiveLoad_of_code code]

theorem Load.units_eq (x : Load) : x.units = if x = .heavy then 4 else 1 := by
  cases x <;> rfl

theorem grant?_eq_none_iff (s : State) (v : Volume) : s.grant? v = none ↔ ∀ g ∈ s.rma.grants, g.holder ≠ v := by
  simp [State.grant?, List.find?_eq_none]

/-! ## The head of the rough queue (R68) -/

theorem grantHead?_fits {s : State} {v : Volume} {rest : List Volume} (queue : s.rma.queue = v :: rest)
    (fits : s.rma.used + (prospectiveLoad s v).units ≤ 4) : grantHead? s = some (granted v rest s) := by
  rw [grantHead?, queue]
  exact if_pos fits

theorem grantHead?_waits {s : State}
    (full : ∀ v rest, s.rma.queue = v :: rest → 4 < s.rma.used + (prospectiveLoad s v).units) : grantHead? s = none := by
  unfold grantHead?
  split
  · rfl
  next v rest queue => exact if_neg (Nat.not_le.2 (full v rest queue))

theorem granted_vol_self (v : Volume) (rest : List Volume) (s : State) :
    (granted v rest s).vol v = { s.vol v with phase := .valveWait } := State.vol_modVol_self _ v _

theorem granted_vol_ne {v w : Volume} (rest : List Volume) (s : State) (ne : w ≠ v) :
    (granted v rest s).vol w = s.vol w := State.vol_modVol_ne _ v w _ ne

/-! ## The valve of a holder (R70) -/

theorem valveTest_iff {s : State} {v : Volume} {m p : Int} (manifold : s.code? .manifold = some m)
    (code : s.code? (.vol v) = some p) : valveTest s v = true ↔ m ≤ p ∧ s.gateOpen v = false := by
  simp [valveTest, manifold, code]

theorem openValve?_of_grant {s : State} {v : Volume} {g : Grant} {p : Int} (grant : s.grant? v = some g)
    (code : s.code? (.vol v) = some p) :
    openValve? v s = if g.valveOpen = false ∧ valveTest s v = true then some (opened v p s) else none := by
  simp [openValve?, grant, code, opened]

theorem openValve?_none {s : State} {v : Volume} (h : s.grant? v = none ∨ (∃ g, s.grant? v = some g ∧ g.valveOpen = true)
    ∨ s.code? .manifold = none ∨ s.code? (.vol v) = none) : openValve? v s = none := by
  cases grant : s.grant? v with
  | none => simp [openValve?, grant]
  | some g =>
    cases code : s.code? (.vol v) with
    | none => simp [openValve?, code]
    | some p =>
      rw [openValve?_of_grant grant code, if_neg]
      rintro ⟨waiting, passes⟩
      rcases h with h | ⟨k, held, isOpen⟩ | blind | blind
      · exact nomatch grant.symm.trans h
      · obtain rfl := Option.some.inj (grant.symm.trans held)
        exact absurd (waiting.symm.trans isOpen) Bool.false_ne_true
      · simp [valveTest, blind] at passes
      · exact nomatch code.symm.trans blind

theorem opened_vol_self (v : Volume) (p : Int) (s : State) : (opened v p s).vol v = { s.vol v with
    roughOpen := true, phase := (s.vol v).roughingPhase, stallBaseline := p, stallCount := 0 } :=
  State.vol_modVol_self _ v _

theorem opened_vol_ne {v w : Volume} (p : Int) (s : State) (ne : w ≠ v) : (opened v p s).vol w = s.vol w :=
  State.vol_modVol_ne _ v w _ ne

theorem opened_grant {s : State} {v : Volume} {g : Grant} (p : Int) (grant : s.grant? v = some g) :
    (opened v p s).grant? v = some { g with valveOpen := true } := by
  obtain ⟨-, holder⟩ := grant?_eq_some grant
  have own : (fun g : Grant => g.holder == v) ∘ (fun g => if g.holder = v then { g with valveOpen := true } else g)
      = fun g => g.holder == v := by
    funext k
    simp only [Function.comp_apply]
    split <;> rfl
  have found : (openedGrants v s).find? (fun g => g.holder == v) = some { g with valveOpen := true } := by
    rw [openedGrants, List.find?_map, own]
    unfold State.grant? at grant
    rw [grant, Option.map_some, if_pos holder]
  exact found

/-- Settles O25: each row answers the state after a grant or an opened valve when its condition stands, and none when it
does not. -/
theorem roughRowsAct : Obligations.RoughRowsAct := by
  refine ⟨fun s v rest queue fits => ⟨granted v rest s, ?_, rfl, rfl, ?_, fun w ne => granted_vol_ne rest s ne, rfl⟩,
    fun s full => ?_, fun s v off => ?_, fun s v => ⟨prospectiveLoad_light_iff s v, prospectiveLoad_heavy_iff s v,
      fun _ => rfl, rfl, grant?_eq_none_iff s v, fun _ => grant?_eq_some⟩, rfl, rfl, fun r => ?_,
    fun s v g m p grant waiting manifold code => ?_⟩
  · exact congrArg (fun o => Host.Outcome.next (whenDue o s)) (grantHead?_fits queue fits)
  · rw [granted_vol_self]
  · exact congrArg (fun o => Host.Outcome.next (whenDue o s)) (grantHead?_waits full)
  · exact congrArg (fun o => Host.Outcome.next (whenDue o s)) (openValve?_none off)
  · simp only [Rma.used, Load.units_eq]
  · have row := openValve?_of_grant grant code
    have test := valveTest_iff manifold code
    have vol := opened_vol_self v p s
    refine ⟨fun below shut => ⟨opened v p s, ?_, by rw [vol], opened_grant p grant, by rw [vol], by rw [vol], by rw [vol],
      fun w ne => opened_vol_ne p s ne, rfl, opened_used v p s⟩, fun fails => ?_⟩
    · rw [if_pos ⟨waiting, test.2 ⟨below, shut⟩⟩] at row
      exact congrArg (fun o => Host.Outcome.next (whenDue o s)) row
    · rw [if_neg] at row
      · exact congrArg (fun o => Host.Outcome.next (whenDue o s)) row
      · rintro ⟨-, passes⟩
        obtain ⟨below, shut⟩ := test.1 passes
        rcases fails with above | isOpen
        · omega
        · exact absurd (shut.symm.trans isOpen) Bool.false_ne_true

end Sys2Proof.Machine
end

section
/-! Proofs about gas admission and the header state (R98, R104, R106, R107, R111, R115). -/

namespace Sys2Proof.Machine

open Sys2Proof

/-! ## The entry that GAS_ADMISSION admits (R106) -/

section Pick
variable {s : State} {e : GasEntry} {rest : List GasEntry}

theorem nextAdmission_head (queue : s.gat.queue = e :: rest) (passes : admissible s e = true) :
    nextAdmission s = some e := by
  simp [nextAdmission, queue, passes]

theorem nextAdmission_blocked (queue : s.gat.queue = e :: rest) (fails : admissible s e = false)
    (old : s.items.overtakeLimit < ((s.vol (.ch e.chamber)).admissionCount : Int)) : nextAdmission s = none := by
  simp [nextAdmission, GasEntry.age, queue, fails, old]

theorem nextAdmission_overtaken (queue : s.gat.queue = e :: rest) (fails : admissible s e = false)
    (young : ((s.vol (.ch e.chamber)).admissionCount : Int) ≤ s.items.overtakeLimit) :
    nextAdmission s = rest.find? (admissible s) := by
  simp [nextAdmission, GasEntry.age, queue, fails, not_lt.2 young]

theorem nextAdmission_none (fail : ∀ e ∈ s.gat.queue, admissible s e = false) : nextAdmission s = none := by
  refine Option.eq_none_iff_forall_ne_some.2 fun e next => ?_
  obtain ⟨mem, passes⟩ := nextAdmission_some next
  exact Bool.false_ne_true ((fail e mem).symm.trans passes)

theorem exec_gasAdmission (s : State) : exec .gasAdmission s = .next (whenDue (gasAdmission? s) s) := rfl

theorem exec_gasAdmission_admits (next : nextAdmission s = some e) :
    exec .gasAdmission s = .next (finish (admitEntry e s)) := by
  rw [exec_gasAdmission, gasAdmission?, next]
  rfl

theorem exec_gasAdmission_idles (next : nextAdmission s = none) : exec .gasAdmission s = .next s := by
  rw [exec_gasAdmission, gasAdmission?, next]
  rfl

end Pick

/-! ## The admission test and the totals it reads (R98, R100, R104, R109) -/

theorem mem_sourceNumbers (n : Nat) : n ∈ sourceNumbers ↔ 1 ≤ n ∧ n ≤ 10 := by
  simp only [sourceNumbers, List.mem_cons, List.not_mem_nil, or_false]
  omega

theorem admissible_iff (s : State) (e : GasEntry) : admissible s e = true ↔
    (∀ n, 1 ≤ n → n ≤ 10 → s.sourceTotal n + sourceIncrease s e n ≤ s.sourceCapacity n)
      ∧ (s.hlm.held = true → totalIncrease s e = 0) ∧ s.permit e.chamber = true ∧ s.hlm.trip = false := by
  have header : (!s.hlm.held || totalIncrease s e == 0) = true ↔ (s.hlm.held = true → totalIncrease s e = 0) := by
    cases s.hlm.held <;> simp
  simp only [admissible, Bool.and_eq_true, List.all_eq_true, mem_sourceNumbers, decide_eq_true_eq, header,
    Bool.not_eq_true', and_imp, and_assoc]

theorem sourceCapacity_eq (s : State) {n : Nat} (low : 1 ≤ n) :
    s.sourceCapacity n = (s.items.sourceCapacity[n - 1]?.getD 0).toNat := by
  rw [State.sourceCapacity, atPlace, if_neg (by omega), List.getD_eq_getElem?_getD]

theorem permit_iff (s : State) (c : Chamber) : s.permit c = true ↔
    s.fn .facilityGasOk = true ∧ s.fn .exhaustOk = true ∧ s.gat.enable.get c = true ∧ s.fn .emergencyOff = false := by
  simp [State.permit, and_assoc]

theorem inGasQueue_iff (s : State) (c : Chamber) : s.inGasQueue c = true ↔ ∃ e ∈ s.gat.queue, e.chamber = c := by
  simp [State.inGasQueue]

theorem isFinalWrite_iff (s : State) (c : Chamber) (k : Chan) : isFinalWrite s c k = true ↔
    (s.row c k).inFlight = true ∧ (s.gen c k).left = 0 ∧ (s.gen c k).posted = (s.row c k).target
      ∧ (s.device (.mfc c k)).pending = none := by
  simp [isFinalWrite, and_assoc]

/-! ## The start of a transition (R97, R115) -/

/-- A generator at the start of a transition (R115): at its target for a jump, at its posted value for a ramp. -/
def Generator.start (g : Generator) (target n : Nat) (cls : WriteClass) : Generator :=
  if n = 0 then g.jump target cls else g.ramp target n cls

/-- The state a transition has begun in, before a jump posts its target. -/
def transitionBegun (c : Chamber) (k : Chan) (target n : Nat) (cls : WriteClass) (s : State) : State :=
  ((s.setRow c k ((s.row c k).start target)).setCheck c k { s.check c k with deviation := 0 }).setGen c k
    ((s.gen c k).start target n cls)

theorem startTransition_jump (c : Chamber) (k : Chan) (target : Nat) (cls : WriteClass) (s : State) :
    startTransition c k target 0 cls s
      = postWrite (.mfc c k) (.flow target) cls (transitionBegun c k target 0 cls s) := by
  unfold startTransition startGenerator postGenerator
  simp only [if_true, State.gen_setGen_self]
  rfl

theorem startTransition_ramp {n : Nat} (c : Chamber) (k : Chan) (target : Nat) (cls : WriteClass) (s : State) (h : n ≠ 0) :
    startTransition c k target n cls s = transitionBegun c k target n cls s := by
  simp only [startTransition, startGenerator, transitionBegun, Generator.start, if_neg h]
  rfl

/-- Beside a begun transition only places in the pending-write table can differ, by a jump's post. -/
theorem startTransition_placesOnly (c : Chamber) (k : Chan) (target n : Nat) (cls : WriteClass) (s : State) :
    PlacesOnly (transitionBegun c k target n cls s) (startTransition c k target n cls s) := by
  by_cases h : n = 0
  · subst h
    rw [startTransition_jump]
    exact postWrite_placesOnly _ _ _ _
  · rw [startTransition_ramp c k target cls s h]
    exact PlacesOnly.refl _

theorem startTransition_failed (c : Chamber) (k : Chan) (target n : Nat) (cls : WriteClass) (s : State) (d : Device) :
    ((startTransition c k target n cls s).device d).failed = (s.device d).failed := by
  obtain ⟨-, places⟩ := startTransition_placesOnly c k target n cls s
  rw [places d]
  rfl

theorem startTransition_gen (c : Chamber) (k : Chan) (target n : Nat) (cls : WriteClass) (s : State) (d : Chamber)
    (j : Chan) : (startTransition c k target n cls s).gen d j
      = (s.setGen c k ((s.gen c k).start target n cls)).gen d j := by
  obtain ⟨b, h⟩ := startTransition_eq c k target n cls s
  rw [h]
  rfl

theorem startTransition_check (c : Chamber) (k : Chan) (target n : Nat) (cls : WriteClass) (s : State) (d : Chamber)
    (j : Chan) : (startTransition c k target n cls s).check d j
      = (s.setCheck c k { s.check c k with deviation := 0 }).check d j := by
  obtain ⟨checks, -⟩ := startTransition_placesOnly c k target n cls s
  rw [State.check, checks]
  rfl

theorem startTransition_postStands {c : Chamber} {k : Chan} (target : Nat) (cls : WriteClass) {s : State}
    (ok : (s.device (.mfc c k)).failed = false) :
    PostStands (.mfc c k) (.flow target) cls (startTransition c k target 0 cls s) := by
  rw [startTransition_jump]
  exact postWrite_postStands _ _ ok

/-- A post to one device outlives the start of another channel's transition. -/
theorem PostStands.startTransition {d : Device} {x : BusValue} {cls : WriteClass} {s : State} (h : PostStands d x cls s)
    {c : Chamber} {k : Chan} (ne : d ≠ .mfc c k) (target n : Nat) (cls' : WriteClass) :
    PostStands d x cls (startTransition c k target n cls' s) := by
  have begun : PostStands d x cls (transitionBegun c k target n cls' s) := h
  by_cases jump : n = 0
  · subst jump
    rw [startTransition_jump]
    exact begun.postWrite ne
  · rw [startTransition_ramp c k target cls' s jump]
    exact begun

theorem Generator.ramp_quotient_remainder {n : Nat} (g : Generator) (target : Nat) (cls : WriteClass) :
    (g.ramp target n cls).quotient = ((g.posted : Int) - target).natAbs / n
      ∧ (g.ramp target n cls).quotient * n + (g.ramp target n cls).remainder = ((g.posted : Int) - target).natAbs := by
  have distance : (if g.posted ≤ target then target - g.posted else g.posted - target)
      = ((g.posted : Int) - target).natAbs := by
    split <;> omega
  have whole : ((g.posted : Int) - target).natAbs / n * n ≤ ((g.posted : Int) - target).natAbs := Nat.div_mul_le_self _ n
  simp only [Generator.ramp, distance, true_and]
  omega

/-- The generator at the start of a class-2 transition (R115): nothing of it has run, and a jump stands at its target. -/
theorem Generator.start_normal (g : Generator) (a : Aim) : (g.start a.target a.ticks .normal).target = a.target
    ∧ (g.start a.target a.ticks .normal).ticks = a.ticks ∧ (g.start a.target a.ticks .normal).left = a.ticks
    ∧ (g.start a.target a.ticks .normal).cls = .normal
    ∧ ((g.start a.target a.ticks .normal).up = true ↔ g.posted ≤ a.target)
    ∧ (a.ticks = 0 → (g.start a.target a.ticks .normal).posted = a.target) := by
  by_cases jump : a.ticks = 0
  · simp [Generator.start, Generator.jump, jump]
  · simp [Generator.start, Generator.ramp, jump]

theorem Generator.start_ramp {g : Generator} {a : Aim} (ramp : 0 < a.ticks) :
    (g.start a.target a.ticks .normal).posted = g.posted ∧ (g.start a.target a.ticks .normal).accumulator = 0
      ∧ ∀ d, d = (g.posted : Int) - a.target →
        (g.start a.target a.ticks .normal).quotient = d.natAbs / a.ticks
        ∧ (g.start a.target a.ticks .normal).quotient * (g.start a.target a.ticks .normal).ticks
            + (g.start a.target a.ticks .normal).remainder = d.natAbs := by
  rw [Generator.start, if_neg ramp.ne']
  exact ⟨rfl, rfl, fun _ hd => hd ▸ g.ramp_quotient_remainder a.target .normal⟩

/-! ## The channels of an admitted chamber (R107) -/

/-- Channel `k` of `c` from `s` to `t` by an admission that gives it the part `a`: left alone at its target with nothing in
flight; else at the start of a class-2 transition, whose target a jump to an OK device has posted. -/
def Admitted (c : Chamber) (k : Chan) (a : Aim) (s t : State) : Prop :=
  ((s.row c k).target = a.target → (s.row c k).inFlight = false → t.row c k = s.row c k ∧ t.gen c k = s.gen c k)
    ∧ ((s.row c k).target ≠ a.target ∨ (s.row c k).inFlight = true →
      t.row c k = (s.row c k).start a.target ∧ t.gen c k = (s.gen c k).start a.target a.ticks .normal
      ∧ (t.check c k).deviation = 0
      ∧ (a.ticks = 0 → (s.device (.mfc c k)).failed = false → PostStands (.mfc c k) (.flow a.target) .normal t))

theorem admitChannel_atRest {c : Chamber} {k : Chan} {aims : Per6 Aim} {s : State}
    (target : (s.row c k).target = (aims.get k).target) (inFlight : (s.row c k).inFlight = false) :
    admitChannel c aims s k = s :=
  if_pos (by simp [target, inFlight])

theorem admitChannel_moving {c : Chamber} {k : Chan} {aims : Per6 Aim} {s : State}
    (h : (s.row c k).target ≠ (aims.get k).target ∨ (s.row c k).inFlight = true) :
    admitChannel c aims s k = startTransition c k (aims.get k).target (aims.get k).ticks .normal s :=
  if_neg (by simpa [imp_iff_not_or] using h)

theorem admitChannel_cases (c : Chamber) (k : Chan) (aims : Per6 Aim) (s : State) : admitChannel c aims s k = s
    ∨ admitChannel c aims s k = startTransition c k (aims.get k).target (aims.get k).ticks .normal s := by
  unfold admitChannel
  exact ite_eq_or_eq _ _ _

theorem admitChannel_admitted (c : Chamber) (k : Chan) (aims : Per6 Aim) (s : State) :
    Admitted c k (aims.get k) s (admitChannel c aims s k) := by
  refine ⟨fun target rest => ?_, fun moving => ?_⟩
  · rw [admitChannel_atRest target rest]
    exact ⟨rfl, rfl⟩
  · rw [admitChannel_moving moving, startTransition_row, startTransition_gen, startTransition_check,
      State.gen_setGen_self, State.check_setCheck_self]
    refine ⟨Per4.getK_setK_self _ c k _, rfl, rfl, fun jump ok => ?_⟩
    rw [jump]
    exact startTransition_postStands _ _ ok

/-- The admission of one channel leaves the row, generator and flow check of every other, and a post to another device. -/
theorem admitChannel_apart {c d : Chamber} {j k : Chan} (aims : Per6 Aim) (s : State) (ne : (d, k) ≠ (c, j)) :
    (admitChannel c aims s j).row d k = s.row d k ∧ (admitChannel c aims s j).gen d k = s.gen d k
      ∧ (admitChannel c aims s j).check d k = s.check d k
      ∧ (∀ x cls, PostStands (.mfc d k) x cls s → PostStands (.mfc d k) x cls (admitChannel c aims s j)) := by
  refine ⟨admitChannel_other aims s ne, ?_⟩
  rcases admitChannel_cases c j aims s with h | h <;> rw [h]
  · exact ⟨rfl, rfl, fun _ _ => id⟩
  · rw [startTransition_gen, startTransition_check, State.gen_setGen_ne s c d j k _ ne,
      State.check_setCheck_ne s c d j k _ ne]
    refine ⟨rfl, rfl, fun x cls stands => stands.startTransition (fun e => ne ?_) _ _ _⟩
    obtain ⟨rfl, rfl⟩ := Device.mfc.inj e
    rfl

theorem admitChannel_failed (c : Chamber) (k : Chan) (aims : Per6 Aim) (s : State) (d : Device) :
    ((admitChannel c aims s k).device d).failed = (s.device d).failed := by
  rcases admitChannel_cases c k aims s with h | h <;> rw [h]
  exact startTransition_failed _ _ _ _ _ _ _

/-- Each channel has its turn once, and the turns of the others keep what it found and what it left. -/
theorem admitChannels_admitted (c : Chamber) (aims : Per6 Aim) (s : State) (k : Chan) :
    Admitted c k (aims.get k) s (Chan.all.foldl (admitChannel c aims) s) := by
  have apart : ∀ {j : Chan}, j ≠ k → (c, k) ≠ (c, j) := fun ne e => ne (Prod.mk.inj e).2.symm
  refine foldl_turn (P := fun t => t.row c k = s.row c k ∧ t.gen c k = s.gen c k
    ∧ (t.device (.mfc c k)).failed = (s.device (.mfc c k)).failed) (fun t j ne => ?_) (fun t => ?_) (fun t j ne => ?_)
    Chan.all nodup_chans (Chan.mem_all k) s ⟨rfl, rfl, rfl⟩
  · rintro ⟨row, gen, failed⟩
    obtain ⟨row', gen', -, -⟩ := admitChannel_apart aims t (apart ne)
    exact ⟨row'.trans row, gen'.trans gen, (admitChannel_failed c j aims t _).trans failed⟩
  · rintro ⟨row, gen, failed⟩
    have turn := admitChannel_admitted c k aims t
    unfold Admitted at turn ⊢
    rwa [row, gen, failed] at turn
  · rintro ⟨rest, moved⟩
    obtain ⟨row, gen, check, stands⟩ := admitChannel_apart aims t (apart ne)
    unfold Admitted
    rw [row, gen, check]
    refine ⟨rest, fun moving => ?_⟩
    obtain ⟨row', gen', deviation, post⟩ := moved moving
    exact ⟨row', gen', deviation, fun jump ok => stands _ _ (post jump ok)⟩

theorem admitChannels_gen_other {c d : Chamber} (aims : Per6 Aim) (s : State) (ne : d ≠ c) (j : Chan) :
    (Chan.all.foldl (admitChannel c aims) s).gen d j = s.gen d j := by
  refine List.foldlRecOn (motive := fun t : State => t.gen d j = s.gen d j) Chan.all _ rfl fun t h k _ => ?_
  obtain ⟨-, gen, -, -⟩ := admitChannel_apart (j := k) aims t fun e => ne (congrArg Prod.fst e)
  exact gen.trans h

/-! ## The header state (R111) -/

/-- The test leaves the header where R111's state is its own, and else changes it and tells of the change. -/
theorem headerTest_eq (s : State) : headerTest s = if heldAt s.items s.hlm.held s.headerTotal = s.hlm.held then s
    else postHeaderChanged { s with hlm := { s.hlm with held := !s.hlm.held } } := by
  cases held : s.hlm.held with
  | true =>
    by_cases release : (s.headerTotal : Int) ≤ s.items.releaseThreshold
    · simp [headerTest, heldAt, held, release]
    · simp [headerTest, heldAt, held, release, not_le.1 release]
  | false =>
    by_cases hold : s.items.holdThreshold ≤ (s.headerTotal : Int)
    · simp [headerTest, heldAt, held, hold]
    · simp [headerTest, heldAt, held, hold]

theorem headerTest_keeps {s : State} (h : heldAt s.items s.hlm.held s.headerTotal = s.hlm.held) : headerTest s = s := by
  rw [headerTest_eq, if_pos h]

theorem headerTest_changes {s : State} (h : heldAt s.items s.hlm.held s.headerTotal ≠ s.hlm.held) :
    headerTest s = { s with
      hlm := { s.hlm with held := !s.hlm.held }
      outbox := s.outbox ++ [⟨(Chamber.all.filter fun c => s.fitted (.ch c)).map Link.cc,
        ⟨.headerChanged, 0, 0, if s.hlm.held then 0 else 1, 0, s.headerTotal⟩⟩] } := by
  have code : (if !s.hlm.held then 1 else 0) = if s.hlm.held then 0 else 1 := by cases s.hlm.held <;> rfl
  rw [headerTest_eq, if_neg h, ← code]
  rfl

/-- After a test the header stands in the state that R111 gives at the total. -/
theorem headerTest_held (s : State) :
    (headerTest s).hlm.held = heldAt s.items s.hlm.held (headerTest s).headerTotal := by
  by_cases h : heldAt s.items s.hlm.held s.headerTotal = s.hlm.held
  · rw [headerTest_keeps h, h]
  · rw [headerTest_changes h]
    exact (Bool.eq_not.2 h).symm

theorem headerTest_dbc (s : State) : (headerTest s).dbc = s.dbc := by
  obtain ⟨hlm, outbox, h⟩ := headerTest_frame s
  rw [h]

theorem headerTest_fru (s : State) : (headerTest s).fru = s.fru := by
  obtain ⟨hlm, outbox, h⟩ := headerTest_frame s
  rw [h]

theorem finalWrite_held {s : State} {c : Chamber} {k : Chan} (final : isFinalWrite s c k = true) :
    (finalWrite c k s).hlm.held = heldAt s.items s.hlm.held (finalWrite c k s).headerTotal := by
  unfold finalWrite
  rw [if_pos final]
  exact headerTest_held _

theorem releaseChannel_held (c : Chamber) (k : Chan) (s : State) :
    (releaseChannel c k s).hlm.held = heldAt s.items s.hlm.held (releaseChannel c k s).headerTotal :=
  headerTest_held _

/-! ## The state after an admission (R107) -/

section Entry
variable (e : GasEntry) (s : State)

/-- The chamber's six channels after their turns, before the header test. -/
def admittedChannels : State := Chan.all.foldl (admitChannel e.chamber e.aims) (withdrawGas e.chamber s)

theorem admitEntry_eq :
    admitEntry e s = (headerTest (admittedChannels e s)).modVol (.ch e.chamber) Vol.afterAdmission := rfl

theorem admitEntry_dbc : (admitEntry e s).dbc = (admittedChannels e s).dbc := headerTest_dbc _

theorem admitEntry_gen (c : Chamber) (k : Chan) : (admitEntry e s).gen c k = (admittedChannels e s).gen c k :=
  congrArg (fun p : Per24 Generator => p.getK c k) (headerTest_fru _)

theorem admitEntry_gen_other {c : Chamber} (ne : c ≠ e.chamber) (k : Chan) : (admitEntry e s).gen c k = s.gen c k :=
  (admitEntry_gen e s c k).trans (admitChannels_gen_other e.aims (withdrawGas e.chamber s) ne k)

theorem admitEntry_admitted (k : Chan) : Admitted e.chamber k (e.aims.get k) s (admitEntry e s) := by
  obtain ⟨rest, moved⟩ := admitChannels_admitted e.chamber e.aims (withdrawGas e.chamber s) k
  have check : (admitEntry e s).check e.chamber k = (admittedChannels e s).check e.chamber k :=
    congrArg (fun b : Dbc => b.checks.getK e.chamber k) (admitEntry_dbc e s)
  unfold Admitted
  rw [admitEntry_row, admitEntry_gen, check]
  refine ⟨rest, fun moving => ?_⟩
  obtain ⟨row, gen, deviation, post⟩ := moved moving
  exact ⟨row, gen, deviation, fun jump ok => (post jump ok).of_dbc (admitEntry_dbc e s)⟩

theorem admitEntry_held :
    (admitEntry e s).hlm.held = heldAt s.items s.hlm.held (admitEntry e s).headerTotal := by
  obtain ⟨rows, fru, dbc, h⟩ := foldl_admitChannel_frame e.chamber e.aims Chan.all (withdrawGas e.chamber s)
  have tested := headerTest_held (admittedChannels e s)
  rw [admittedChannels, h] at tested
  rw [admitEntry_eq, admittedChannels, h]
  exact tested

/-- An admission changes the volumes, GAT, the generators, the device bus, the header and the notices alone. -/
theorem admitEntry_parts : admitEntry e s = { s with
    vols := (admitEntry e s).vols, gat := (admitEntry e s).gat, fru := (admitEntry e s).fru, dbc := (admitEntry e s).dbc,
    hlm := (admitEntry e s).hlm, outbox := (admitEntry e s).outbox } := by
  obtain ⟨rows, fru, dbc, hlm, outbox, h⟩ := admitEntry_frame e s
  rw [h]
  rfl

end Entry

theorem Vol.afterAdmission_eq (x : Vol) : x.afterAdmission = { x with
    phase := if x.phase ≠ .waitGas then x.phase
      else if x.current.map (·.kind) = some .purge then .fill else .transition } := by
  by_cases waits : x.phase = .waitGas
  · simp [Vol.afterAdmission, waits]
  · simp [Vol.afterAdmission, waits]

/-- The row of R97 after an admission. -/
theorem Admitted.aimed {c : Chamber} {k : Chan} {a : Aim} {s t : State} (h : Admitted c k a s t) :
    (t.row c k).target = a.target ∧ (t.row c k).commitment
      = (if (s.row c k).target = a.target ∧ (s.row c k).inFlight = false
        then (s.row c k).commitment else max (s.row c k).commitment a.target) := by
  obtain ⟨rest, moved⟩ := h
  by_cases still : (s.row c k).target = a.target ∧ (s.row c k).inFlight = false
  · obtain ⟨target, inFlight⟩ := still
    obtain ⟨row, -⟩ := rest target inFlight
    rw [if_pos ⟨target, inFlight⟩, row]
    exact ⟨target, rfl⟩
  · obtain ⟨row, -⟩ := moved (by simpa [imp_iff_not_or] using still)
    rw [if_neg still, row]
    exact ⟨rfl, rfl⟩

/-- Settles O30: the pick of R106, each channel's turn, and the header test that ends an admission, a final write and a
release. -/
theorem gasAdmissionOrder : Obligations.GasAdmissionOrder := by
  refine ⟨fun s e rest queue => ⟨fun passes => exec_gasAdmission_admits (nextAdmission_head queue passes),
      fun fails old => exec_gasAdmission_idles (nextAdmission_blocked queue fails old),
      fun pre f post fails young split before passes => ?_⟩,
    fun s fail => exec_gasAdmission_idles (nextAdmission_none fail),
    fun s e => ⟨admissible_iff s e, fun _ => rfl, rfl, fun _ => rfl, fun k => (admitEntry_admitted e s k).aimed,
      fun c k ne => ⟨admitEntry_row_other s ne k, admitEntry_gen_other e s ne k⟩, fun k => ?_, ?_, ?_,
      admitEntry_parts e s, ?_⟩,
    fun s => ⟨rfl, fun _ => rfl, fun _ => sourceCapacity_eq s, fun _ _ => rfl, permit_iff s, inGasQueue_iff s,
      isFinalWrite_iff s⟩,
    fun s => ⟨headerTest_keeps, headerTest_changes⟩,
    fun e c k s => ⟨admitEntry_held e s, finalWrite_held, releaseChannel_held c k s⟩⟩
  case refine_1 =>
    refine exec_gasAdmission_admits ((nextAdmission_overtaken queue fails young).trans ?_)
    exact List.find?_eq_some_iff_append.2 ⟨passes, pre, post, split, by simpa using before⟩
  case refine_2 =>
    obtain ⟨still, moved⟩ := admitEntry_admitted e s k
    refine ⟨still, fun moving g hg => ?_⟩
    obtain ⟨row, gen, deviation, post⟩ := moved moving
    obtain ⟨target, ticks, left, cls, up, posted⟩ := (s.gen e.chamber k).start_normal (e.aims.get k)
    rw [hg, gen, row]
    exact ⟨rfl, deviation, target, ticks, left, cls, up, fun jump => ⟨posted jump, post jump⟩, Generator.start_ramp⟩
  case refine_3 => rw [admitEntry_vol_self, Vol.afterAdmission_eq]
  case refine_4 =>
    obtain ⟨-, -, -, -, others⟩ := admitEntry_plant e s
    exact others
  case refine_5 =>
    obtain ⟨-, -, -, queue, -⟩ := admitEntry_plant e s
    exact queue

end Sys2Proof.Machine
end

section
/-! What an operation of the step engine is made of on the gas side (R45, R52 to R56, R97, R102, R103, R107, R129): quiet changes,
channels given target 0, throttle posts, flow requests and admissions. An invariant that these keep is kept by everything that
follows within an event; the flow statements rest on two such invariants. -/

namespace Sys2Proof.Machine

open Sys2Proof

/-! ## Quiet changes -/

/-- From `s` to `t` the channels, the generators, the device rows, the transaction in flight and the full scales stand; entries
may leave the gas admission queue but none joins it; a volume that runs goes on with its step; no condition flag is cleared. -/
structure Quiet (s t : State) : Prop where
  rows : t.gat.rows = s.gat.rows
  queue : ∀ e ∈ t.gat.queue, e ∈ s.gat.queue
  fru : t.fru = s.fru
  devices : t.dbc.devices = s.dbc.devices
  inFlight : t.dbc.inFlight = s.dbc.inFlight
  scale : t.items.fullScale = s.items.fullScale
  works : ∀ v, (s.vol v).state = .running → (t.vol v).state = .running ∧ (t.vol v).current = (s.vol v).current
  flags : ∀ v f, (s.vol v).hasFlag f = true → (t.vol v).hasFlag f = true

/-- A change of the volumes is quiet where what runs goes on and no flag is cleared. -/
theorem Quiet.of_vols {s t : State}
    (works : ∀ v, (s.vol v).state = .running → (t.vol v).state = .running ∧ (t.vol v).current = (s.vol v).current)
    (flags : ∀ v f, (s.vol v).hasFlag f = true → (t.vol v).hasFlag f = true)
    (gat : t.gat = s.gat) (fru : t.fru = s.fru) (dbc : t.dbc = s.dbc) (cfg : t.cfg = s.cfg) : Quiet s t where
  rows := by rw [gat]
  queue := by rw [gat]; exact fun _ => id
  fru := fru
  devices := by rw [dbc]
  inFlight := by rw [dbc]
  scale := by rw [State.items, cfg]; rfl
  works := works
  flags := flags

theorem Quiet.of_plant {s t : State} (vols : t.vols = s.vols) (gat : t.gat = s.gat) (fru : t.fru = s.fru)
    (dbc : t.dbc = s.dbc) (cfg : t.cfg = s.cfg) : Quiet s t :=
  .of_vols (fun v running => by rw [State.vol, vols]; exact ⟨running, rfl⟩)
    (fun v f => by rw [State.vol, State.vol, vols]; exact id) gat fru dbc cfg

theorem Quiet.refl (s : State) : Quiet s s := .of_plant rfl rfl rfl rfl rfl

theorem Quiet.trans {s t u : State} (h : Quiet s t) (k : Quiet t u) : Quiet s u where
  rows := k.rows.trans h.rows
  queue e mem := h.queue e (k.queue e mem)
  fru := k.fru.trans h.fru
  devices := k.devices.trans h.devices
  inFlight := k.inFlight.trans h.inFlight
  scale := k.scale.trans h.scale
  works v running := by
    obtain ⟨still, current⟩ := h.works v running
    obtain ⟨stays, step⟩ := k.works v still
    exact ⟨stays, step.trans current⟩
  flags v f set := k.flags v f (h.flags v f set)

theorem modVol_quiet (v : Volume) (f : Vol → Vol) (s : State)
    (works : (s.vol v).state = .running →
      (f (s.vol v)).state = .running ∧ (f (s.vol v)).current = (s.vol v).current)
    (flags : (f (s.vol v)).flags = (s.vol v).flags := by rfl) : Quiet s (s.modVol v f) := by
  refine .of_vols (fun w running => ?_) (fun w g set => ?_) rfl rfl rfl rfl
  all_goals by_cases same : w = v
  · subst same
    rw [State.vol_modVol_self]
    exact works running
  · rw [State.vol_modVol_ne s v w f same]
    exact ⟨running, rfl⟩
  · subst same
    rw [State.vol_modVol_self, Vol.hasFlag, flags]
    exact set
  · rwa [State.vol_modVol_ne s v w f same]

theorem foldl_quiet {α : Type} (f : State → α → State) (h : ∀ s a, Quiet s (f s a)) (l : List α) (s : State) :
    Quiet s (l.foldl f s) :=
  List.foldlRecOn (motive := Quiet s) l f (.refl s) fun t ht a _ => ht.trans (h t a)

theorem post_quiet (a : List Link) (n : Notice) (s : State) : Quiet s (post a n s) := .of_plant rfl rfl rfl rfl rfl

theorem setFlag_quiet (v : Volume) (f : Flag) (s : State) : Quiet s (setFlag v f s) := by
  refine .of_vols (fun w running => ?_) (fun w g set => (setFlag_hasFlag_iff v w f g s).2 (.inl set)) ?_ ?_ ?_ ?_
  · rw [setFlag_flagsOnly]
    exact ⟨running, rfl⟩
  all_goals
    obtain ⟨vols, outbox, h⟩ := setFlag_eq v f s
    rw [h]

theorem setFlags_quiet (vs : List Volume) (f : Flag) (s : State) : Quiet s (setFlags vs f s) :=
  foldl_quiet _ (fun t v => setFlag_quiet v f t) vs s

theorem setFlag?_quiet (v : Volume) (f : Option Flag) (s : State) : Quiet s (setFlag? v f s) := by
  cases f with
  | none => exact .refl s
  | some f => exact setFlag_quiet v f s

theorem countOn_quiet (v : Volume) (f : Counters → Counters) (s : State) : Quiet s (countOn v f s) := by
  unfold countOn
  split
  · exact modVol_quiet v _ s fun running => ⟨running, rfl⟩
  · exact .refl s

theorem recordEnd_quiet (v : Volume) (o : StepOutcome) (f : Option FailKind) (n : Option Note) (s : State) :
    Quiet s (recordEnd v o f n s) := by
  unfold recordEnd
  split
  next r current =>
    exact (modVol_quiet v (fun x => { x with lastEnd := some ⟨r.tag, r.kind, o, f, n⟩ }) s
      fun running => ⟨running, rfl⟩).trans (post_quiet _ _ _)
  · exact .refl s

theorem setGate_quiet (v : Volume) (x : Bool) (s : State) : Quiet s (s.setGate v x) := by
  obtain ⟨g, h⟩ := s.setGate_eq v x
  rw [h]
  exact .of_plant rfl rfl rfl rfl rfl

theorem setVent_quiet (v : Volume) (x : Bool) (s : State) : Quiet s (setVent v x s) :=
  modVol_quiet v _ s fun running => ⟨running, rfl⟩

theorem discard_quiet (v : Volume) (s : State) : Quiet s (discard v s) :=
  modVol_quiet v _ s fun running => ⟨running, rfl⟩

theorem withRma_quiet (s : State) (r : Rma) : Quiet s { s with rma := r } := .of_plant rfl rfl rfl rfl rfl

theorem releaseRough_quiet (v : Volume) (s : State) : Quiet s (releaseRough v s) :=
  (withRma_quiet s _).trans (modVol_quiet v (fun x => { x with roughOpen := false }) _ fun running => ⟨running, rfl⟩)

theorem joinRough_quiet (v : Volume) (s : State) : Quiet s (joinRough v s) :=
  (withRma_quiet s _).trans (modVol_quiet v (fun x => { x with phase := .waitRough, admissionCount := 0 }) _
    fun running => ⟨running, rfl⟩)

theorem withdrawGas_quiet (c : Chamber) (s : State) : Quiet s (withdrawGas c s) :=
  { Quiet.refl s with queue := fun _ mem => (List.mem_filter.1 mem).1 }

theorem withdrawGas_vacant (c : Chamber) (s : State) : ∀ e ∈ (withdrawGas c s).gat.queue, Volume.ch e.chamber ≠ .ch c := by
  intro e mem same
  have other := (List.mem_filter.1 mem).2
  rw [Volume.ch.inj same] at other
  simp at other

theorem modReu_quiet (c : Chamber) (f : Reu → Reu) (s : State) : Quiet s (s.modReu c f) := .of_plant rfl rfl rfl rfl rfl

theorem setDetector_quiet (c : Chamber) (x : Detector) (s : State) : Quiet s (s.setDetector c x) :=
  .of_plant rfl rfl rfl rfl rfl

theorem modPort_quiet (l : Link) (f : Port → Port) (s : State) : Quiet s (s.modPort l f) := .of_plant rfl rfl rfl rfl rfl

theorem headerTest_quiet (s : State) : Quiet s (headerTest s) := by
  obtain ⟨hlm, outbox, h⟩ := headerTest_frame s
  rw [h]
  exact .of_plant rfl rfl rfl rfl rfl

theorem flush_quiet (s : State) : Quiet s (flush s) := by
  obtain ⟨ports, h⟩ := flush_frame s
  rw [h]
  exact .of_plant rfl rfl rfl rfl rfl

theorem failed_quiet (v : Volume) (f : FailKind) (s : State) : Quiet s (failed v f s) :=
  ((recordEnd_quiet v _ _ _ s).trans (setFlag?_quiet v _ _)).trans (countOn_quiet v _ _)

theorem phase_quiet (v : Volume) (p : Phase) (s : State) : Quiet s (s.modVol v fun x => { x with phase := p }) :=
  modVol_quiet v _ s fun running => ⟨running, rfl⟩

theorem enterHighPump_quiet (v : Volume) (s : State) : Quiet s (enterHighPump v s) :=
  (phase_quiet v .highPump s).trans (setGate_quiet v true _)

theorem enterIgnite_quiet (c : Chamber) (r : StepRecord) (s : State) : Quiet s (enterIgnite c r s) :=
  (phase_quiet (.ch c) .ignite s).trans
    (modReu_quiet c (fun u => { u with rfOn := true, powerCode := powerCodeOf r.power, strikeTimer := 0 }) _)

theorem enterEtch_quiet (c : Chamber) (r : StepRecord) (s : State) : Quiet s (enterEtch c r s) := by
  have etch := fun f => (phase_quiet (.ch c) .etch s).trans (modReu_quiet c f _)
  unfold enterEtch
  dsimp only
  split
  · exact (etch _).trans (setDetector_quiet c _ _)
  · exact etch _

theorem afterTransition_quiet (c : Chamber) (r : StepRecord) (s : State) : Quiet s (afterTransition c r s) := by
  unfold afterTransition
  split
  · exact enterIgnite_quiet c r s
  · exact enterEtch_quiet c r s
  · exact modVol_quiet (.ch c) _ s fun running => ⟨running, rfl⟩

theorem retried_quiet (v : Volume) (s : State) : Quiet s (retried v s) :=
  ((modVol_quiet v (fun x => { x with retriesLeft := x.retriesLeft - 1 }) s fun running => ⟨running, rfl⟩).trans
    (setFlag_quiet v _ _)).trans (countOn_quiet v _ _)

theorem stallRetry_quiet (v : Volume) (s : State) : Quiet s (stallRetry v s) :=
  ((retried_quiet v s).trans (releaseRough_quiet v _)).trans (joinRough_quiet v _)

theorem strikeRetry_quiet (c : Chamber) (s : State) : Quiet s (strikeRetry c s) := by
  have dark : Quiet s (struck c s) := .of_plant rfl rfl rfl rfl rfl
  rw [strikeRetry_eq]
  exact ((dark.trans (setFlag_quiet _ _ _)).trans (countOn_quiet _ _ _)).trans (phase_quiet (.ch c) .retryPause _)

theorem pumpedBack_quiet (v : Volume) (s : State) : Quiet s (pumpedBack v s) :=
  (releaseRough_quiet v s).trans (modVol_quiet v _ _ fun running => ⟨running, rfl⟩)

theorem leaveStep_quiet (v : Volume) (s : State) : Quiet s (leaveStep v s) := by
  cases v with
  | ch c => exact (withdrawGas_quiet c s).trans (setDetector_quiet c _ _)
  | tc => exact .refl s
  | ll l => exact .refl s

theorem completed_quiet (v : Volume) (n : Option Note) (s : State) : Quiet s (completed v n s) :=
  (leaveStep_quiet v s).trans (recordEnd_quiet v _ _ _ _)

/-- A volume that completes its step has no entry in the gas admission queue (R141). -/
theorem completed_vacant (v : Volume) (n : Option Note) (s : State) :
    ∀ e ∈ (completed v n s).gat.queue, Volume.ch e.chamber ≠ v := by
  intro e mem
  have left := (recordEnd_quiet v .completed none n (leaveStep v s)).queue e mem
  cases v with
  | ch c => exact withdrawGas_vacant c s e left
  | tc => nofun
  | ll l => nofun

theorem opened_quiet (v : Volume) (p : Int) (s : State) : Quiet s (opened v p s) :=
  (withRma_quiet s _).trans (modVol_quiet v _ _ fun running => ⟨running, rfl⟩)

theorem granted_quiet (v : Volume) (rest : List Volume) (s : State) : Quiet s (granted v rest s) :=
  (withRma_quiet s _).trans (phase_quiet v .valveWait _)

theorem Vol.afterAdmission_works (x : Vol) : x.afterAdmission.state = x.state ∧ x.afterAdmission.current = x.current
    ∧ x.afterAdmission.flags = x.flags := by
  rw [Vol.afterAdmission_phase]
  exact ⟨rfl, rfl, rfl⟩

/-! ## A volume at its step -/

/-- A volume runs the step of record `r`. -/
structure AtWork (v : Volume) (r : StepRecord) (s : State) : Prop where
  running : (s.vol v).state = .running
  current : (s.vol v).current = some r

theorem Quiet.atWork {s t : State} {v : Volume} {r : StepRecord} (h : Quiet s t) (work : AtWork v r s) : AtWork v r t := by
  obtain ⟨running, current⟩ := h.works v work.running
  exact ⟨running, current.trans work.current⟩

theorem atWork_of_inPhase {s : State} {v : Volume} {p : Phase} {r : StepRecord} (h : inPhase s v p = some r) :
    AtWork v r s := by
  obtain ⟨running, -, current⟩ := inPhase_runs h
  exact ⟨running, current⟩

theorem begun_atWork (v : Volume) (r : StepRecord) (rest : List StepRecord) (b : Bool) (s : State) :
    AtWork v r (begun v r rest b s) := by
  have vol := begun_vol_self v r rest b s
  exact ⟨by rw [vol]; rfl, by rw [vol]; rfl⟩

theorem fillClosed_atWork {v : Volume} {r : StepRecord} {s : State} (work : AtWork v r s) :
    AtWork v r (fillClosed v r s) :=
  ⟨((fillClosed_eased v r s).state v).trans work.running, (fillClosed_within v r s).current.trans work.current⟩

/-! ## Starts that complete at once -/

/-- A start that completes has left the gas admission queue as it found it. -/
def Started.LeavesQueue (q : List GasEntry) : Started → Prop
  | .stands _ => True
  | .completes t => t.gat.queue = q

theorem setGate_gat (v : Volume) (x : Bool) (s : State) : (s.setGate v x).gat = s.gat := by
  obtain ⟨g, h⟩ := s.setGate_eq v x
  rw [h]

theorem startPump_leavesQueue (v : Volume) (r : StepRecord) (s : State) :
    (startPump v r s).LeavesQueue s.gat.queue := by
  have shut : ((setVent v false s).setGate v false).gat.queue = s.gat.queue := congrArg Gat.queue (setGate_gat v false _)
  unfold startPump
  dsimp only
  split
  · trivial
  split
  · rfl
  split
  · trivial
  split
  · split
    · trivial
    · exact shut
  · trivial

theorem purgeFrom_leavesQueue (v : Volume) (r : StepRecord) (n : Nat) (s : State) :
    (purgeFrom v r n s).LeavesQueue s.gat.queue := by
  induction n generalizing s with
  | zero => rfl
  | succ n ih =>
    unfold purgeFrom
    dsimp only
    split
    · split
      · rfl
      split
      · exact ih _
      · trivial
    · trivial

theorem startPurge_leavesQueue (v : Volume) (r : StepRecord) (s : State) :
    (startPurge v r s).LeavesQueue s.gat.queue := by
  unfold startPurge beginCycle
  dsimp only
  split
  · rw [← setGate_gat v false s]
    exact purgeFrom_leavesQueue v r _ _
  · trivial

theorem enterKind_leavesQueue (v : Volume) (r : StepRecord) (carry : Bool) (s : State) :
    (enterKind v r carry s).LeavesQueue s.gat.queue := by
  have gas : Started.LeavesQueue s.gat.queue
      (match v with | .ch c => .stands (startGasKind c r carry s) | _ => .stands s) := by
    cases v <;> trivial
  unfold enterKind
  split
  · exact startPump_leavesQueue v r s
  · trivial
  · exact startPurge_leavesQueue v r s
  · trivial
  · exact gas
  · exact gas
  · exact gas

theorem begun_queue (v : Volume) (r : StepRecord) (rest : List StepRecord) (b : Bool) (s : State) :
    (begun v r rest b s).gat.queue = s.gat.queue := by
  cases v with
  | ch c =>
    obtain ⟨rows, fru, dbc, e⟩ := startChamberPlant_frame c r b
      (s.modVol (.ch c) fun x => x.begin r rest (s.items.stepLimit.get (.ch c)).toNat)
    rw [begun, e]
    rfl
  | tc => rfl
  | ll l => rfl

theorem startStep_leavesQueue (v : Volume) (r : StepRecord) (rest : List StepRecord) (carry : Bool) (s : State) :
    (startStep v r rest carry s).LeavesQueue s.gat.queue := by
  rw [startStep_eq, ← begun_queue v r rest (carry && r.kind == .etch) s]
  exact enterKind_leavesQueue v r _ _

/-! ## Invariants of the step engine -/

/-- `I none` is an invariant that everything within an event keeps, `I (some v)` what stands of it while a request of `v` that
waits for gas is not looked at: between the end of the step that made it and its withdrawal (R55, R141). `counts` says whether
the invariant speaks of waiting requests at all. -/
structure EngineInvariant (I : Option Volume → State → Prop) (counts : Prop) : Prop where
  quiet : ∀ {o s t}, Quiet s t → I o s → I o t
  apart : ∀ {s} (v), I none s → I (some v) s
  own : ∀ {v s} (f : Vol → Vol), (f (s.vol v)).flags = (s.vol v).flags → I (some v) s → I (some v) (s.modVol v f)
  rejoin : ∀ {v s}, I (some v) s → (counts → ∀ e ∈ s.gat.queue, Volume.ch e.chamber ≠ v) → I none s
  zero : ∀ {o s} (c cls k), I o s → I o (zeroChannel c cls s k)
  throttle : ∀ {o s} (c x cls), I o s → I o (postWrite (.throttle c) x cls s)
  joins : ∀ {c r s}, I none s → AtWork (.ch c) r s → requestFails s c r.flows = false → I none (joinGas c r.flows s)
  admits : ∀ {e s}, I none s → e ∈ s.gat.queue → I none (admittedChannels e s)

namespace EngineInvariant

variable {I : Option Volume → State → Prop} {counts : Prop} (inv : EngineInvariant I counts)
include inv

theorem foldl_zeroChannel {o : Option Volume} {s : State} (c : Chamber) (cls : WriteClass) (l : List Chan) (h : I o s) :
    I o (l.foldl (zeroChannel c cls) s) :=
  List.foldlRecOn (motive := I o) l _ h fun _ ht k _ => inv.zero c cls k ht

/-! ### Wind-down, failures and faults (R52 to R55) -/

theorem windDownOwners {v : Volume} {s : State} (h : I (some v) s) : I none (windDownOwners v s) := by
  cases v with
  | ch c =>
    have dark : I (some (.ch c)) (disarm c (rfOff c s)) :=
      inv.quiet ((modReu_quiet c _ s).trans (setDetector_quiet c _ _)) h
    have withdrawn : I none (withdrawGas c (disarm c (rfOff c s))) :=
      inv.rejoin (inv.quiet (withdrawGas_quiet c _) dark) fun _ => withdrawGas_vacant c _
    exact inv.throttle c .opened .urgent (inv.foldl_zeroChannel c .urgent Chan.all withdrawn)
  | tc => exact inv.rejoin h fun _ _ _ => nofun
  | ll l => exact inv.rejoin h fun _ _ _ => nofun

theorem windDown {v : Volume} {s : State} (r : Option HoldRecord) (h : I (some v) s) : I none (windDown v r s) := by
  unfold Machine.windDown
  dsimp only
  have owners := inv.windDownOwners
    (inv.own (fun x => { x with state := if r.isSome then .safing else .ending, phase := .none, hold := r }) rfl h)
  have closed := inv.quiet ((releaseRough_quiet v _).trans (setVent_quiet v false _)) owners
  rw [windDownPlant_eq]
  split
  · exact inv.quiet (setGate_quiet v false _) closed
  · exact closed

/-- A step that fails winds its volume down, with any request of it that waits. -/
theorem failStep_apart {v : Volume} {r : StepRecord} {s : State} (f : FailKind) (h : I (some v) s) (work : AtWork v r s) :
    I none (failStep v f s) := by
  have failed := inv.quiet (failed_quiet v f s) h
  cases course : r.onFail with
  | hold =>
    rw [failStep_hold f work.running work.current course]
    exact inv.windDown _ failed
  | abort =>
    rw [failStep_abort f work.running work.current course]
    exact inv.windDown _ (inv.quiet (discard_quiet v _) failed)

theorem failStep {s : State} (v : Volume) (f : FailKind) (h : I none s) : I none (failStep v f s) := by
  rcases failStep_cases v f s with same | ⟨r, running, current, -⟩
  · rw [same]
    exact h
  · exact inv.failStep_apart f (inv.apart v h) ⟨running, current⟩

theorem takeFault {s : State} (v : Volume) (k : HoldCause) (h : I none s) : I none (takeFault v k s) := by
  unfold Machine.takeFault
  split
  · have flagged := inv.quiet (setFlag?_quiet v k.flag s) h
    dsimp only
    split
    · exact inv.windDown _ (inv.apart v (inv.quiet (recordEnd_quiet v _ _ _ _) flagged))
    next ending =>
      have stopped : ((setFlag? v k.flag s).vol v).state ≠ .running := by simp [ending]
      have safing := inv.quiet (modVol_quiet v (fun x => { x with
        state := .safing, phase := .none, hold := some ⟨k, none, x.currentTag, .none⟩ }) _
        fun running => absurd running stopped) flagged
      split
      · exact inv.quiet (setGate_quiet v false _) safing
      · exact safing
    · exact flagged
    · exact flagged
    · exact flagged
  · exact h

/-! ### Starts and completions of steps (R45, R49) -/

theorem requestGas {c : Chamber} {r : StepRecord} {s : State} (h : I none s) (work : AtWork (.ch c) r s) :
    I none (requestGas c r.flows s) := by
  unfold Machine.requestGas
  split
  · exact inv.failStep _ _ h
  next passes => exact inv.joins h work (Bool.eq_false_iff.2 passes)

theorem startPump {s : State} (v : Volume) (r : StepRecord) (h : I none s) : I none (startPump v r s).state := by
  unfold Machine.startPump
  dsimp only
  have shut := inv.quiet (setVent_quiet v false s) h
  split
  · exact inv.failStep v _ h
  split
  · exact h
  split
  · exact inv.quiet (enterHighPump_quiet v _) shut
  have closed := inv.quiet (setGate_quiet v false _) shut
  split
  · split
    · exact inv.quiet (phase_quiet v .turboWait _) closed
    · exact closed
  · exact inv.quiet (joinRough_quiet v _) closed

theorem enterFill {v : Volume} {r : StepRecord} {s : State} (h : I none s) (work : AtWork v r s) :
    I none (enterFill v r s) := by
  cases v with
  | ch c =>
    have waits := phase_quiet (.ch c) .waitGas s
    exact inv.requestGas (inv.quiet waits h) (waits.atWork work)
  | tc => exact inv.quiet ((setVent_quiet .tc true s).trans (phase_quiet .tc .fill _)) h
  | ll l => exact inv.quiet ((setVent_quiet (.ll l) true s).trans (phase_quiet (.ll l) .fill _)) h

theorem purgeFrom {v : Volume} {r : StepRecord} (n : Nat) {s : State} (h : I none s) (work : AtWork v r s) :
    I none (purgeFrom v r n s).state := by
  induction n generalizing s with
  | zero => exact h
  | succ n ih =>
    unfold Machine.purgeFrom
    dsimp only
    have retries := modVol_quiet v (fun x => { x with retriesLeft := (s.items.pumpBackRetries.get v).toNat }) s
      fun running => ⟨running, rfl⟩
    have cycles := retries.trans (modVol_quiet v (fun x => { x with cyclesLeft := x.cyclesLeft - 1 }) _
      fun running => ⟨running, rfl⟩)
    have next := cycles.trans (modVol_quiet v (fun x => { x with limitCount := 0 }) _ fun running => ⟨running, rfl⟩)
    split
    · split
      · exact inv.quiet cycles h
      split
      · exact ih (inv.quiet next h) (next.atWork work)
      · exact inv.enterFill (inv.quiet next h) (next.atWork work)
    · exact inv.quiet (retries.trans (joinRough_quiet v _)) h

theorem beginCycle {v : Volume} {r : StepRecord} {s : State} (h : I none s) (work : AtWork v r s) :
    I none (beginCycle v r s).state := by
  have begun := modVol_quiet v (fun x => { x with limitCount := 0 }) s fun running => ⟨running, rfl⟩
  unfold Machine.beginCycle
  dsimp only
  split
  · exact inv.purgeFrom _ (inv.quiet begun h) (begun.atWork work)
  · exact inv.enterFill (inv.quiet begun h) (begun.atWork work)

theorem startGasKind {c : Chamber} {r : StepRecord} {s : State} (carry : Bool) (h : I none s) (work : AtWork (.ch c) r s) :
    I none (startGasKind c r carry s) := by
  have windowed := modVol_quiet (.ch c) (fun x => { x with window := windowOf r (s.code? (.vol (.ch c))) }) s
    fun running => ⟨running, rfl⟩
  cases carry with
  | true =>
    have etches := windowed.trans (enterEtch_quiet c r _)
    exact inv.requestGas (inv.quiet etches h) (etches.atWork work)
  | false =>
    have waits := windowed.trans (phase_quiet (.ch c) .waitGas _)
    exact inv.requestGas (inv.quiet waits h) (waits.atWork work)

theorem enterKind {v : Volume} {r : StepRecord} {s : State} (carry : Bool) (h : I none s) (work : AtWork v r s) :
    I none (enterKind v r carry s).state := by
  have gas : I none
      (match v with | .ch c => Started.stands (Machine.startGasKind c r carry s) | _ => .stands s).state := by
    cases v with
    | ch c => exact inv.startGasKind carry h work
    | tc => exact h
    | ll l => exact h
  have shut := setGate_quiet v false s
  unfold Machine.enterKind
  split
  · exact inv.startPump v r h
  · exact inv.quiet ((shut.trans (setVent_quiet v true _)).trans (phase_quiet v .venting _)) h
  · exact inv.beginCycle (inv.quiet shut h) (shut.atWork work)
  · exact inv.quiet (phase_quiet v .dwell s) h
  · exact gas
  · exact gas
  · exact gas

theorem startChamberPlant {o : Option Volume} {c : Chamber} {s : State} (r : StepRecord) (carry : Bool) (h : I o s) :
    I o (startChamberPlant c r carry s) := by
  have off := inv.quiet (modReu_quiet c (fun u => u.begin r carry) s) h
  have zeros : I o (startZeros c r.kind (s.modReu c fun u => u.begin r carry)) := by
    unfold startZeros
    split
    · exact inv.foldl_zeroChannel c .normal Chan.all off
    · exact inv.foldl_zeroChannel c .normal Chan.all off
    · exact inv.foldl_zeroChannel c .normal Chan.all off
    · exact off
  rw [startChamberPlant_eq]
  cases throttleAim r with
  | none => exact zeros
  | some x => exact inv.throttle c x .normal zeros

theorem begun {v : Volume} {s : State} (r : StepRecord) (rest : List StepRecord) (b : Bool) (h : I (some v) s) :
    I (some v) (begun v r rest b s) := by
  have began := inv.own (fun x => x.begin r rest (s.items.stepLimit.get v).toNat) rfl h
  cases v with
  | ch c => exact inv.startChamberPlant r b began
  | tc => exact began
  | ll l => exact began

/-- A step starts on a volume that no longer waits for gas (R45). -/
theorem startStep {v : Volume} {s : State} (r : StepRecord) (rest : List StepRecord) (carry : Bool) (h : I (some v) s)
    (vacant : counts → ∀ e ∈ s.gat.queue, Volume.ch e.chamber ≠ v) : I none (startStep v r rest carry s).state := by
  rw [startStep_eq]
  refine inv.enterKind _ (inv.rejoin (inv.begun r rest _ h) ?_) (begun_atWork v r rest _ s)
  rwa [begun_queue]

theorem startSteps {v : Volume} (l : List StepRecord) (carry : Bool) {s : State} (h : I (some v) s)
    (vacant : counts → ∀ e ∈ s.gat.queue, Volume.ch e.chamber ≠ v) : I none (startSteps v l carry s) := by
  induction l generalizing s carry with
  | nil =>
    exact inv.windDown (some (Vol.holdRecord _ .underflow none))
      (inv.quiet ((setFlag_quiet v .underflow s).trans (countOn_quiet v Counters.countUnderflow _)) h)
  | cons r rest ih =>
    have started := inv.startStep r rest carry h vacant
    have queue := startStep_leavesQueue v r rest carry s
    unfold Machine.startSteps
    cases start : Machine.startStep v r rest carry s with
    | stands t =>
      rw [start] at started
      exact started
    | completes t =>
      rw [start] at started queue
      have recorded := recordEnd_quiet v .completed none none t
      have apart := inv.apart v (inv.quiet recorded started)
      dsimp only
      split
      · exact inv.windDown _ apart
      · refine ih false apart fun speaks e mem => vacant speaks e ?_
        exact queue ▸ recorded.queue e mem

theorem completeStep {s : State} (v : Volume) (n : Option Note) (h : I none s) : I none (completeStep v n s) := by
  by_cases running : (s.vol v).state = .running
  · cases current : (s.vol v).current with
    | none =>
      rw [completeStep_idle n (.inr current)]
      exact h
    | some r =>
      have completed := inv.apart v (inv.quiet (completed_quiet v n s) h)
      rw [completeStep_running n running current]
      split
      · exact inv.windDown _ completed
      · exact inv.startSteps _ _ completed fun _ => completed_vacant v n s
  · rw [completeStep_idle n (.inl running)]
    exact h

theorem settleStart {x : Started} (v : Volume) (h : I none x.state) : I none (x.settle v) := by
  cases x with
  | stands s => exact h
  | completes s => exact inv.completeStep v none h

/-! ### What follows within an event -/

theorem endRough {s : State} (v : Volume) (r : StepRecord) (h : I none s) : I none (endRough v r s) := by
  have released := inv.quiet (releaseRough_quiet v s) h
  unfold Machine.endRough
  dsimp only
  split
  · exact inv.quiet (phase_quiet v .turboWait _) released
  · exact inv.completeStep v none released

theorem endFill {v : Volume} {r : StepRecord} {s : State} (h : I none s) (work : AtWork v r s) : I none (endFill v r s) := by
  have closed : I none (fillClosed v r s) := by
    cases v with
    | ch c =>
      exact List.foldlRecOn (motive := I none) r.flows _ h fun _ ht f _ => inv.zero c .normal f.chan ht
    | tc => exact inv.quiet (setVent_quiet .tc false s) h
    | ll l => exact inv.quiet (setVent_quiet (.ll l) false s) h
  rw [endFill_eq]
  exact inv.settleStart v (inv.purgeFrom _ closed (fillClosed_atWork work))

theorem endPumpBack {v : Volume} {r : StepRecord} {s : State} (h : I none s) (work : AtWork v r s) :
    I none (endPumpBack v r s) := by
  have pumped := pumpedBack_quiet v s
  rw [endPumpBack_eq]
  split
  · exact inv.completeStep v none (inv.quiet pumped h)
  · exact inv.settleStart v (inv.beginCycle (inv.quiet pumped h) (pumped.atWork work))

theorem admitEntry {e : GasEntry} {s : State} (h : I none s) (mem : e ∈ s.gat.queue) : I none (admitEntry e s) := by
  rw [admitEntry_eq]
  obtain ⟨state, current, flags⟩ := Vol.afterAdmission_works ((headerTest (admittedChannels e s)).vol (.ch e.chamber))
  exact inv.quiet ((headerTest_quiet _).trans (modVol_quiet (.ch e.chamber) Vol.afterAdmission _
    (fun running => ⟨state.trans running, current⟩) flags)) (inv.admits h mem)

theorem move {s t : State} (move : Move s t) (h : I none s) : I none t := by
  cases move with
  | completes v n => exact inv.completeStep v n h
  | closes v => exact inv.completeStep v none (inv.quiet (setVent_quiet v false s) h)
  | fails v f => exact inv.failStep v f h
  | renews v => exact inv.quiet (modVol_quiet v _ s fun running => ⟨running, rfl⟩) h
  | retries v => exact inv.quiet (stallRetry_quiet v s) h
  | strikes c => exact inv.quiet (strikeRetry_quiet c s) h
  | relights c r => exact inv.quiet (enterIgnite_quiet c r s) h
  | idles v drained ending =>
    refine inv.quiet ((modVol_quiet v _ s fun running => ?_).trans (post_quiet _ _ _)) h
    simp [running] at ending
  | holds v drained safing =>
    refine inv.quiet ((modVol_quiet v _ s fun running => ?_).trans (post_quiet _ _ _)) h
    simp [running] at safing
  | transits c r => exact inv.quiet (afterTransition_quiet c r s) h
  | lights c => exact inv.quiet ((phase_quiet (.ch c) .confirm s).trans (modReu_quiet c _ _)) h
  | highPumps v => exact inv.quiet (enterHighPump_quiet v s) h
  | roughs v r => exact inv.endRough v r h
  | vents v => exact inv.quiet (modVol_quiet v _ s fun running => ⟨running, rfl⟩) h
  | fills v r phase => exact inv.endFill h (atWork_of_inPhase phase)
  | pumps v r phase => exact inv.endPumpBack h (atWork_of_inPhase phase)
  | opens v _ p => exact inv.quiet (opened_quiet v p s) h
  | grants v rest => exact inv.quiet (granted_quiet v rest s) h
  | admits e next =>
    obtain ⟨mem, -⟩ := nextAdmission_some next
    exact inv.admitEntry h mem

theorem settle {s : State} (n : Nat) (h : I none s) : I none (settle n s) :=
  settle_keeps (fun _ _ => inv.move) n h

theorem finish {s : State} (h : I none s) : I none (finish s) := inv.quiet (flush_quiet _) (inv.settle settleBound h)

theorem whenDue {s : State} {o : Option State} (h : I none s) (due : Leads (fun t => Move s t ∨ t = s) o) :
    I none (whenDue o s) := by
  unfold Machine.whenDue
  split
  next t =>
    rcases due t rfl with move | same
    · exact inv.finish (inv.move move h)
    · exact inv.finish (same ▸ h)
  · exact h

end EngineInvariant

end Sys2Proof.Machine
end

section
/-! Proofs about the completions of the device bus: what the settling of an event leaves of the device rows, the final-write test,
the deviation check, and the good answers (R98, R120, R124, R125, R130, R131). -/

namespace Sys2Proof.Machine

open Sys2Proof

/-! ## The device rows within an event -/

/-- From `s` to `t` every device row stands but for its place in the pending-write table. -/
def DevicesStand (s t : State) : Prop := ∀ d, t.device d = { s.device d with pending := (t.device d).pending }

theorem DevicesStand.refl (s : State) : DevicesStand s s := fun _ => rfl

theorem DevicesStand.trans {s t u : State} (h : DevicesStand s t) (k : DevicesStand t u) : DevicesStand s u :=
  fun d => (k d).trans (by rw [h d])

theorem DevicesStand.of_devices {s t : State} (h : t.dbc.devices = s.dbc.devices) : DevicesStand s t := fun d => by
  rw [State.device, h]
  rfl

theorem PlacesOnly.devicesStand {s t : State} (h : PlacesOnly s t) : DevicesStand s t := h.2

theorem startTransition_devicesStand (c : Chamber) (k : Chan) (target n : Nat) (cls : WriteClass) (s : State) :
    DevicesStand s (startTransition c k target n cls s) :=
  (DevicesStand.of_devices rfl).trans (startTransition_placesOnly c k target n cls s).devicesStand

theorem zeroChannel_devicesStand (c : Chamber) (cls : WriteClass) (k : Chan) (s : State) :
    DevicesStand s (zeroChannel c cls s k) := by
  unfold zeroChannel
  split
  · exact .refl s
  · exact startTransition_devicesStand c k 0 0 cls s

theorem admittedChannels_devicesStand (e : GasEntry) (s : State) : DevicesStand s (admittedChannels e s) := by
  refine List.foldlRecOn (motive := DevicesStand s) Chan.all _ (.of_devices rfl) fun t ht k _ => ht.trans ?_
  rcases admitChannel_cases e.chamber k e.aims t with h | h <;> rw [h]
  · exact .refl t
  · exact startTransition_devicesStand _ _ _ _ _ t

/-- Within an event a device row changes by posts and write starts alone (R121, R122). -/
theorem devicesStand_invariant (s : State) : EngineInvariant (fun _ => DevicesStand s) False where
  quiet change h := h.trans (.of_devices change.devices)
  apart _ h := h
  own _ _ h := h
  rejoin h _ := h
  zero c cls k h := h.trans (zeroChannel_devicesStand c cls k _)
  throttle c x cls h := h.trans (postWrite_placesOnly (.throttle c) x cls _).devicesStand
  joins h _ _ := h
  admits h _ := h.trans (admittedChannels_devicesStand _ _)

/-! ## The end of a completion (R120, R122) -/

theorem finishBus_devicesStand (s : State) : DevicesStand s (finishBus s) := by
  have settled : DevicesStand s (freeBus (settle settleBound s)) :=
    (devicesStand_invariant s).settle settleBound (.refl s)
  exact (settled.trans (arbitrate_device _)).trans (.of_devices (flush_quiet _).devices)

theorem finishBus_eventFrame (s : State) : EventFrame s (finishBus s) :=
  ((settle_eventFrame settleBound s).trans (arbitrate_eventFrame (freeBus (settle settleBound s)))).trans (flush_eventFrame _)

theorem settle_of_done {s : State} (h : nextDue? s = none) (n : Nat) : settle n s = s := by
  cases n with
  | zero => rfl
  | succ n =>
    unfold settle
    rw [h]

/-- A completion that leads to nothing frees the bus and asks the arbiter. -/
theorem finishBus_of_done {s : State} (due : nextDue? s = none) (outbox : s.outbox = []) :
    finishBus s = arbitrate (freeBus s) := by
  obtain ⟨b, h⟩ := arbitrate_dbc (freeBus s)
  rw [finishBus, settle_of_done due, h]
  exact flush_of_empty_outbox outbox

/-! ## The final-write test (R98) -/

/-- What a final write leaves: the header test of the state with the row released to its target. -/
theorem finalWrite_of_final {s : State} {c : Chamber} {k : Chan} (h : isFinalWrite s c k = true) :
    finalWrite c k s = headerTest ((s.setRow c k ⟨(s.row c k).target, (s.row c k).target, false⟩).setCheck c k
      { s.check c k with settle := 0 }) := if_pos h

theorem finalWrite_of_not_final {s : State} {c : Chamber} {k : Chan} (h : isFinalWrite s c k = false) :
    finalWrite c k s = s := if_neg (by simp [h])

theorem finalWrite_devices (c : Chamber) (k : Chan) (s : State) : (finalWrite c k s).dbc.devices = s.dbc.devices := by
  cases final : isFinalWrite s c k with
  | false => rw [finalWrite_of_not_final final]
  | true =>
    rw [finalWrite_of_final final, headerTest_dbc]
    rfl

theorem finalWrite_eventFrame (c : Chamber) (k : Chan) (s : State) : EventFrame s (finalWrite c k s) := by
  cases final : isFinalWrite s c k with
  | false =>
    rw [finalWrite_of_not_final final]
    exact .refl s
  | true =>
    rw [finalWrite_of_final final]
    exact ((setRow_eventFrame c k _ s).trans (setCheck_eventFrame c k _ _)).trans (headerTest_eventFrame _)

theorem finalWrite_released {s : State} {c : Chamber} {k : Chan} (h : isFinalWrite s c k = true) :
    (finalWrite c k s).row c k = ⟨(s.row c k).target, (s.row c k).target, false⟩
      ∧ ((finalWrite c k s).check c k).settle = 0
      ∧ (∀ d j, (d, j) ≠ (c, k) → (finalWrite c k s).row d j = s.row d j)
      ∧ (finalWrite c k s).dbc.devices = s.dbc.devices ∧ (finalWrite c k s).vols = s.vols := by
  obtain ⟨hlm, outbox, e⟩ := headerTest_frame ((s.setRow c k ⟨(s.row c k).target, (s.row c k).target, false⟩).setCheck c k
    { s.check c k with settle := 0 })
  rw [finalWrite_of_final h, e]
  refine ⟨State.row_setRow_self s c k _, ?_, fun d j ne => State.row_setRow_ne s c d k j _ ne, rfl, rfl⟩
  exact congrArg FlowCheck.settle (State.check_setCheck_self _ c k _)

/-! ## The deviation check (R130) -/

theorem flowDistance_eq (a b : Nat) : flowDistance a b = ((a : Int) - b).natAbs := by
  unfold flowDistance
  split <;> omega

theorem deviationChecked_iff (s : State) (c : Chamber) (k : Chan) : deviationChecked s c k = true ↔
    (s.vol (.ch c)).state = .running ∧ (s.row c k).inFlight = false ∧ 0 < (s.row c k).target
      ∧ s.items.settleTime.get c ≤ ((s.check c k).settle : Int) := by
  simp [deviationChecked, and_assoc]

/-- A check that is made (R130): by whether the reading is past the tolerance, and its count at the debounce. -/
theorem deviationCheck_made {s : State} {c : Chamber} {k : Chan} (flow : Nat) (h : deviationChecked s c k = true) :
    deviationCheck c k flow s =
      if tolerance s c (s.row c k).target < ((flow : Int) - (s.row c k).target).natAbs then
        if s.items.debounce.get c ≤ ((s.check c k).deviation : Int) + 1 then
          failStep (.ch c) .flowDeviation (s.setCheck c k { s.check c k with deviation := 0 })
        else s.setCheck c k { s.check c k with deviation := (s.check c k).deviation + 1 }
      else s.setCheck c k { s.check c k with deviation := 0 } := by
  unfold deviationCheck
  rw [if_pos h]
  simp only [flowDistance_eq, Nat.cast_add, Nat.cast_one]

theorem deviationCheck_unmade {s : State} {c : Chamber} {k : Chan} (flow : Nat) (h : ¬deviationChecked s c k = true) :
    deviationCheck c k flow s = s := if_neg h

/-- Every course of the check is its channel's counts and, at the debounce, a step failure. -/
theorem deviationCheck_cases (c : Chamber) (k : Chan) (flow : Nat) (s : State) : deviationCheck c k flow s = s
    ∨ ∃ x, deviationCheck c k flow s = s.setCheck c k x
      ∨ deviationCheck c k flow s = failStep (.ch c) .flowDeviation (s.setCheck c k x) := by
  by_cases made : deviationChecked s c k = true
  · right
    rw [deviationCheck_made flow made]
    split
    · split
      · exact ⟨_, .inr rfl⟩
      · exact ⟨_, .inl rfl⟩
    · exact ⟨_, .inl rfl⟩
  · exact .inl (deviationCheck_unmade flow made)

theorem deviationCheck_devicesStand (c : Chamber) (k : Chan) (flow : Nat) (s : State) :
    DevicesStand s (deviationCheck c k flow s) := by
  rcases deviationCheck_cases c k flow s with h | ⟨x, h | h⟩ <;> rw [h]
  · exact .refl s
  · exact .of_devices rfl
  · exact (devicesStand_invariant s).failStep (.ch c) .flowDeviation (.of_devices rfl)

theorem deviationCheck_eventFrame (c : Chamber) (k : Chan) (flow : Nat) (s : State) :
    EventFrame s (deviationCheck c k flow s) := by
  rcases deviationCheck_cases c k flow s with h | ⟨x, h | h⟩ <;> rw [h]
  · exact .refl s
  · exact setCheck_eventFrame c k x s
  · exact (setCheck_eventFrame c k x s).trans (failStep_eventFrame _ _ _)

/-- Settles O35, by the test of R98 and the three tests of R130. -/
theorem answersOfMfcs : Obligations.AnswersOfMfcs := by
  refine ⟨fun c k s => ⟨fun final => ?_, fun other => ?_⟩, fun c k f s => ⟨fun unmade => ?_, fun made => ?_⟩⟩
  · exact finalWrite_released ((isFinalWrite_iff s c k).2 final)
  · refine finalWrite_of_not_final (Bool.eq_false_iff.2 fun final => ?_)
    obtain ⟨inFlight, left, posted, pending⟩ := (isFinalWrite_iff s c k).1 final
    simp [inFlight, left, posted, pending] at other
  · exact deviationCheck_unmade f (mt (deviationChecked_iff s c k).1 unmade)
  · rw [deviationCheck_made f ((deviationChecked_iff s c k).2 made)]
    refine ⟨rfl, fun within => if_neg (Nat.not_lt.2 within), fun past => ⟨fun below => ?_, fun reached => ?_⟩⟩
    · rw [if_pos past, if_neg (Int.not_le.2 below)]
    · rw [if_pos past, if_pos reached]

/-! ## Good answers (R124, R125, R131) -/

/-- The device row that a good answer to a SET of `w` leaves (R124). -/
def DeviceRow.answeredSet (y : DeviceRow) (w : PendingWrite) : DeviceRow := { y with written := some w.value, consecutive := 0 }

/-- The device row that a good answer to a READ leaves (R125). -/
def DeviceRow.answeredRead (y : DeviceRow) (r : Reading) : DeviceRow := { y with reading := some r, consecutive := 0 }

theorem setAnswered_device (d : Device) (w : PendingWrite) (s : State) :
    (setAnswered d w s).device d = (s.device d).answeredSet w := by
  have set := s.device_setDevice_self d ((s.device d).answeredSet w)
  cases d with
  | mfc c k =>
    rw [← set]
    exact congrArg (fun p : Per28 DeviceRow => p.get (.mfc c k)) (finalWrite_devices c k _)
  | throttle c => exact set

theorem setAnswered_eventFrame (d : Device) (w : PendingWrite) (s : State) : EventFrame s (setAnswered d w s) := by
  cases d with
  | mfc c k => exact EventFrame.trans (t := s.setDevice (.mfc c k) _) (.refl s) (finalWrite_eventFrame c k _)
  | throttle c => exact .refl s

theorem readAnswered_device (d : Device) (r : Reading) (s : State) :
    (readAnswered d r s).device d
      = { (s.device d).answeredRead r with pending := ((readAnswered d r s).device d).pending } := by
  have set := s.device_setDevice_self d ((s.device d).answeredRead r)
  unfold readAnswered
  dsimp only
  split
  next c k f =>
    refine (deviationCheck_devicesStand c k f _ (.mfc c k)).trans ?_
    rw [← set]
    rfl
  · rw [← set]
    rfl

theorem readAnswered_eventFrame (d : Device) (r : Reading) (s : State) : EventFrame s (readAnswered d r s) := by
  unfold readAnswered
  dsimp only
  split
  next c k f => exact EventFrame.trans (t := s.setDevice (.mfc c k) _) (.refl s) (deviationCheck_eventFrame c k f _)
  · exact .refl s

theorem readingFits_iff (d : Device) (r : Reading) : readingFits d r = true ↔
    (∃ c k f, d = .mfc c k ∧ r = .flow f) ∨ ∃ c x b, d = .throttle c ∧ r = .throttle x b := by
  cases d <;> cases r <;> simp [readingFits]

section Answers
variable {s : State} {d : Device} {n : Nat}

theorem answerSet_counts {w : PendingWrite} (h : s.dbc.inFlight = some ⟨d, .set w, n, false⟩) :
    answerSet s = finishBus (setAnswered d w s) := by
  simp [answerSet, h, complete]

theorem answerRead_counts {r : Reading} (h : s.dbc.inFlight = some ⟨d, .read, n, false⟩) (fits : readingFits d r = true) :
    answerRead r s = finishBus (readAnswered d r s) := by
  simp [answerRead, h, fits, complete]

theorem answerSet_discarded {w : PendingWrite} (h : s.dbc.inFlight = some ⟨d, .set w, n, true⟩) :
    answerSet s = finishBus s := by
  simp [answerSet, h, complete]

theorem answerRead_discarded {r : Reading} (h : s.dbc.inFlight = some ⟨d, .read, n, true⟩) (fits : readingFits d r = true) :
    answerRead r s = finishBus s := by
  simp [answerRead, h, fits, complete]

theorem endUnanswered_discarded {op : BusOp} (h : s.dbc.inFlight = some ⟨d, op, n, true⟩) :
    endUnanswered s = finishBus s := by
  simp [endUnanswered, h, complete]

theorem answerSet_of_read {b : Bool} (h : s.dbc.inFlight = some ⟨d, .read, n, b⟩) : answerSet s = s := by
  simp [answerSet, h]

theorem answerRead_unfit {op : BusOp} {b : Bool} {r : Reading} (h : s.dbc.inFlight = some ⟨d, op, n, b⟩)
    (unfit : op ≠ .read ∨ readingFits d r = false) : answerRead r s = s := by
  cases op with
  | set w => simp [answerRead, h]
  | read =>
    have misfit : readingFits d r = false := by simpa using unfit
    simp [answerRead, h, misfit]

end Answers

theorem setGoodAnswer_taken {s : State} {d : Device} {w : PendingWrite} {n : Nat}
    (h : s.dbc.inFlight = some ⟨d, .set w, n, false⟩) :
    exec .setGoodAnswer s = .next (finishBus (setAnswered d w s))
      ∧ EventFrame s (finishBus (setAnswered d w s))
      ∧ (finishBus (setAnswered d w s)).device d = { (s.device d).answeredSet w with
          pending := ((finishBus (setAnswered d w s)).device d).pending } := by
  refine ⟨congrArg _ (answerSet_counts h), (setAnswered_eventFrame d w s).trans (finishBus_eventFrame _), ?_⟩
  refine (finishBus_devicesStand _ d).trans ?_
  rw [setAnswered_device]

theorem readGoodAnswer_taken {s : State} {d : Device} {r : Reading} {n : Nat}
    (h : s.dbc.inFlight = some ⟨d, .read, n, false⟩) (fits : readingFits d r = true) :
    exec (.readGoodAnswer r) s = .next (finishBus (readAnswered d r s))
      ∧ EventFrame s (finishBus (readAnswered d r s))
      ∧ (finishBus (readAnswered d r s)).device d = { (s.device d).answeredRead r with
          pending := ((finishBus (readAnswered d r s)).device d).pending } := by
  refine ⟨congrArg _ (answerRead_counts h fits), (readAnswered_eventFrame d r s).trans (finishBus_eventFrame _), ?_⟩
  refine (finishBus_devicesStand _ d).trans ?_
  rw [readAnswered_device]

/-- Settles O33: a completion is its effect on the device and on GAT, then the end of the event with the bus free. -/
theorem goodAnswersTaken : Obligations.GoodAnswersTaken := by
  refine ⟨fun s d w n flying => ?_, fun s d r n flying fits => ?_, readingFits_iff, fun s d op n flying => ⟨?_, ?_, ?_, ?_⟩,
    fun s => ⟨rfl, finishBus_eventFrame s, finishBus_of_done, finishBus_devicesStand s⟩,
    fun s d op n b flying => ⟨?_, fun r unfit => ?_⟩, fun s r free => ?_⟩
  · obtain ⟨taken, frame, row⟩ := setGoodAnswer_taken flying
    refine ⟨_, taken, by rw [row]; rfl, by rw [row]; rfl, by rw [row]; rfl, by rw [row]; rfl, frame, ?_⟩
    rintro u rfl
    cases d <;> rfl
  · obtain ⟨taken, frame, row⟩ := readGoodAnswer_taken flying fits
    refine ⟨_, taken, by rw [row]; rfl, by rw [row]; rfl, by rw [row]; rfl, by rw [row]; rfl, frame, ?_⟩
    rintro u rfl
    refine ⟨?_, ?_⟩
    · rintro c rfl
      rfl
    · rintro c k f rfl rfl
      rfl
  · exact congrArg _ (endUnanswered_discarded flying)
  · exact congrArg _ (endUnanswered_discarded flying)
  · rintro w rfl
    exact congrArg _ (answerSet_discarded flying)
  · rintro r rfl fits
    exact congrArg _ (answerRead_discarded flying fits)
  · rintro rfl
    exact congrArg _ (answerSet_of_read flying)
  · exact congrArg _ (answerRead_unfit flying unfit)
  · have idle : answerSet s = s ∧ answerRead r s = s ∧ endUnanswered s = s := by
      simp [answerSet, answerRead, endUnanswered, free]
    obtain ⟨set, read, unanswered⟩ := idle
    exact ⟨congrArg _ set, congrArg _ read, congrArg _ unanswered, congrArg _ unanswered⟩

end Sys2Proof.Machine
end

section
/-! Samples, ticks, input functions, link loss and the requests that leave channels, devices and items alone keep every invariant
of the step engine (R5 to R16, R84, R88, R110, R134, R143, R153, R154, R161, R22 to R44, R109, R147 to R151). -/

namespace Sys2Proof.Machine

open Sys2Proof

/-! ## Quiet events -/

theorem setGauge_quiet (g : Gauge) (x : GaugeChannel) (s : State) : Quiet s (s.setGauge g x) := .of_plant rfl rfl rfl rfl rfl

theorem setCheck_quiet (c : Chamber) (k : Chan) (x : FlowCheck) (s : State) : Quiet s (s.setCheck c k x) :=
  { Quiet.refl s with }

theorem takeSample_quiet (g : Gauge) (x : GaugeSample) (s : State) : Quiet s (takeSample g x s) := by
  unfold takeSample
  dsimp only
  split
  · exact (setGauge_quiet g _ s).trans (setFlags_quiet _ _ _)
  · exact setGauge_quiet g _ s

theorem tripCleared_quiet (g : Gauge) (s : State) : Quiet s (tripCleared g s) := by
  unfold tripCleared
  split
  · exact .of_plant rfl rfl rfl rfl rfl
  · exact .refl s

theorem sampleWindow_quiet (c : Chamber) (s : State) : Quiet s (sampleWindow c s) := by
  unfold sampleWindow
  split
  · split
    · exact modVol_quiet (.ch c) _ s fun running => ⟨running, rfl⟩
    · exact .refl s
  · exact .refl s

theorem dropLoad_quiet (v : Volume) (s : State) : Quiet s (dropLoad v s) := by
  unfold dropLoad
  split
  · split
    · exact withRma_quiet s _
    · exact .refl s
  · exact .refl s

theorem sampleVolume_quiet (v : Volume) (s : State) : Quiet s (sampleVolume v s) := by
  cases v with
  | ch c => exact (dropLoad_quiet (.ch c) s).trans (sampleWindow_quiet c _)
  | tc => exact dropLoad_quiet .tc s
  | ll l => exact dropLoad_quiet (.ll l) s

theorem confirmEndpoint_quiet (c : Chamber) (r : StepRecord) (p : Endpoint) (s : State) :
    Quiet s (confirmEndpoint c r p s) := .of_plant rfl rfl rfl rfl rfl

theorem judgeSample_quiet (c : Chamber) (r : StepRecord) (p : Endpoint) (n : Nat) (s : State) :
    Quiet s (judgeSample c r p n s) := by
  unfold judgeSample
  dsimp only
  split
  · split
    · exact (setDetector_quiet c _ s).trans (confirmEndpoint_quiet c r p _)
    · exact setDetector_quiet c _ s
  · split
    · exact setDetector_quiet c _ s
    · exact .refl s

theorem emissionSampleEffect_quiet (c : Chamber) (n : Nat) (s : State) : Quiet s (emissionSampleEffect c n s) := by
  have held : Quiet s { s with pec := { s.pec with emission := s.pec.emission.set c (some n) } } :=
    .of_plant rfl rfl rfl rfl rfl
  unfold emissionSampleEffect examineSample
  split
  · split
    · split
      · exact held
      · exact held.trans (judgeSample_quiet c _ _ n _)
    · exact held
  · exact held

theorem secondTickEffect_quiet (s : State) : Quiet s (secondTickEffect s) := by
  obtain ⟨vols, h, vol⟩ := secondTickEffect_eq s
  rw [h]
  have counted : ∀ v, (State.vol { s with vols := vols } v).state = (s.vol v).state
      ∧ (State.vol { s with vols := vols } v).current = (s.vol v).current
      ∧ (State.vol { s with vols := vols } v).flags = (s.vol v).flags := fun v => by
    have same : State.vol { s with vols := vols } v = s.secondTickVol v := vol v
    rw [same, State.secondTickVol_eq]
    exact ⟨rfl, rfl, rfl⟩
  refine .of_vols (fun v running => ?_) (fun v f set => ?_) rfl rfl rfl rfl
  all_goals obtain ⟨state, current, flags⟩ := counted v
  · exact ⟨state.trans running, current⟩
  · rw [Vol.hasFlag, flags]
    exact set

/-- What a step tick counts before the generators step (R2, R13, R48, R130, R137, R138, R142). -/
def stepTickCounts (s : State) : State :=
  Chamber.all.foldl tickChamber (Volume.all.foldl tickVol (channels.foldl tickCheck (tickBlanking s)))

theorem stepTickEffect_eq_ramps (s : State) : stepTickEffect s = channels.foldl rampTick (stepTickCounts s) := rfl

theorem Vol.stepTick_works (x : Vol) :
    x.stepTick.state = x.state ∧ x.stepTick.current = x.current ∧ x.stepTick.flags = x.flags := by
  rw [Vol.stepTick_eq]
  exact ⟨rfl, rfl, rfl⟩

theorem stepTickCounts_quiet (s : State) : Quiet s (stepTickCounts s) := by
  have blanked : Quiet s (tickBlanking s) := .of_plant rfl rfl rfl rfl rfl
  refine ((blanked.trans (foldl_quiet tickCheck (fun t ck => ?_) channels _)).trans
    (foldl_quiet tickVol (fun t v => ?_) Volume.all _)).trans
    (foldl_quiet tickChamber (fun t c => ?_) Chamber.all _)
  · rw [tickCheck_eq]
    exact setCheck_quiet _ _ _ t
  · obtain ⟨state, current, flags⟩ := (t.vol v).stepTick_works
    exact modVol_quiet v Vol.stepTick t (fun running => ⟨state.trans running, current⟩) flags
  · rw [tickChamber_eq]
    exact .of_plant rfl rfl rfl rfl rfl

theorem plasmaChanged_quiet (c : Chamber) (x : Bool) (s : State) : Quiet s (plasmaChanged c x s) := by
  unfold plasmaChanged
  split
  · split
    · exact (phase_quiet (.ch c) .ignite s).trans (modReu_quiet c _ _)
    · split
      · exact modReu_quiet c _ s
      · exact .refl s
  · exact .refl s

theorem withBase_quiet (s : State) (b : TimeBase) : Quiet s { s with base := b } := .of_plant rfl rfl rfl rfl rfl

theorem mapPorts_quiet (f : Port → Port) (s : State) : Quiet s (mapPorts f s) :=
  foldl_quiet _ (fun t l => modPort_quiet l f t) Link.all s

theorem forceInactive_quiet (g : Gauge) (s : State) : Quiet s (forceInactive s g) := by
  unfold forceInactive
  split
  · exact (setGauge_quiet g _ s).trans (tripCleared_quiet g _)
  · exact .refl s

theorem reopen_quiet (s : State) : Quiet s (reopen s) := by
  have discarded := foldl_quiet (fun s v => discard v s) (fun t v => discard_quiet v t) Volume.all s
  have configuring : Quiet s { Volume.all.foldl (fun s v => discard v s) s with
      cfg := { (Volume.all.foldl (fun s v => discard v s) s).cfg with serving := false } } := { discarded with }
  have forced := configuring.trans (foldl_quiet forceInactive (fun t g => forceInactive_quiet g t) Gauge.all _)
  have unblanked := fun t : State => (Quiet.of_plant (t := { t with pec := { t.pec with blanking := none } })
    rfl rfl rfl rfl rfl : Quiet t _)
  exact ((forced.trans (unblanked _)).trans (foldl_quiet _ (fun t v => (setGate_quiet v false t).trans
    (setVent_quiet v false _)) Volume.all _)).trans (mapPorts_quiet _ _)

theorem onTransferAllow_quiet (l : Link) (n : Nat) (x : Bool) (s : State) : Quiet s (onTransferAllow l n x s).1 := by
  unfold onTransferAllow
  split
  · exact .refl s
  · exact .of_plant rfl rfl rfl rfl rfl

theorem onOpenDoor_quiet (l : Link) (n : Nat) (s : State) : Quiet s (onOpenDoor l n s).1 := by
  unfold onOpenDoor
  split
  · exact .refl s
  · split
    · exact .refl s
    · split
      · exact .refl s
      · exact .of_plant rfl rfl rfl rfl rfl

theorem onCloseDoor_quiet (l : Link) (n : Nat) (s : State) : Quiet s (onCloseDoor l n s).1 := by
  unfold onCloseDoor
  split
  · exact .refl s
  · exact .of_plant rfl rfl rfl rfl rfl

theorem withEnable_quiet (s : State) (x : Per4 Bool) : Quiet s { s with gat := { s.gat with enable := x } } :=
  { Quiet.refl s with }

theorem append_quiet (v : Volume) (r : StepRecord) (s : State) : Quiet s (append v r s) :=
  modVol_quiet v _ s fun running => ⟨running, rfl⟩

theorem foldl_kept {α : Type} {P : State → Prop} {f : State → α → State} {l : List α} {s : State}
    (keeps : ∀ s a, P s → P (f s a)) (h : P s) : P (l.foldl f s) :=
  List.foldlRecOn (motive := P) l f h fun t ht a _ => keeps t a ht

namespace EngineInvariant

variable {I : Option Volume → State → Prop} {counts : Prop} (inv : EngineInvariant I counts)
include inv

/-! ## Samples (R5 to R16) -/

theorem tripAsserted {s : State} (g : Gauge) (h : I none s) : I none (tripAsserted g s) := by
  cases g with
  | vol v => exact inv.takeFault v .pressureTrip h
  | manifold => exact inv.quiet (setFlags_quiet _ _ s) h
  | header =>
    have tripped : Quiet s { s with hlm := { s.hlm with trip := true } } := .of_plant rfl rfl rfl rfl rfl
    refine foldl_kept (fun t c k => ?_) (inv.quiet tripped h)
    unfold headerTripChamber
    dsimp only
    split
    · exact inv.takeFault _ _ k
    · exact inv.quiet (setFlag_quiet _ _ t) k

theorem evalComparator {s : State} (g : Gauge) (p : Int) (h : I none s) : I none (evalComparator g p s) := by
  unfold Machine.evalComparator
  split
  · dsimp only
    split
    · exact inv.tripAsserted g (inv.quiet (setGauge_quiet g _ s) h)
    · split
      · exact inv.quiet ((setGauge_quiet g _ s).trans (tripCleared_quiet g _)) h
      · exact inv.quiet (setGauge_quiet g _ s) h
  · exact h

theorem pressureSampleEffect {s : State} (g : Gauge) (n : Nat) (h : I none s) : I none (pressureSampleEffect g n s) := by
  have judged := inv.evalComparator g (sampleOf s g n).code (inv.quiet (takeSample_quiet g (sampleOf s g n) s) h)
  cases g with
  | vol v => exact inv.quiet (sampleVolume_quiet v _) judged
  | manifold => exact judged
  | header => exact judged

/-! ## Input functions (R84, R88, R110, R134, R153, R154) -/

theorem permitLoss {s : State} (c : Chamber) (h : I none s) : I none (permitLoss c s) := by
  unfold Machine.permitLoss
  dsimp only
  split
  · exact inv.takeFault _ _ h
  · exact inv.quiet (setFlag_quiet _ _ s) h

theorem emergencyVolume {s : State} (v : Volume) (h : I none s) : I none (emergencyVolume s v) := by
  have shut := fun t : State => (setGate_quiet v false t).trans (setVent_quiet v false _)
  unfold Machine.emergencyVolume
  dsimp only
  split
  · exact inv.quiet (shut _) (inv.takeFault v .emergencyOff h)
  · exact inv.quiet (shut _) h

theorem emergencyAsserted {s : State} (before : State) (h : I none s) : I none (emergencyAsserted before s) :=
  foldl_kept (fun t c => inv.quiet (setFlag_quiet (.ch c) .permitLost t)) (foldl_kept (fun _ v => inv.emergencyVolume v) h)

theorem turboLoss {s : State} (t : Turbo) (h : I none s) : I none (turboLoss t s) := by
  unfold Machine.turboLoss
  dsimp only
  split
  · exact inv.takeFault _ _ h
  · exact inv.quiet (setGate_quiet _ _ s) h

theorem functionChanged {s : State} (f : InputFn) (x : Bool) (h : I none s) : I none (functionChanged f x s) := by
  have changed : Quiet s { s with flu := { s.flu with fns := s.flu.fns.set f x } } := .of_plant rfl rfl rfl rfl rfl
  have set := inv.quiet changed h
  cases f with
  | facilityGasOk => exact foldl_kept (fun _ c => inv.permitLoss c) set
  | exhaustOk => exact foldl_kept (fun _ c => inv.permitLoss c) set
  | emergencyOff =>
    cases x with
    | true => exact inv.emergencyAsserted s set
    | false => exact set
  | plasma c => exact inv.quiet (plasmaChanged_quiet c x _) set
  | lid c => exact set
  | turbo t =>
    unfold Machine.functionChanged
    dsimp only
    split
    · exact inv.turboLoss t set
    · exact set
  | door d => exact set

theorem recompute {s : State} (h : I none s) : I none (recompute s) := by
  refine foldl_kept (fun t f k => ?_) h
  unfold updateFunction
  dsimp only
  split
  · exact k
  · exact inv.finish (inv.functionChanged f _ k)

/-! ## Link loss (R58, R161) -/

theorem linkExpiry {s : State} (l : Link) (h : I none s) : I none (linkExpiry l s) := by
  refine inv.finish (foldl_kept (fun t v k => ?_) (inv.quiet (modPort_quiet l Port.expire s) h))
  unfold linkLossVolume
  split
  · split
    · exact inv.takeFault _ _ k
    · exact inv.takeFault _ _ (inv.quiet (discard_quiet v t) k)
  · exact k

theorem tickSilence {s : State} (l : Link) (h : I none s) : I none (tickSilence s l) := by
  unfold Machine.tickSilence
  split
  · exact h
  · dsimp only
    split
    · exact inv.linkExpiry l (inv.quiet (modPort_quiet l _ s) h)
    · exact inv.quiet (modPort_quiet l _ s) h

/-! ## Requests (R22 to R44, R109, R148 to R150, R173) -/

theorem onLoad {s : State} (l : Link) (n : Nat) (r : RawRecord) (h : I none s) : I none (onLoad l n r s).1 := by
  unfold Machine.onLoad
  split
  · exact h
  next v check =>
    split
    · exact h
    · split
      · exact inv.quiet (append_quiet v _ s) h
      · exact inv.finish (inv.quiet ((countOn_quiet v _ s).trans (setFlag_quiet v .stepOverflow _)) h)

/-- A volume that waits for no gas starts the head of its queue (R39, R42). -/
theorem startQueue {v : Volume} {s : State} (h : I none s)
    (vacant : counts → ∀ e ∈ s.gat.queue, Volume.ch e.chamber ≠ v) : I none (Machine.finish (startQueue v s)) :=
  inv.finish (inv.startSteps _ false (inv.apart v h) vacant)

theorem onRun {s : State} (l : Link) (n : Nat) (h : I none s) (vacant : ∀ v, (s.vol v).state ≠ .running → counts →
    ∀ e ∈ s.gat.queue, Volume.ch e.chamber ≠ v) : I none (onRun l n s).1 := by
  unfold Machine.onRun
  split
  · exact h
  · split
    · exact h
    next tests =>
      obtain ⟨-, idle, -⟩ := runTest_none tests
      exact inv.startQueue h (vacant _ (by simp [idle]))

theorem onResume {s : State} (l : Link) (n : Nat) (h : I none s) (vacant : ∀ v, (s.vol v).state ≠ .running → counts →
    ∀ e ∈ s.gat.queue, Volume.ch e.chamber ≠ v) : I none (onResume l n s).1 := by
  unfold Machine.onResume
  split
  · exact h
  · split
    · exact h
    next tests =>
      obtain ⟨hold, -⟩ := resumeTest_none tests
      exact inv.startQueue h (vacant _ (by simp [hold]))

theorem onHold {s : State} (l : Link) (n : Nat) (h : I none s) : I none (onHold l n s).1 := by
  unfold Machine.onHold
  split
  · exact h
  next v check =>
    split
    · exact inv.finish (inv.windDown (some (Vol.holdRecord _ .requested none))
        (inv.apart v (inv.quiet (recordEnd_quiet v .stopped none none s) h)))
    · exact h

theorem onAbort {s : State} (l : Link) (n : Nat) (h : I none s) : I none (onAbort l n s).1 := by
  unfold Machine.onAbort
  split
  · exact h
  next v check =>
    split
    · exact inv.finish (inv.windDown none (inv.apart v (inv.quiet ((discard_quiet v s).trans
        (recordEnd_quiet v .stopped none none _)) h)))
    · exact h

theorem onClear {s : State} (l : Link) (n : Nat) (h : I none s) : I none (onClear l n s).1 := by
  unfold Machine.onClear
  split
  · exact h
  next v check =>
    split
    next hold =>
      have cleared := modVol_quiet v (fun x => { x with queue := [], hold := none, current := none, state := .idle }) s
        fun running => by simp [running] at hold
      exact inv.finish (inv.quiet (cleared.trans (post_quiet _ _ _)) h)
    · exact inv.quiet (discard_quiet v s) h
    · exact h

theorem onGasEnable {s : State} (l : Link) (n : Nat) (x : Bool) (h : I none s) : I none (onGasEnable l n x s).1 := by
  unfold Machine.onGasEnable
  split
  · exact h
  · split
    · exact h
    · refine inv.finish ?_
      unfold setEnable
      dsimp only
      split
      · exact inv.permitLoss _ (inv.quiet (withEnable_quiet s _) h)
      · exact inv.quiet (withEnable_quiet s _) h

theorem setSlit {s : State} (w : Slit) (x : Bool) (h : I none s) : I none (Machine.finish (setSlit w x s)) := by
  have moved : Quiet s (Machine.setSlit w x s) := .of_plant rfl rfl rfl rfl rfl
  exact inv.finish (inv.quiet moved h)

theorem onOpenSlit {s : State} (l : Link) (n : Nat) (h : I none s) : I none (onOpenSlit l n s).1 := by
  unfold Machine.onOpenSlit
  split
  · exact h
  · split
    · exact h
    · split
      · exact h
      · exact inv.setSlit _ true h

theorem onCloseSlit {s : State} (l : Link) (n : Nat) (h : I none s) : I none (onCloseSlit l n s).1 := by
  unfold Machine.onCloseSlit
  split
  · exact h
  · split
    · exact inv.setSlit _ false h
    · exact h

theorem onReopenConfiguration {s : State} (h : I none s) : I none (onReopenConfiguration s).1 := by
  unfold Machine.onReopenConfiguration
  split
  · exact h
  · exact inv.finish (inv.quiet (reopen_quiet s) h)

end EngineInvariant

end Sys2Proof.Machine
end

section
/-! The law of the generators and the law of the device bus, channel by channel (R97, R103, R114 to R119, R121 to R124): what a ramp
step, the start of a transition, a post and a write start leave of them. -/

namespace Sys2Proof.Machine

open Sys2Proof

/-! ## A generator under its channel's commitment (R97, R115, R116) -/

/-- One channel's part of `coverLaw`. -/
structure Covered (g : Generator) (r : ChannelRow) : Prop where
  sound : g.sound
  target : g.target = r.target
  posted : g.posted ≤ r.commitment
  promised : r.target ≤ r.commitment

theorem coverLaw_iff (s : State) : coverLaw s ↔ ∀ c k, Covered (s.gen c k) (s.row c k) :=
  ⟨fun h c k => by obtain ⟨sound, target, posted, promised⟩ := h c k; exact ⟨sound, target, posted, promised⟩,
    fun h c k => ⟨(h c k).sound, (h c k).target, (h c k).posted, (h c k).promised⟩⟩

/-- A ramp step moves by its increment, and that much less remains (R116). -/
theorem Generator.toGo_step {g : Generator} (left : g.left ≠ 0) (ticks : 0 < g.ticks) :
    g.toGo = g.increment + g.step.toGo := by
  obtain ⟨n, hn⟩ := Nat.exists_eq_succ_of_ne_zero left
  have whole : g.quotient * (n + 1) = g.quotient + g.quotient * n := by ring
  have carries : g.accumulator + g.remainder * (n + 1) = g.accumulator + g.remainder + g.remainder * n := by ring
  by_cases carry : g.ticks ≤ g.accumulator + g.remainder
  · have total : g.accumulator + g.remainder + g.remainder * n
        = g.accumulator + g.remainder - g.ticks + g.remainder * n + g.ticks := by omega
    simp only [toGo, increment, step, hn, Nat.succ_eq_add_one, Nat.add_sub_cancel, if_pos carry, whole, carries]
    rw [total, Nat.add_div_right _ ticks]
    omega
  · simp only [toGo, increment, step, hn, Nat.succ_eq_add_one, Nat.add_sub_cancel, if_neg carry, whole, carries]
    omega

/-- A ramping generator, written out: its accumulator, remainder and steps within its ticks, and the way it has to go. -/
theorem Generator.sound_ramping {g : Generator} (left : g.left ≠ 0) : g.sound ↔
    g.accumulator < g.ticks ∧ g.remainder < g.ticks ∧ g.left ≤ g.ticks
      ∧ (if g.up then g.posted + g.toGo = g.target else g.posted = g.target + g.toGo) := by
  rw [Generator.sound, if_neg left]

theorem Generator.step_accumulator_lt {g : Generator} (acc : g.accumulator < g.ticks) (rem : g.remainder < g.ticks) :
    g.step.accumulator < g.ticks := by
  simp only [Generator.step]
  split <;> omega

theorem Generator.step_sound {g : Generator} (h : g.sound) (left : g.left ≠ 0) : g.step.sound := by
  obtain ⟨acc, rem, steps, way⟩ := (Generator.sound_ramping left).1 h
  have accumulator := Generator.step_accumulator_lt acc rem
  have toGo := Generator.toGo_step left (Nat.zero_lt_of_lt acc)
  have arrives : if g.up then g.step.posted + g.step.toGo = g.target else g.step.posted = g.target + g.step.toGo := by
    cases up : g.up <;> simp only [up, if_true, if_false, Bool.false_eq_true, Generator.step] at way toGo ⊢ <;> omega
  by_cases last : g.step.left = 0
  · have done : g.step.toGo = 0 := by
      rw [Generator.toGo, last, Nat.mul_zero, Nat.mul_zero, Nat.add_zero, Nat.zero_add]
      exact Nat.div_eq_of_lt accumulator
    rw [Generator.sound, if_pos last]
    show g.step.posted = g.target
    rw [done, Nat.add_zero, Nat.add_zero, ite_self] at arrives
    exact arrives
  · have fewer : g.left - 1 ≤ g.ticks := (Nat.sub_le _ _).trans steps
    exact (Generator.sound_ramping last).2 ⟨accumulator, rem, fewer, arrives⟩

theorem Covered.step {g : Generator} {r : ChannelRow} (h : Covered g r) (left : g.left ≠ 0) : Covered g.step r where
  sound := g.step_sound h.sound left
  target := h.target
  promised := h.promised
  posted := by
    obtain ⟨acc, -, -, way⟩ := (Generator.sound_ramping left).1 h.sound
    have toGo := Generator.toGo_step left (Nat.zero_lt_of_lt acc)
    obtain ⟨-, target, posted, promised⟩ := h
    cases up : g.up <;> simp only [up, if_true, if_false, Bool.false_eq_true, Generator.step] at way toGo ⊢ <;> omega

theorem Generator.jump_sound (g : Generator) (target : Nat) (cls : WriteClass) : (g.jump target cls).sound := by
  rw [Generator.sound, if_pos (by rfl)]
  rfl

theorem Generator.stop_sound (g : Generator) : g.stop.sound := by
  rw [Generator.sound, if_pos (by rfl)]
  rfl

/-- A transition starts with its target promised, and its ramp arrives (R97, R115). -/
theorem Covered.start {g : Generator} {r : ChannelRow} (h : Covered g r) (target n : Nat) (cls : WriteClass) :
    Covered (g.start target n cls) (r.start target) := by
  have promised : target ≤ max r.commitment target := le_max_right _ _
  by_cases jump : n = 0
  · rw [Generator.start, if_pos jump]
    exact ⟨g.jump_sound target cls, rfl, promised, promised⟩
  · rw [Generator.start, if_neg jump]
    refine ⟨(Generator.sound_ramping jump).2 ⟨Nat.pos_of_ne_zero jump, ?_, le_rfl, ?_⟩, rfl,
      h.posted.trans (le_max_left _ _), promised⟩
    · have rest := Nat.mod_lt (if g.posted ≤ target then target - g.posted else g.posted - target) (Nat.pos_of_ne_zero jump)
      rw [Nat.mod_eq_sub_div_mul] at rest
      exact rest
    · obtain ⟨quotient, way⟩ := g.ramp_quotient_remainder (n := n) target cls
      have toGo : (g.ramp target n cls).toGo = ((g.posted : Int) - target).natAbs := by
        rw [← way]
        simp only [Generator.toGo, Generator.ramp, Nat.zero_add, Nat.mul_div_cancel _ (Nat.pos_of_ne_zero jump)]
      rw [toGo]
      by_cases up : g.posted ≤ target
      · simp only [Generator.ramp, up, decide_true, if_true]
        omega
      · simp only [Generator.ramp, up, decide_false, Bool.false_eq_true, if_false]
        omega

/-- A released channel's generator stands at 0 (R99, R117). -/
theorem Covered.stop (g : Generator) : Covered g.stop ⟨0, 0, false⟩ := ⟨g.stop_sound, rfl, le_rfl, le_rfl⟩

/-! ## The values that DBC holds for a device (R121, R124) -/

/-- `heldValues` and `latestValue` read from the three places a value can stand in: written, waiting, on its way. -/
structure ValuesCovered (written waiting flying : Option BusValue) (commitment posted : Nat) : Prop where
  held : ∀ x, written = some x ∨ waiting = some x ∨ flying = some x → ∃ f, x = .flow f ∧ f ≤ commitment
  latest : ∀ x, waiting.or (flying.or written) = some x → x = .flow posted

namespace ValuesCovered

variable {written waiting flying : Option BusValue} {x : BusValue} {m n : Nat}

theorem none : ValuesCovered none none none m n := ⟨by simp, by simp⟩

theorem mono {m' : Nat} (h : ValuesCovered written waiting flying m n) (le : m ≤ m') :
    ValuesCovered written waiting flying m' n :=
  ⟨fun x stands => by obtain ⟨f, flow, covered⟩ := h.held x stands; exact ⟨f, flow, covered.trans le⟩, h.latest⟩

/-- A covered post takes the place of what waited. -/
theorem post {m' n' : Nat} (h : ValuesCovered written waiting flying m n) (grows : m ≤ m') (covered : n' ≤ m') :
    ValuesCovered written (some (.flow n')) flying m' n' := by
  refine ⟨fun x stands => ?_, fun x latest => by simpa using latest.symm⟩
  rcases stands with old | new | old
  · exact (h.mono grows).held x (.inl old)
  · exact ⟨n', (Option.some.inj new).symm, covered⟩
  · exact (h.mono grows).held x (.inr (.inr old))

/-- A write start moves the waiting value onto its way. -/
theorem start (h : ValuesCovered written (some x) .none m n) : ValuesCovered written .none (some x) m n :=
  ⟨fun y stands => h.held y (by simpa using stands), fun y latest => h.latest y (by simpa using latest)⟩

/-- A good answer makes the value on its way the written one. -/
theorem write (h : ValuesCovered written waiting (some x) m n) : ValuesCovered (some x) waiting .none m n :=
  ⟨fun y stands => h.held y (by simp only [reduceCtorEq, or_false] at stands; exact .inr stands.symm),
    fun y latest => h.latest y (by cases waiting <;> simpa using latest)⟩

/-- A no-answer brings the value on its way back, unless a newer one waits. -/
theorem bounce (h : ValuesCovered written waiting (some x) m n) : ValuesCovered written (some (waiting.getD x)) .none m n := by
  cases waiting with
  | none => exact ⟨fun y stands => h.held y (by simpa using stands), fun y latest => h.latest y (by simpa using latest)⟩
  | some z =>
    exact ⟨fun y stands => h.held y (by simp only [reduceCtorEq, or_false] at stands; exact stands.imp_right .inl),
      fun y latest => h.latest y (by simpa using latest)⟩

theorem forget (h : ValuesCovered written waiting flying m n) : ValuesCovered .none waiting flying m n :=
  ⟨fun y stands => h.held y (by simp only [reduceCtorEq, false_or] at stands; exact .inr stands),
    fun y latest => h.latest y (by cases waiting <;> cases flying <;> simp_all)⟩

/-- After a final write the written value is the posted one. -/
theorem final (h : ValuesCovered written .none .none m n) : ValuesCovered written .none .none n n :=
  ⟨fun y stands => ⟨n, h.latest y (by simpa using stands), le_rfl⟩, h.latest⟩

end ValuesCovered

/-- The value in flight to a device whose outcome counts; none once the transaction has `ended`, with the bus still to be
freed (R120, R131). -/
def State.flying (ended : Bool) (s : State) (d : Device) : Option BusValue :=
  match ended, s.dbc.inFlight with
  | false, some ⟨e, .set w, _, false⟩ => if e = d then some w.value else none
  | _, _ => none

theorem flying_ended (s : State) (d : Device) : s.flying true d = none := rfl

theorem flying_congr {s t : State} (h : t.dbc.inFlight = s.dbc.inFlight) (ended : Bool) (d : Device) :
    t.flying ended d = s.flying ended d := by
  unfold State.flying
  rw [h]

theorem flying_free {s : State} (h : s.dbc.inFlight = none) (ended : Bool) (d : Device) : s.flying ended d = none := by
  unfold State.flying
  rw [h]
  cases ended <;> rfl

theorem flying_read {s : State} {e : Device} {n : Nat} {b : Bool} (h : s.dbc.inFlight = some ⟨e, .read, n, b⟩)
    (ended : Bool) (d : Device) : s.flying ended d = none := by
  unfold State.flying
  rw [h]
  cases ended <;> rfl

theorem flying_discarded {s : State} {e : Device} {op : BusOp} {n : Nat} (h : s.dbc.inFlight = some ⟨e, op, n, true⟩)
    (ended : Bool) (d : Device) : s.flying ended d = none := by
  unfold State.flying
  rw [h]
  cases ended <;> cases op <;> rfl

theorem flying_set {s : State} {e : Device} {w : PendingWrite} {n : Nat} (h : s.dbc.inFlight = some ⟨e, .set w, n, false⟩)
    (d : Device) : s.flying false d = if e = d then some w.value else none := by
  unfold State.flying
  rw [h]

theorem flying_other {s : State} {t : Transaction} (h : s.dbc.inFlight = some t) {d : Device} (ne : t.device ≠ d)
    (ended : Bool) : s.flying ended d = none := by
  obtain ⟨e, op, n, discarded⟩ := t
  cases ended with
  | true => rfl
  | false =>
    cases discarded with
    | true => exact flying_discarded h false d
    | false =>
      cases op with
      | set w => exact (flying_set h d).trans (if_neg ne)
      | read => exact flying_read h false d

/-- The transaction in flight, by what it means for the value on its way: a SET whose outcome counts, or nothing. -/
theorem flying_cases (s : State) : (∃ e w n, s.dbc.inFlight = some ⟨e, .set w, n, false⟩)
    ∨ (s.dbc.inFlight = none ∨ (∃ e n b, s.dbc.inFlight = some ⟨e, .read, n, b⟩)
      ∨ ∃ e op n, s.dbc.inFlight = some ⟨e, op, n, true⟩) := by
  cases flight : s.dbc.inFlight with
  | none => exact .inr (.inl rfl)
  | some t =>
    obtain ⟨e, op, n, discarded⟩ := t
    cases discarded with
    | true => exact .inr (.inr (.inr ⟨e, op, n, rfl⟩))
    | false =>
      cases op with
      | set w => exact .inl ⟨e, w, n, rfl⟩
      | read => exact .inr (.inr (.inl ⟨e, n, false, rfl⟩))

theorem heldValues_eq (s : State) (d : Device) : s.heldValues d = (s.device d).written.toList
    ++ ((s.device d).pending.map (·.value)).toList ++ (s.flying false d).toList := by
  unfold State.heldValues
  rcases flying_cases s with ⟨e, w, n, h⟩ | h | ⟨e, n, b, h⟩ | ⟨e, op, n, h⟩
  · rw [flying_set h, h]
    by_cases same : e = d <;> simp [same]
  · rw [flying_free h, h]
    rfl
  · rw [flying_read h, h]
    cases b <;> rfl
  · rw [flying_discarded h, h]
    cases op <;> rfl

theorem mem_heldValues (s : State) (d : Device) (x : BusValue) : x ∈ s.heldValues d ↔
    (s.device d).written = some x ∨ (s.device d).pending.map (·.value) = some x ∨ s.flying false d = some x := by
  rw [heldValues_eq, List.mem_append, List.mem_append, Option.mem_toList, Option.mem_toList, Option.mem_toList, or_assoc]

theorem latestValue_eq (s : State) (d : Device) : s.latestValue d
    = ((s.device d).pending.map (·.value)).or ((s.flying false d).or (s.device d).written) := by
  unfold State.latestValue
  rcases flying_cases s with ⟨e, w, n, h⟩ | h | ⟨e, n, b, h⟩ | ⟨e, op, n, h⟩
  · rw [flying_set h, h]
  · rw [flying_free h, h]
  · rw [flying_read h, h]
  · rw [flying_discarded h, h]
    cases op <;> rfl

/-! ## The law of the bus, channel by channel -/

/-- One channel's part of `busLaw` (R97, R99, R119). -/
structure ChannelLaw (ended : Bool) (s : State) (c : Chamber) (k : Chan) : Prop where
  values : ValuesCovered (s.device (.mfc c k)).written ((s.device (.mfc c k)).pending.map (·.value))
    (s.flying ended (.mfc c k)) (s.row c k).commitment (s.gen c k).posted
  scale : (s.row c k).commitment ≤ s.fullScale c k
  released : (s.device (.mfc c k)).failed = true → s.row c k = ⟨0, 0, false⟩ ∧ (s.gen c k).posted = 0

/-- The channel law reads a device's written value, its place, its state, the value on its way, the row and the generator. -/
theorem ChannelLaw.congr {e f : Bool} {s t : State} {c : Chamber} {k : Chan} (h : ChannelLaw e s c k)
    (written : (t.device (.mfc c k)).written = (s.device (.mfc c k)).written)
    (pending : (t.device (.mfc c k)).pending = (s.device (.mfc c k)).pending)
    (failed : (t.device (.mfc c k)).failed = (s.device (.mfc c k)).failed)
    (flying : t.flying f (.mfc c k) = s.flying e (.mfc c k)) (row : t.row c k = s.row c k)
    (posted : (t.gen c k).posted = (s.gen c k).posted) (scale : t.fullScale c k = s.fullScale c k) : ChannelLaw f t c k where
  values := by rw [written, pending, flying, row, posted]; exact h.values
  scale := by rw [row, scale]; exact h.scale
  released := by rw [failed, row, posted]; exact h.released

/-- A request that waits for gas, as `busLaw` has it, with its volume RUNNING (R103, R105). -/
def Waits (e : GasEntry) (s : State) : Prop :=
  ∃ r, AtWork (.ch e.chamber) r s ∧ ∀ k, (e.aims.get k).target ≤ s.fullScale e.chamber k
    ∧ ((e.aims.get k).target ≠ 0 →
        (listed? r.flows k).isSome = true ∧ (s.device (.mfc e.chamber k)).failed = false)

theorem Waits.congr {e : GasEntry} {s t : State} (h : Waits e s)
    (work : ∀ r, AtWork (.ch e.chamber) r s → AtWork (.ch e.chamber) r t)
    (scale : ∀ k, t.fullScale e.chamber k = s.fullScale e.chamber k)
    (ok : ∀ k, (e.aims.get k).target ≠ 0 → (s.device (.mfc e.chamber k)).failed = false →
      (t.device (.mfc e.chamber k)).failed = false) : Waits e t := by
  obtain ⟨r, running, aims⟩ := h
  refine ⟨r, work r running, fun k => ?_⟩
  obtain ⟨low, flows⟩ := aims k
  rw [scale]
  refine ⟨low, fun above => ?_⟩
  obtain ⟨listed, stands⟩ := flows above
  exact ⟨listed, ok k above stands⟩

/-- The law of the generators and, where `bus` is asked for, the law of the bus, but for the requests of `apart`; `ended` says
that the outcome of the transaction in flight has been taken, with the bus still to be freed (R120). -/
structure FlowLaw (bus ended : Bool) (apart : Option Volume) (s : State) : Prop where
  cover : ∀ c k, Covered (s.gen c k) (s.row c k)
  channel : bus = true → ∀ c k, ChannelLaw ended s c k
  queue : bus = true → ∀ e ∈ s.gat.queue, apart ≠ some (.ch e.chamber) → Waits e s
  flight : ended = true → s.dbc.inFlight.isSome = true

theorem flowLaw_of_coverLaw {s : State} (h : coverLaw s) : FlowLaw false false none s :=
  ⟨(coverLaw_iff s).1 h, nofun, nofun, nofun⟩

theorem flowLaw_of_busLaw {s : State} (plant : PlantLaw s) (cover : coverLaw s) (bus : busLaw s) :
    FlowLaw true false none s := by
  obtain ⟨channels, queue⟩ := bus
  refine ⟨(coverLaw_iff s).1 cover, fun _ c k => ?_, fun _ e mem _ => ?_, nofun⟩
  · obtain ⟨held, scale, latest, released⟩ := channels c k
    exact ⟨⟨fun x stands => held x ((mem_heldValues s _ x).2 stands),
      fun x last => latest x ((latestValue_eq s _).trans last)⟩, scale, released⟩
  · obtain ⟨r, current, aims⟩ := queue e mem
    obtain ⟨running, -⟩ := (plant.gas e.chamber).queued e mem rfl
    exact ⟨r, ⟨running, current⟩, aims⟩

theorem FlowLaw.coverLaw {bus ended : Bool} {apart : Option Volume} {s : State} (law : FlowLaw bus ended apart s) :
    coverLaw s := (coverLaw_iff s).2 law.cover

theorem FlowLaw.busLaw {s : State} (law : FlowLaw true false none s) : busLaw s := by
  refine ⟨fun c k => ?_, fun e mem => ?_⟩
  · obtain ⟨values, scale, released⟩ := law.channel rfl c k
    exact ⟨fun x held => values.held x ((mem_heldValues s _ x).1 held), scale,
      fun x last => values.latest x ((latestValue_eq s _).symm.trans last), released⟩
  · obtain ⟨r, work, aims⟩ := law.queue rfl e mem nofun
    exact ⟨r, work.current, aims⟩

/-! ## Changes of a channel and of the bus -/

section Changes
variable {bus ended : Bool} {apart : Option Volume} {s : State} (law : FlowLaw bus ended apart s)
include law

theorem FlowLaw.quiet {t : State} (h : Quiet s t) : FlowLaw bus ended apart t := by
  have row : ∀ c k, t.row c k = s.row c k := fun c k => congrArg (fun p : Per24 ChannelRow => p.getK c k) h.rows
  have gen : ∀ c k, t.gen c k = s.gen c k := fun c k => congrArg (fun p : Per24 Generator => p.getK c k) h.fru
  have device : ∀ d, t.device d = s.device d := fun d => congrArg (fun p : Per28 DeviceRow => p.get d) h.devices
  have scale : ∀ c k, t.fullScale c k = s.fullScale c k := fun c k => by rw [State.fullScale, h.scale]; rfl
  refine ⟨fun c k => ?_, fun on c k => ?_, fun on e mem ne => ?_, fun taken => ?_⟩
  · rw [row, gen]
    exact law.cover c k
  · exact (law.channel on c k).congr (by rw [device]) (by rw [device]) (by rw [device]) (flying_congr h.inFlight _ _)
      (row c k) (by rw [gen]) (scale c k)
  · exact (law.queue on e (h.queue e mem) ne).congr (fun _ => h.atWork) (fun k => scale _ k)
      (fun k _ ok => (congrArg DeviceRow.failed (device _)).trans ok)
  · rw [h.inFlight]
    exact law.flight taken

/-- A change that leaves the volumes, the items and the waiting requests, told by what it leaves of every channel. -/
theorem FlowLaw.change {ended' : Bool} {apart' : Option Volume} {t : State}
    (cover : ∀ c k, Covered (t.gen c k) (t.row c k)) (channel : bus = true → ∀ c k, ChannelLaw ended' t c k)
    (queue : t.gat.queue = s.gat.queue) (vols : t.vols = s.vols) (cfg : t.cfg = s.cfg)
    (waiting : ∀ c, apart' ≠ some (.ch c) → apart ≠ some (.ch c))
    (ok : bus = true → ∀ e ∈ s.gat.queue, apart' ≠ some (.ch e.chamber) → ∀ k, (e.aims.get k).target ≠ 0 →
      (s.device (.mfc e.chamber k)).failed = false → (t.device (.mfc e.chamber k)).failed = false)
    (flight : ended' = true → t.dbc.inFlight.isSome = true) : FlowLaw bus ended' apart' t := by
  refine ⟨cover, channel, fun on e mem ne => ?_, flight⟩
  have mem' : e ∈ s.gat.queue := queue ▸ mem
  refine (law.queue on e mem' (waiting _ ne)).congr (fun r work => ?_) (fun k => ?_) (ok on e mem' ne)
  · have vol := congrArg (fun p : Per7 Vol => p.get (.ch e.chamber)) vols
    exact ⟨(congrArg Vol.state vol).trans work.running, (congrArg Vol.current vol).trans work.current⟩
  · rw [State.fullScale, State.items, cfg]
    rfl

/-- A change of the device bus alone. -/
theorem FlowLaw.withDbc {ended' : Bool} {b : Dbc}
    (channel : bus = true → ∀ c k, ChannelLaw ended' { s with dbc := b } c k)
    (ok : bus = true → ∀ c k, (s.device (.mfc c k)).failed = false → (b.devices.get (.mfc c k)).failed = false)
    (flight : ended' = true → b.inFlight.isSome = true) : FlowLaw bus ended' apart { s with dbc := b } :=
  law.change law.cover channel rfl rfl rfl (fun _ => id) (fun on _ _ _ k _ => ok on _ k) flight

/-- A change of a device row that leaves its state, its place and its written value, or of a throttle's. -/
theorem FlowLaw.setDevice (d : Device) (y : DeviceRow) (failed : y.failed = (s.device d).failed)
    (pending : y.pending = (s.device d).pending) (written : y.written = (s.device d).written) :
    FlowLaw bus ended apart (s.setDevice d y) := by
  have same : ∀ e, ((s.setDevice d y).device e).failed = (s.device e).failed
      ∧ ((s.setDevice d y).device e).pending = (s.device e).pending
      ∧ ((s.setDevice d y).device e).written = (s.device e).written := fun e => by
    by_cases h : e = d
    · subst h
      rw [State.device_setDevice_self]
      exact ⟨failed, pending, written⟩
    · rw [State.device_setDevice_ne s d e y h]
      exact ⟨rfl, rfl, rfl⟩
  refine law.withDbc (fun on c k => ?_) (fun _ c k ok => (same (.mfc c k)).1.trans ok) law.flight
  obtain ⟨failed, pending, written⟩ := same (.mfc c k)
  exact (law.channel on c k).congr written pending failed rfl rfl rfl rfl

theorem FlowLaw.setThrottle (c : Chamber) (y : DeviceRow) (n : Nat) : FlowLaw bus ended apart
    { s.setDevice (.throttle c) y with dbc := { (s.setDevice (.throttle c) y).dbc with nextAge := n } } := by
  have same : ∀ d k, (s.setDevice (.throttle c) y).device (.mfc d k) = s.device (.mfc d k) := fun d k =>
    State.device_setDevice_ne s (.throttle c) (.mfc d k) y nofun
  refine law.withDbc (fun on d k => ?_) (fun _ d k ok => (congrArg DeviceRow.failed (same d k)).trans ok) law.flight
  exact (law.channel on d k).congr (congrArg DeviceRow.written (same d k)) (congrArg DeviceRow.pending (same d k))
    (congrArg DeviceRow.failed (same d k)) rfl rfl rfl rfl

theorem FlowLaw.startPoll (n : Nat) (d : Device) (free : s.dbc.inFlight = none) :
    FlowLaw bus ended apart (startPoll n d s) := by
  refine law.withDbc (fun on c k => (law.channel on c k).congr rfl rfl rfl ?_ rfl rfl rfl) (fun _ _ _ ok => ok) fun _ => rfl
  exact (flying_read rfl ended _).trans (flying_free free ended _).symm

theorem FlowLaw.startWrite {d : Device} {w : PendingWrite} (free : s.dbc.inFlight = none)
    (waits : (s.device d).pending = some w) : FlowLaw bus ended apart (startWrite d w s) := by
  cases ended with
  | true => exact absurd (law.flight rfl) (by simp [free])
  | false =>
    have other : ∀ e, e ≠ d → (Machine.startWrite d w s).device e = s.device e := fun e ne =>
      State.device_setDevice_ne s d e { s.device d with pending := none } ne
    have own : (Machine.startWrite d w s).device d = { s.device d with pending := none } :=
      State.device_setDevice_self s d _
    have flying : ∀ e, (Machine.startWrite d w s).flying false e = if d = e then some w.value else none :=
      flying_set rfl
    refine law.withDbc (fun on c k => ?_) (fun on c k ok => ?_) nofun
    · by_cases h : Device.mfc c k = d
      · subst h
        obtain ⟨values, scale, released⟩ := law.channel on c k
        refine ⟨?_, scale, ?_⟩
        · rw [waits, flying_free free] at values
          have moved := values.start
          show ValuesCovered ((Machine.startWrite (.mfc c k) w s).device (.mfc c k)).written
            (((Machine.startWrite (.mfc c k) w s).device (.mfc c k)).pending.map (·.value))
            ((Machine.startWrite (.mfc c k) w s).flying false (.mfc c k)) _ _
          rw [flying, own, if_pos rfl]
          exact moved
        · exact fun failed => released ((congrArg DeviceRow.failed own).symm.trans failed)
      · exact (law.channel on c k).congr (congrArg DeviceRow.written (other _ h)) (congrArg DeviceRow.pending (other _ h))
          (congrArg DeviceRow.failed (other _ h))
          (((flying _).trans (if_neg (Ne.symm h))).trans (flying_free free false _).symm) rfl rfl rfl
    · by_cases h : Device.mfc c k = d
      · subst h
        exact (congrArg DeviceRow.failed own).trans ok
      · exact (congrArg DeviceRow.failed (other _ h)).trans ok

theorem FlowLaw.arbitrate : FlowLaw bus ended apart (arbitrate s) := by
  rcases arbitrate_cases s with h | ⟨d, w, free, urgent, -, h⟩ | ⟨n, d, free, -, -, h⟩ <;> rw [h]
  · exact law
  · exact law.startWrite free (mostUrgent_pending urgent)
  · exact law.startPoll n d free

theorem FlowLaw.postThrottle (c : Chamber) (x : BusValue) (cls : WriteClass) :
    FlowLaw bus ended apart (postWrite (.throttle c) x cls s) := by
  refine FlowLaw.arbitrate ?_
  rcases placeWrite_cases (.throttle c) x cls s with ⟨-, h⟩ | ⟨-, w, -, -, -, n, h⟩ <;> rw [h]
  · exact law
  · exact law.setThrottle c _ n

end Changes

theorem Per4.set_set {α : Type} (p : Per4 α) (c : Chamber) (x y : α) : (p.set c x).set c y = p.set c y := by
  cases c <;> rfl

theorem Per6.set_set {α : Type} (p : Per6 α) (k : Chan) (x y : α) : (p.set k x).set k y = p.set k y := by
  cases k <;> rfl

theorem Per28.set_set {α : Type} (p : Per28 α) (d : Device) (x y : α) : (p.set d x).set d y = p.set d y := by
  cases d with
  | mfc c k =>
    simp only [Per28.set, Per4.setK, Per4.get_set_self, Per4.set_set, Per6.set_set]
  | throttle c => simp only [Per28.set, Per4.set_set]

/-- From `s` to `t` channel `k` of chamber `c` takes row `r`, generator `g` and device row `y`; of the deviation checks and the
bus's own counts nothing is said, and all else stands. -/
structure ChannelSet (c : Chamber) (k : Chan) (r : ChannelRow) (g : Generator) (y : DeviceRow) (s t : State) : Prop where
  rows : t.gat.rows = s.gat.rows.setK c k r
  queue : t.gat.queue = s.gat.queue
  fru : t.fru = s.fru.setK c k g
  devices : t.dbc.devices = s.dbc.devices.set (.mfc c k) y
  inFlight : t.dbc.inFlight = s.dbc.inFlight
  vols : t.vols = s.vols
  cfg : t.cfg = s.cfg

section OneChannel
variable {c : Chamber} {k : Chan} {r : ChannelRow} {g : Generator} {y : DeviceRow} {s t : State}
  {bus ended : Bool} {apart : Option Volume}

theorem ChannelSet.self (set : ChannelSet c k r g y s t) :
    t.row c k = r ∧ t.gen c k = g ∧ t.device (.mfc c k) = y := by
  refine ⟨?_, ?_, ?_⟩
  · rw [State.row, set.rows]
    exact Per4.getK_setK_self _ c k r
  · rw [State.gen, set.fru]
    exact Per4.getK_setK_self _ c k g
  · rw [State.device, set.devices]
    exact Per28.get_set_self _ _ y

theorem ChannelSet.other (set : ChannelSet c k r g y s t) {d : Chamber} {j : Chan} (ne : (d, j) ≠ (c, k)) :
    t.row d j = s.row d j ∧ t.gen d j = s.gen d j ∧ t.device (.mfc d j) = s.device (.mfc d j) := by
  refine ⟨?_, ?_, ?_⟩
  · rw [State.row, set.rows]
    exact Per4.getK_setK_ne _ c d k j r ne
  · rw [State.gen, set.fru]
    exact Per4.getK_setK_ne _ c d k j g ne
  · rw [State.device, set.devices]
    exact Per28.get_set_ne _ _ _ y fun e => ne (by injection e with h1 h2; rw [h1, h2])

theorem ChannelSet.scale (set : ChannelSet c k r g y s t) (d : Chamber) (j : Chan) : t.fullScale d j = s.fullScale d j := by
  rw [State.fullScale, State.items, set.cfg]
  rfl

/-- A channel set to what its own law allows, with every request that waits for it withdrawn or its device not failing. -/
theorem FlowLaw.channelSet {apart' : Option Volume} (law : FlowLaw bus ended apart s) (set : ChannelSet c k r g y s t)
    (covered : Covered g r)
    (values : bus = true → ValuesCovered y.written (y.pending.map (·.value)) (s.flying ended (.mfc c k)) r.commitment g.posted)
    (scale : bus = true → r.commitment ≤ s.fullScale c k)
    (released : bus = true → y.failed = true → r = ⟨0, 0, false⟩ ∧ g.posted = 0)
    (waiting : ∀ d, apart' ≠ some (.ch d) → apart ≠ some (.ch d))
    (ok : bus = true → ∀ e ∈ s.gat.queue, apart' ≠ some (.ch e.chamber) → e.chamber = c → (e.aims.get k).target ≠ 0 →
      (s.device (.mfc c k)).failed = false → y.failed = false) : FlowLaw bus ended apart' t := by
  obtain ⟨row, gen, device⟩ := set.self
  refine law.change (fun d j => ?_) (fun on d j => ?_) set.queue set.vols set.cfg waiting (fun on e mem ne j above stands => ?_)
    (fun taken => by rw [set.inFlight]; exact law.flight taken)
  · by_cases h : (d, j) = (c, k)
    · obtain ⟨rfl, rfl⟩ := Prod.mk.inj h
      rwa [row, gen]
    · obtain ⟨row', gen', -⟩ := set.other h
      rw [row', gen']
      exact law.cover d j
  · by_cases h : (d, j) = (c, k)
    · obtain ⟨rfl, rfl⟩ := Prod.mk.inj h
      refine ⟨?_, ?_, ?_⟩
      · rw [row, gen, device, flying_congr set.inFlight]
        exact values on
      · rw [row, set.scale]
        exact scale on
      · rw [row, gen, device]
        exact released on
    · obtain ⟨row', gen', device'⟩ := set.other h
      exact (law.channel on d j).congr (by rw [device']) (by rw [device']) (by rw [device']) (flying_congr set.inFlight _ _)
        row' (by rw [gen']) (set.scale d j)
  · by_cases h : (e.chamber, j) = (c, k)
    · obtain ⟨rfl, rfl⟩ := Prod.mk.inj h
      rw [device]
      exact ok on e mem ne rfl above stands
    · obtain ⟨-, -, device'⟩ := set.other h
      rw [device']
      exact stands

/-- A failed device's channel is released, so its commitment and its posted setpoint are 0 (R99). -/
theorem FlowLaw.posted_of_failed (law : FlowLaw true ended apart s) (failed : (s.device (.mfc c k)).failed = true) :
    s.row c k = ⟨0, 0, false⟩ ∧ (s.gen c k).posted = 0 := (law.channel rfl c k).released failed

/-- A channel that promises more and whose generator has not moved. -/
theorem FlowLaw.promises (law : FlowLaw bus ended apart s) (set : ChannelSet c k r g (s.device (.mfc c k)) s t)
    (covered : Covered g r) (grows : (s.row c k).commitment ≤ r.commitment) (still : g.posted = (s.gen c k).posted)
    (scale : bus = true → r.commitment ≤ s.fullScale c k)
    (released : bus = true → (s.device (.mfc c k)).failed = true → r = ⟨0, 0, false⟩) : FlowLaw bus ended apart t := by
  refine law.channelSet set covered (fun on => ?_) scale (fun on failed => ⟨released on failed, ?_⟩) (fun _ => id)
    fun _ _ _ _ _ _ stands => stands
  · rw [still]
    exact (law.channel on c k).values.mono grows
  · obtain ⟨-, zero⟩ := (law.channel on c k).released failed
    rw [still, zero]

/-- A channel that promises more, with the generator's new setpoint posted (R118, R121). -/
theorem FlowLaw.posts (law : FlowLaw bus ended apart s) (set : ChannelSet c k r g (s.device (.mfc c k)) s t)
    (covered : Covered g r) (grows : (s.row c k).commitment ≤ r.commitment)
    (scale : bus = true → r.commitment ≤ s.fullScale c k)
    (released : bus = true → (s.device (.mfc c k)).failed = true → r = ⟨0, 0, false⟩) (cls : WriteClass) :
    FlowLaw bus ended apart (postWrite (.mfc c k) (.flow g.posted) cls t) := by
  obtain ⟨-, -, device⟩ := set.self
  refine FlowLaw.arbitrate ?_
  rcases placeWrite_cases (.mfc c k) (.flow g.posted) cls t with ⟨failed, h⟩ | ⟨ok, w, value, -, -, n, h⟩ <;> rw [h]
  · rw [device] at failed
    cases bus with
    | false => exact law.channelSet set covered nofun nofun nofun (fun _ => id) nofun
    | true =>
      obtain ⟨row, zero⟩ := law.posted_of_failed failed
      have none : g.posted ≤ 0 := by simpa [released rfl failed] using covered.posted
      exact law.promises set covered grows (by omega) scale released
  · rw [device] at ok ⊢
    have placed : ChannelSet c k r g { s.device (.mfc c k) with pending := some w } s
        { t.setDevice (.mfc c k) { s.device (.mfc c k) with pending := some w } with
          dbc := { (t.setDevice (.mfc c k) { s.device (.mfc c k) with pending := some w }).dbc with nextAge := n } } := by
      refine { set with devices := ?_ }
      exact (congrArg (fun p : Per28 DeviceRow => p.set (.mfc c k) _) set.devices).trans (Per28.set_set _ _ _ _)
    refine law.channelSet placed covered (fun on => ?_) scale (fun _ failed => absurd (ok.symm.trans failed) nofun)
      (fun _ => id) fun _ _ _ _ _ _ stands => stands
    show ValuesCovered _ (some w.value) _ _ _
    rw [value]
    exact (law.channel on c k).values.post grows covered.posted

end OneChannel

end Sys2Proof.Machine
end

section
/-! The law of the generators and of the device bus within an event: transitions, requests and admissions keep it (R97, R102, R103,
R107), so it is an invariant of the step engine. -/

namespace Sys2Proof.Machine

open Sys2Proof

/-! ## Transitions (R97, R102, R115) -/

theorem transitionBegun_channelSet (c : Chamber) (k : Chan) (target n : Nat) (cls : WriteClass) (s : State) :
    ChannelSet c k ((s.row c k).start target) ((s.gen c k).start target n cls) (s.device (.mfc c k)) s
      (transitionBegun c k target n cls s) where
  rows := rfl
  queue := rfl
  fru := rfl
  devices := (Per28.set_get_self _ _).symm
  inFlight := rfl
  vols := rfl
  cfg := rfl

section Transitions
variable {bus ended : Bool} {apart : Option Volume} {s : State} (law : FlowLaw bus ended apart s) {c : Chamber} {k : Chan}
  {target : Nat}
include law

/-- A transition toward a target within the full scale of an OK device keeps the law. -/
theorem FlowLaw.startTransition_ok (n : Nat) (cls : WriteClass) (low : bus = true → target ≤ s.fullScale c k)
    (ok : bus = true → (s.device (.mfc c k)).failed = false) :
    FlowLaw bus ended apart (startTransition c k target n cls s) := by
  have set := transitionBegun_channelSet c k target n cls s
  have covered := (law.cover c k).start target n cls
  have grows : (s.row c k).commitment ≤ ((s.row c k).start target).commitment := le_max_left _ _
  have scale : bus = true → ((s.row c k).start target).commitment ≤ s.fullScale c k := fun on =>
    max_le (law.channel on c k).scale (low on)
  have released : bus = true → (s.device (.mfc c k)).failed = true → (s.row c k).start target = ⟨0, 0, false⟩ :=
    fun on failed => absurd ((ok on).symm.trans failed) nofun
  by_cases jump : n = 0
  · subst jump
    rw [startTransition_jump]
    exact law.posts set covered grows scale released cls
  · rw [startTransition_ramp c k target cls s jump]
    refine law.promises set covered grows ?_ scale released
    rw [Generator.start, if_neg jump]
    rfl

/-- A FAILED device's channel stands at 0 (R99), so what moves is OK, or is asked to leave 0. -/
theorem FlowLaw.startTransition (n : Nat) (cls : WriteClass) (low : bus = true → target ≤ s.fullScale c k)
    (ok : bus = true → target ≠ 0 → (s.device (.mfc c k)).failed = false)
    (moves : (s.row c k).target ≠ target ∨ (s.row c k).inFlight = true) :
    FlowLaw bus ended apart (startTransition c k target n cls s) := by
  refine law.startTransition_ok n cls low fun on => ?_
  by_contra failing
  have failed : (s.device (.mfc c k)).failed = true := by simpa using failing
  obtain ⟨row, -⟩ := (law.channel on c k).released failed
  rw [row] at moves
  exact failing (ok on (by simpa [eq_comm] using moves))

theorem FlowLaw.zeroChannel (c : Chamber) (k : Chan) (cls : WriteClass) :
    FlowLaw bus ended apart (zeroChannel c cls s k) := by
  by_cases moves : (s.row c k).target ≠ 0 ∨ (s.row c k).inFlight = true
  · have started := law.startTransition 0 cls (fun _ => Nat.zero_le _) (fun _ h => absurd rfl h) moves
    unfold Machine.zeroChannel
    split
    · exact law
    · exact started
  · obtain ⟨target, rest⟩ := not_or.1 moves
    rwa [zeroChannel_atRest cls (not_ne_iff.1 target) (Bool.eq_false_iff.2 rest)]

/-- A channel's turn at an admission keeps the law where its part of the request does (R103, R107). -/
theorem FlowLaw.admitChannel {aims : Per6 Aim} (k : Chan) (low : bus = true → (aims.get k).target ≤ s.fullScale c k)
    (ok : bus = true → (aims.get k).target ≠ 0 → (s.device (.mfc c k)).failed = false) :
    FlowLaw bus ended apart (admitChannel c aims s k) := by
  by_cases moves : (s.row c k).target ≠ (aims.get k).target ∨ (s.row c k).inFlight = true
  · rw [admitChannel_moving moves]
    exact law.startTransition _ _ low ok moves
  · obtain ⟨target, rest⟩ := not_or.1 moves
    rwa [admitChannel_atRest (not_ne_iff.1 target) (Bool.eq_false_iff.2 rest)]

theorem FlowLaw.admittedChannels {e : GasEntry} (waits : bus = true → Waits e s) :
    FlowLaw bus ended apart (admittedChannels e s) := by
  have fold : FlowLaw bus ended apart (Machine.admittedChannels e s) ∧ (Machine.admittedChannels e s).cfg = s.cfg
      ∧ ∀ d, ((Machine.admittedChannels e s).device d).failed = (s.device d).failed := by
    refine List.foldlRecOn (motive := fun t => FlowLaw bus ended apart t ∧ t.cfg = s.cfg
      ∧ ∀ d, (t.device d).failed = (s.device d).failed) Chan.all _
      ⟨law.quiet (withdrawGas_quiet e.chamber s), rfl, fun _ => rfl⟩ fun t ht k _ => ?_
    obtain ⟨stands, cfg, failed⟩ := ht
    have scale : t.fullScale e.chamber k = s.fullScale e.chamber k := by
      rw [State.fullScale, State.items, cfg]
      rfl
    refine ⟨stands.admitChannel k (fun on => ?_) (fun on above => ?_), (admitChannel_eventFrame e.chamber e.aims t k).cfg.trans cfg,
      fun d => (admitChannel_failed _ _ _ _ d).trans (failed d)⟩
    · obtain ⟨r, -, aims⟩ := waits on
      rw [scale]
      exact (aims k).1
    · obtain ⟨r, -, aims⟩ := waits on
      rw [failed]
      exact ((aims k).2 above).2
  exact fold.1

end Transitions

/-! ## Requests (R103) -/

theorem aimOf_le (s : State) (c : Chamber) (flows : List FlowEntry) (k : Chan) :
    (aimOf s c flows k).target ≤ s.fullScale c k := by
  unfold aimOf
  split
  · exact min_le_right _ _
  · exact Nat.zero_le _

/-- A formed request asks for gas on listed channels alone, and none of their devices is FAILED where the request is not refused. -/
theorem aimOf_above {s : State} {c : Chamber} {flows : List FlowEntry} {k : Chan} (above : (aimOf s c flows k).target ≠ 0)
    (passes : requestFails s c flows = false) :
    (listed? flows k).isSome = true ∧ (s.device (.mfc c k)).failed = false := by
  unfold aimOf at above
  split at above
  next f listed =>
    have mem : f ∈ flows := List.mem_of_find?_eq_some listed
    have chan : f.chan = k := by simpa using List.find?_some listed
    refine ⟨by rw [listed]; rfl, ?_⟩
    have each := List.any_eq_false.1 passes f mem
    rw [chan] at each
    simp only [Bool.or_eq_true, not_or, Bool.not_eq_true] at each
    exact each.2
  · exact absurd rfl above

theorem FlowLaw.joinGas {bus ended : Bool} {s : State} {c : Chamber} {r : StepRecord} (law : FlowLaw bus ended none s)
    (work : AtWork (.ch c) r s) (passes : requestFails s c r.flows = false) :
    FlowLaw bus ended none (joinGas c r.flows s) := by
  have waits : Waits ⟨c, formRequest s c r.flows⟩ s := ⟨r, work, fun k => by
    rw [formRequest_get]
    exact ⟨aimOf_le s c r.flows k, fun above => aimOf_above above passes⟩⟩
  have joined : FlowLaw bus ended none
      { s with gat := { s.gat with queue := s.gat.queue ++ [⟨c, formRequest s c r.flows⟩] } } := by
    refine ⟨law.cover, fun on d k => (law.channel on d k).congr rfl rfl rfl rfl rfl rfl rfl, fun on e mem ne => ?_, law.flight⟩
    have still : Waits e s := by
      rcases List.mem_append.1 mem with old | new
      · exact law.queue on e old ne
      · rw [List.mem_singleton.1 new]
        exact waits
    exact still.congr (fun _ work => ⟨work.running, work.current⟩) (fun _ => rfl) (fun _ _ ok => ok)
  exact joined.quiet (modVol_quiet (.ch c) (fun x => { x with admissionCount := 0 }) _ fun running => ⟨running, rfl⟩)

/-! ## The invariant -/

theorem FlowLaw.looseApart {bus ended : Bool} {s : State} (v : Volume) (law : FlowLaw bus ended none s) :
    FlowLaw bus ended (some v) s :=
  { law with queue := fun on e mem _ => law.queue on e mem nofun }

theorem FlowLaw.modVol {bus ended : Bool} {s : State} {v : Volume} (f : Vol → Vol) (law : FlowLaw bus ended (some v) s) :
    FlowLaw bus ended (some v) (s.modVol v f) := by
  refine ⟨law.cover, fun on c k => (law.channel on c k).congr rfl rfl rfl rfl rfl rfl rfl, fun on e mem ne => ?_, law.flight⟩
  have other : (s.modVol v f).vol (.ch e.chamber) = s.vol (.ch e.chamber) :=
    State.vol_modVol_ne s v _ f fun same => ne (by rw [same])
  exact (law.queue on e mem ne).congr
    (fun r work => ⟨(congrArg Vol.state other).trans work.running, (congrArg Vol.current other).trans work.current⟩)
    (fun _ => rfl) (fun _ _ ok => ok)

theorem FlowLaw.rejoin {bus ended : Bool} {s : State} {v : Volume} (law : FlowLaw bus ended (some v) s)
    (vacant : bus = true → ∀ e ∈ s.gat.queue, Volume.ch e.chamber ≠ v) : FlowLaw bus ended none s :=
  { law with queue := fun on e mem _ => law.queue on e mem fun same => vacant on e mem (Option.some.inj same).symm }

/-- The law of the generators and of the bus is kept by everything that the step engine does. -/
theorem flowLaw_invariant (bus ended : Bool) : EngineInvariant (FlowLaw bus ended) (bus = true) where
  quiet h law := law.quiet h
  apart v law := law.looseApart v
  own f _ law := law.modVol f
  rejoin law vacant := law.rejoin vacant
  zero c cls k law := law.zeroChannel c k cls
  throttle c x cls law := law.postThrottle c x cls
  joins law work passes := law.joinGas work passes
  admits law mem := law.admittedChannels fun on => law.queue on _ mem nofun

end Sys2Proof.Machine
end

section
/-! The law of the generators and of the device bus over the events of the bus and over a sample tick: ramp steps, final writes,
device failures, completions (R98, R116, R118 to R120, R124 to R127). -/

namespace Sys2Proof.Machine

open Sys2Proof

/-! ## Ramp steps (R116, R118) -/

theorem setGen_channelSet (c : Chamber) (k : Chan) (g : Generator) (s : State) :
    ChannelSet c k (s.row c k) g (s.device (.mfc c k)) s (s.setGen c k g) where
  rows := (Per4.setK_getK_self _ c k).symm
  queue := rfl
  fru := rfl
  devices := (Per28.set_get_self _ _).symm
  inFlight := rfl
  vols := rfl
  cfg := rfl

theorem Generator.step_still {g : Generator} (h : g.increment = 0) : g.step.posted = g.posted := by
  simp [Generator.step, h]

theorem FlowLaw.rampTick {bus ended : Bool} {apart : Option Volume} {s : State} (law : FlowLaw bus ended apart s)
    (ck : Chamber × Chan) : FlowLaw bus ended apart (rampTick s ck) := by
  obtain ⟨c, k⟩ := ck
  have set := setGen_channelSet c k (s.gen c k).step s
  have scale : bus = true → (s.row c k).commitment ≤ s.fullScale c k := fun on => (law.channel on c k).scale
  have released : bus = true → (s.device (.mfc c k)).failed = true → s.row c k = ⟨0, 0, false⟩ := fun on failed =>
    ((law.channel on c k).released failed).1
  unfold Machine.rampTick
  dsimp only
  split
  · exact law
  next left =>
    have covered := (law.cover c k).step left
    split
    · rw [postGenerator, State.gen_setGen_self]
      exact law.posts set covered le_rfl scale released _
    next silent =>
      have still : (s.gen c k).increment = 0 := by
        by_contra moves
        exact silent (by simp [Nat.pos_of_ne_zero moves])
      exact law.promises set covered le_rfl (Generator.step_still still) scale released

theorem FlowLaw.stepTickEffect {bus ended : Bool} {s : State} (law : FlowLaw bus ended none s) :
    FlowLaw bus ended none (stepTickEffect s) := by
  rw [stepTickEffect_eq_ramps]
  exact foldl_kept (fun _ ck h => h.rampTick ck) (law.quiet (stepTickCounts_quiet s))

/-! ## Final writes (R98) -/

section Completion
variable {bus : Bool} {apart : Option Volume} {s : State}

theorem setRow_channelSet (c : Chamber) (k : Chan) (r : ChannelRow) (s : State) :
    ChannelSet c k r (s.gen c k) (s.device (.mfc c k)) s (s.setRow c k r) where
  rows := rfl
  queue := rfl
  fru := (Per4.setK_getK_self _ c k).symm
  devices := (Per28.set_get_self _ _).symm
  inFlight := rfl
  vols := rfl
  cfg := rfl

/-- With the outcome of the transaction in flight taken, a final write leaves the posted setpoint alone for its MFC: the
commitment can go down to it. -/
theorem FlowLaw.finalWrite (law : FlowLaw bus true apart s) (c : Chamber) (k : Chan) :
    FlowLaw bus true apart (finalWrite c k s) := by
  cases final : isFinalWrite s c k with
  | false => rwa [finalWrite_of_not_final final]
  | true =>
    obtain ⟨inFlight, left, posted, pending⟩ := (isFinalWrite_iff s c k).1 final
    obtain ⟨sound, target, -, promised⟩ := law.cover c k
    rw [finalWrite_of_final final]
    refine FlowLaw.quiet ?_ ((setCheck_quiet c k _ _).trans (headerTest_quiet _))
    refine law.channelSet (setRow_channelSet c k _ s) ⟨sound, target, posted.le, le_rfl⟩ (fun on => ?_)
      (fun on => promised.trans (law.channel on c k).scale) (fun on failed => ?_) (fun _ => id) fun _ _ _ _ _ _ stands => stands
    · have values := (law.channel on c k).values
      rw [flying_ended, pending] at values ⊢
      rw [← posted]
      exact values.final
    · obtain ⟨row, -⟩ := (law.channel on c k).released failed
      rw [row] at inFlight
      exact absurd inFlight nofun

/-! ## Device failures (R99, R126, R127) -/

theorem releaseChannel_channelSet (c : Chamber) (k : Chan) (y : DeviceRow) (s : State) :
    ∃ t, ChannelSet c k ⟨0, 0, false⟩ (s.gen c k).stop y s t
      ∧ Quiet t (releaseChannel c k (s.setDevice (.mfc c k) y)) :=
  ⟨((s.setDevice (.mfc c k) y).setRow c k ⟨0, 0, false⟩).setGen c k (s.gen c k).stop,
    ⟨rfl, rfl, rfl, rfl, rfl, rfl, rfl⟩, (setCheck_quiet c k _ _).trans (headerTest_quiet _)⟩

/-- Whether a chamber's waiting request lists a channel (R99). -/
def waitsFor (c : Chamber) (k : Chan) (s : State) : Bool :=
  s.inGasQueue c && (match (s.vol (.ch c)).current with | some r => (listed? r.flows k).isSome | none => false)

theorem failureStage2_mfc (c : Chamber) (k : Chan) (s : State) : failureStage2 (.mfc c k) s
    = if waitsFor c k s then failStep (.ch c) .deviceFailed (releaseChannel c k s) else releaseChannel c k s := rfl

/-- A waiting request that asks for gas on a channel lists it. -/
theorem FlowLaw.waitsFor {ended : Bool} (law : FlowLaw true ended none s) {e : GasEntry} (mem : e ∈ s.gat.queue) {k : Chan}
    (above : (e.aims.get k).target ≠ 0) : waitsFor e.chamber k s = true := by
  obtain ⟨r, work, aims⟩ := law.queue rfl e mem nofun
  have queued : s.inGasQueue e.chamber = true := (inGasQueue_iff s e.chamber).2 ⟨e, mem, rfl⟩
  unfold Machine.waitsFor
  rw [queued, work.current]
  exact ((aims k).2 above).1

theorem FlowLaw.failureStage2_mfc (law : FlowLaw bus true none s) (c : Chamber) (k : Chan) {y : DeviceRow}
    (pending : y.pending = none) (written : y.written = none) :
    FlowLaw bus true none (failureStage2 (.mfc c k) (s.setDevice (.mfc c k) y)) := by
  obtain ⟨t, set, released⟩ := releaseChannel_channelSet c k y s
  have values : bus = true → ValuesCovered y.written (y.pending.map (·.value)) (s.flying true (.mfc c k)) 0 0 := fun _ => by
    rw [written, pending]
    exact .none
  rw [Machine.failureStage2_mfc]
  split
  next waits =>
    obtain ⟨queued, -⟩ : s.inGasQueue c = true ∧ _ := by simpa [Machine.waitsFor] using waits
    have loose : FlowLaw bus true (some (.ch c)) t :=
      law.channelSet set (.stop _) values (fun _ => Nat.zero_le _) (fun _ _ => ⟨rfl, rfl⟩) (fun _ _ => nofun)
        fun _ e _ ne same => absurd (congrArg (fun d => some (Volume.ch d)) same.symm) ne
    cases bus with
    | false => exact (flowLaw_invariant false true).failStep _ _ ((loose.rejoin nofun).quiet released)
    | true =>
      obtain ⟨e, mem, rfl⟩ := (inGasQueue_iff s c).1 queued
      obtain ⟨r, ⟨running, current⟩, -⟩ := law.queue rfl e mem nofun
      have work : AtWork (.ch e.chamber) r t :=
        ⟨by rw [State.vol, set.vols]; exact running, by rw [State.vol, set.vols]; exact current⟩
      exact (flowLaw_invariant true true).failStep_apart _ (loose.quiet released) (released.atWork work)
  next waits =>
    refine FlowLaw.quiet ?_ released
    refine law.channelSet set (.stop _) values (fun _ => Nat.zero_le _) (fun _ _ => ⟨rfl, rfl⟩) (fun _ => id)
      fun on e mem _ same above => ?_
    subst on same
    exact absurd (law.waitsFor mem above) waits

theorem postDeviceFailed_quiet (d : Device) (tag : Nat) (s : State) : Quiet s (postDeviceFailed d tag s) := by
  unfold postDeviceFailed
  dsimp only
  split
  · exact post_quiet _ _ s
  · exact .refl s

theorem FlowLaw.failDevice (law : FlowLaw bus true none s) (d : Device) : FlowLaw bus true none (failDevice d s) := by
  have released : FlowLaw bus true none (Machine.failureStage2 d
      (s.setDevice d { s.device d with failed := true, pending := none, written := none })) := by
    cases d with
    | mfc c k => exact law.failureStage2_mfc c k rfl rfl
    | throttle c => exact law.setThrottle c _ s.dbc.nextAge
  unfold Machine.failDevice
  dsimp only
  refine FlowLaw.quiet ?_ (postDeviceFailed_quiet d _ _)
  split
  · exact (flowLaw_invariant bus true).takeFault _ _ released
  · exact released.quiet (setFlag_quiet _ _ _)

theorem FlowLaw.countNoAnswer (law : FlowLaw bus true none s) (d : Device) : FlowLaw bus true none (countNoAnswer d s) := by
  have counted := law.setDevice d { s.device d with
    noAnswers := satInc 255 (s.device d).noAnswers, consecutive := min 3 ((s.device d).consecutive + 1) } rfl rfl rfl
  unfold Machine.countNoAnswer
  dsimp only
  split
  · exact counted.failDevice d
  · exact counted

/-! ## The outcome of the transaction in flight (R124, R125, R131) -/

/-- A transaction that has no value on its way ends. -/
theorem FlowLaw.ends (law : FlowLaw bus false apart s) (flight : s.dbc.inFlight.isSome = true)
    (empty : ∀ d, s.flying false d = none) : FlowLaw bus true apart s :=
  law.change law.cover (fun on c k => (law.channel on c k).congr rfl rfl rfl (empty _).symm rfl rfl rfl) rfl rfl rfl
    (fun _ => id) (fun _ _ _ _ _ _ ok => ok) fun _ => flight

/-- A SET whose outcome counts ends with its device row as `y`. -/
theorem FlowLaw.endsSet (law : FlowLaw bus false apart s) {d : Device} {w : PendingWrite} {n : Nat}
    (flight : s.dbc.inFlight = some ⟨d, .set w, n, false⟩) {y : DeviceRow} (failed : y.failed = (s.device d).failed)
    (values : ∀ m x, ValuesCovered (s.device d).written ((s.device d).pending.map (·.value)) (some w.value) m x →
      ValuesCovered y.written (y.pending.map (·.value)) none m x) : FlowLaw bus true apart (s.setDevice d y) := by
  have own : (s.setDevice d y).device d = y := s.device_setDevice_self d y
  have other : ∀ e, e ≠ d → (s.setDevice d y).device e = s.device e := fun e ne => s.device_setDevice_ne d e y ne
  refine law.withDbc (fun on c k => ?_) (fun on c k ok => ?_) fun _ => congrArg Option.isSome flight
  · have held := law.channel on c k
    by_cases h : Device.mfc c k = d
    · subst h
      have flies := held.values
      rw [flying_set flight, if_pos rfl] at flies
      refine ⟨?_, held.scale, fun stands => held.released (failed.symm.trans ((congrArg DeviceRow.failed own).symm.trans stands))⟩
      show ValuesCovered ((s.setDevice (.mfc c k) y).device (.mfc c k)).written
        (((s.setDevice (.mfc c k) y).device (.mfc c k)).pending.map (·.value)) none _ _
      rw [own]
      exact values _ _ flies
    · exact held.congr (congrArg DeviceRow.written (other _ h)) (congrArg DeviceRow.pending (other _ h))
        (congrArg DeviceRow.failed (other _ h)) (flying_other flight (Ne.symm h) false).symm rfl rfl rfl
  · by_cases h : Device.mfc c k = d
    · subst h
      exact (congrArg DeviceRow.failed own).trans (failed.trans ok)
    · exact (congrArg DeviceRow.failed (other _ h)).trans ok

theorem FlowLaw.setAnswered (law : FlowLaw bus false none s) {d : Device} {w : PendingWrite} {n : Nat}
    (flight : s.dbc.inFlight = some ⟨d, .set w, n, false⟩) : FlowLaw bus true none (setAnswered d w s) := by
  have written := law.endsSet flight (y := (s.device d).answeredSet w) rfl fun _ _ => ValuesCovered.write
  cases d with
  | mfc c k => exact written.finalWrite c k
  | throttle c => exact written

theorem FlowLaw.readAnswered (law : FlowLaw bus true none s) (d : Device) (r : Reading) :
    FlowLaw bus true none (readAnswered d r s) := by
  have read := law.setDevice d ((s.device d).answeredRead r) rfl rfl rfl
  have checked : ∀ c k f t, FlowLaw bus true none t → FlowLaw bus true none (deviationCheck c k f t) := fun c k f t stands => by
    rcases deviationCheck_cases c k f t with h | ⟨x, h | h⟩ <;> rw [h]
    · exact stands
    · exact stands.quiet (setCheck_quiet c k x t)
    · exact (flowLaw_invariant bus true).failStep _ _ (stands.quiet (setCheck_quiet c k x t))
  unfold Machine.readAnswered
  split
  next c k f => exact checked c k f _ read
  · exact read

theorem returnedWrite_value (w : PendingWrite) (place : Option PendingWrite) :
    (returnedWrite w place).value = (place.map (·.value)).getD w.value := by
  cases place <;> rfl

theorem FlowLaw.noAnswer (law : FlowLaw bus false none s) {t : Transaction} (flight : s.dbc.inFlight = some t)
    (counts : t.discarded = false) : FlowLaw bus true none (noAnswer t s) := by
  obtain ⟨d, op, n, discarded⟩ := t
  obtain rfl : discarded = false := counts
  cases op with
  | set w =>
    refine (law.endsSet flight (y := { s.device d with pending := some (returnedWrite w (s.device d).pending) }) rfl
      fun m x held => ?_).countNoAnswer d
    show ValuesCovered _ (some (returnedWrite w (s.device d).pending).value) none m x
    rw [returnedWrite_value]
    exact held.bounce
  | read => exact (law.ends (by rw [flight]; rfl) (flying_read flight false)).countNoAnswer d

/-! ## Completions (R120) -/

theorem FlowLaw.freeBus {ended : Bool} (law : FlowLaw bus ended apart s) (empty : ∀ d, s.flying ended d = none) :
    FlowLaw bus false apart (freeBus s) :=
  law.withDbc (fun on c k => (law.channel on c k).congr rfl rfl rfl ((flying_free rfl false _).trans (empty _).symm) rfl rfl rfl)
    (fun _ _ _ ok => ok) nofun

theorem FlowLaw.finishBus (law : FlowLaw bus true none s) : FlowLaw bus false none (finishBus s) :=
  ((((flowLaw_invariant bus true).settle settleBound law).freeBus fun _ => rfl).arbitrate).quiet (flush_quiet _)

theorem FlowLaw.complete (law : FlowLaw bus false none s) {t : Transaction} (flight : s.dbc.inFlight = some t)
    {effect : State → State} (counts : t.discarded = false → FlowLaw bus true none (effect s)) :
    FlowLaw bus false none (complete t effect s) := by
  unfold Machine.complete
  cases discarded : t.discarded with
  | true =>
    obtain ⟨d, op, n, b⟩ := t
    obtain rfl : b = true := discarded
    exact (law.ends (by rw [flight]; rfl) (flying_discarded flight false)).finishBus
  | false => exact (counts discarded).finishBus

theorem FlowLaw.answerSet (law : FlowLaw bus false none s) : FlowLaw bus false none (answerSet s) := by
  unfold Machine.answerSet
  split
  next t flight =>
    obtain ⟨d, op, n, discarded⟩ := t
    cases op with
    | set w =>
      refine law.complete flight fun counts => ?_
      obtain rfl : discarded = false := counts
      exact law.setAnswered flight
    | read => exact law
  · exact law

theorem FlowLaw.answerRead (law : FlowLaw bus false none s) (r : Reading) : FlowLaw bus false none (answerRead r s) := by
  unfold Machine.answerRead
  split
  next t flight =>
    obtain ⟨d, op, n, discarded⟩ := t
    cases op with
    | set w => exact law
    | read =>
      dsimp only
      split
      · exact law.complete flight fun _ => (law.ends (by rw [flight]; rfl) (flying_read flight false)).readAnswered d r
      · exact law
  · exact law

theorem FlowLaw.endUnanswered (law : FlowLaw bus false none s) : FlowLaw bus false none (endUnanswered s) := by
  unfold Machine.endUnanswered
  split
  next t flight => exact law.complete flight (law.noAnswer flight)
  · exact law

/-! ## Sample ticks (R2, R120) -/

theorem FlowLaw.tickTransaction (law : FlowLaw bus false none s) : FlowLaw bus false none (tickTransaction s) := by
  unfold Machine.tickTransaction
  split
  · exact law
  next t flight =>
    have counted : FlowLaw bus false none
        { s with dbc := { s.dbc with inFlight := some { t with count := t.count + 1 } } } := by
      refine law.withDbc (fun on c k => (law.channel on c k).congr rfl rfl rfl ?_ rfl rfl rfl) (fun _ _ _ ok => ok) nofun
      obtain ⟨d, op, n, discarded⟩ := t
      unfold State.flying
      rw [flight]
      cases discarded <;> cases op <;> rfl
    dsimp only
    split
    · exact counted.endUnanswered
    · exact counted

end Completion

section Ticks
variable {bus : Bool} {s : State}

theorem FlowLaw.cascadeStep (law : FlowLaw bus false none s) : FlowLaw bus false none (cascadeStep s) := by
  have settled := (flowLaw_invariant bus false).settle settleBound law.stepTickEffect
  unfold Machine.cascadeStep
  dsimp only
  split
  · exact settled.quiet ((withBase_quiet _ _).trans (flush_quiet _))
  · exact (flowLaw_invariant bus false).finish (settled.quiet ((withBase_quiet _ _).trans (secondTickEffect_quiet _)))

theorem FlowLaw.sampleTick (law : FlowLaw bus false none s) : FlowLaw bus false none (sampleTick s) := by
  have based : FlowLaw bus false none (baseTick s) := by
    unfold baseTick
    split
    · exact law.quiet (withBase_quiet s _)
    · exact (law.quiet (withBase_quiet s _)).cascadeStep
  rw [sampleTick_eq]
  exact foldl_kept (fun _ l h => (flowLaw_invariant bus false).tickSilence l h) based.tickTransaction

end Ticks

end Sys2Proof.Machine
end

section
/-! The law of the generators and of the device bus over every request and every row, and with it over every step (R97, R98, R119,
R128, R170 to R174). -/

namespace Sys2Proof.Machine

open Sys2Proof

/-! ## Devices and counters (R124, R128, R166) -/

theorem channelSet_refl (c : Chamber) (k : Chan) (s : State) :
    ChannelSet c k (s.row c k) (s.gen c k) (s.device (.mfc c k)) s s where
  rows := (Per4.setK_getK_self _ c k).symm
  queue := rfl
  fru := (Per4.setK_getK_self _ c k).symm
  devices := (Per28.set_get_self _ _).symm
  inFlight := rfl
  vols := rfl
  cfg := rfl

section Requests
variable {bus : Bool} {s : State}

/-- A post that repeats the posted setpoint keeps the law. -/
theorem FlowLaw.postPosted (law : FlowLaw bus false none s) (c : Chamber) (k : Chan) {x : Nat} (cls : WriteClass)
    (same : bus = true → (s.gen c k).posted = x) : FlowLaw bus false none (postWrite (.mfc c k) (.flow x) cls s) := by
  cases bus with
  | false =>
    obtain ⟨b, h⟩ := postWrite_dbc (.mfc c k) (.flow x) cls s
    rw [h]
    exact law.withDbc nofun nofun nofun
  | true =>
    rw [← same rfl]
    exact law.posts (channelSet_refl c k s) (law.cover c k) le_rfl (fun on => (law.channel on c k).scale)
      (fun on failed => ((law.channel on c k).released failed).1) cls

theorem FlowLaw.clearDevice (law : FlowLaw bus false none s) (d : Device) : FlowLaw bus false none (clearDevice d s) := by
  cases d with
  | mfc c k =>
    have set : ChannelSet c k (s.row c k) (s.gen c k)
        { s.device (.mfc c k) with failed := false, consecutive := 0, written := none } s
        (s.setDevice (.mfc c k) { s.device (.mfc c k) with failed := false, consecutive := 0, written := none }) :=
      { channelSet_refl c k s with devices := rfl }
    have forgotten := law.channelSet (apart' := none) set (law.cover c k) (fun on => (law.channel on c k).values.forget)
      (fun on => (law.channel on c k).scale) (fun _ => nofun) (fun _ => id) fun _ _ _ _ _ _ _ => rfl
    unfold Machine.clearDevice
    dsimp only
    split
    next failed => exact forgotten.postPosted c k .urgent fun on => ((law.channel on c k).released failed).2
    · exact forgotten.arbitrate
  | throttle c =>
    have forgotten := law.setThrottle c
      { s.device (.throttle c) with failed := false, consecutive := 0, written := none } s.dbc.nextAge
    unfold Machine.clearDevice
    dsimp only
    split
    · exact forgotten.postThrottle c _ .urgent
    · exact forgotten.arbitrate

theorem FlowLaw.onClearDevice (law : FlowLaw bus false none s) (l : Link) (a : Nat) :
    FlowLaw bus false none (onClearDevice l a s).1 := by
  unfold Machine.onClearDevice
  split
  · exact law
  · split
    · exact law
    · split
      · exact law
      · exact law.clearDevice _

theorem FlowLaw.onResetCounters (law : FlowLaw bus false none s) (l : Link) (n : Nat) :
    FlowLaw bus false none (onResetCounters l n s).1 := by
  unfold Machine.onResetCounters
  split
  · exact law.quiet (modPort_quiet l (fun p => { p with frameErrors := 0, linkDowns := 0 }) s)
  · split
    · exact law
    next v check =>
      have reset := law.quiet (modVol_quiet v (fun x => { x with counters := .reset }) s fun running => ⟨running, rfl⟩)
      cases v with
      | ch c => exact foldl_kept (fun t d h => h.setDevice d { t.device d with noAnswers := 0 } rfl rfl rfl) reset
      | tc => exact reset
      | ll d => exact reset

/-- The flags that a master clears are none of the gas side's (R165). -/
theorem FlowLaw.onClearConditions (law : FlowLaw bus false none s) (l : Link) (n : Nat) (mask : Word16) :
    FlowLaw bus false none (onClearConditions l n mask s).1 := by
  unfold Machine.onClearConditions
  split
  · exact law
  next v check =>
    have cleared := (law.looseApart v).modVol fun x => x.clearFlags mask
    refine { cleared with queue := fun on e mem _ => ?_ }
    by_cases own : Volume.ch e.chamber = v
    · subst own
      refine (law.queue on e mem nofun).congr (fun r work => ?_) (fun _ => rfl) (fun _ _ ok => ok)
      have vol := s.vol_modVol_self (.ch e.chamber) fun x => x.clearFlags mask
      exact ⟨(congrArg Vol.state vol).trans work.running, (congrArg Vol.current vol).trans work.current⟩
    · exact cleared.queue on e mem fun same => own (Option.some.inj same).symm

/-! ## Configuration requests (R170 to R174) -/

/-- In CONFIGURING no channel holds a commitment and no request waits. -/
theorem PlantLaw.gasless (plant : PlantLaw s) (configuring : s.cfg.serving = false) :
    (∀ c k, (s.row c k).commitment = 0) ∧ ∀ e, e ∉ s.gat.queue := by
  have idle := plant.configuring configuring
  refine ⟨fun c => (hasCommitment_eq_false_iff s c).1 (plant.rest c (by simp [atRest, idle])), fun e mem => ?_⟩
  obtain ⟨running, -⟩ := (plant.gas e.chamber).queued e mem rfl
  simp [idle] at running

theorem FlowLaw.withItems (law : FlowLaw bus false none s) (plant : bus = true → PlantLaw s)
    (configuring : s.cfg.serving = false) (items : Items) :
    FlowLaw bus false none { s with cfg := { s.cfg with items := items } } := by
  refine ⟨law.cover, fun on c k => ?_, fun on e mem => ?_, nofun⟩
  · obtain ⟨none, -⟩ := (plant on).gasless configuring
    obtain ⟨values, -, released⟩ := law.channel on c k
    have zero : (State.row { s with cfg := { s.cfg with items := items } } c k).commitment = 0 := none c k
    exact ⟨values, zero ▸ Nat.zero_le _, released⟩
  · obtain ⟨-, empty⟩ := (plant on).gasless configuring
    exact absurd mem (empty e)

theorem FlowLaw.onWriteConfig (law : FlowLaw bus false none s) (plant : bus = true → PlantLaw s) (n i : Nat) (x : Int) :
    FlowLaw bus false none (onWriteConfig n i x s).1 := by
  unfold Machine.onWriteConfig
  split
  · exact law
  next configuring =>
    split
    · have written := law.withItems plant (by simpa using configuring) (s.items.put n i x)
      unfold writeItem
      dsimp only
      split
      · exact (flowLaw_invariant bus false).recompute written
      · exact written
    · exact law

/-- The closing posts of 0 keep the law where every posted setpoint is 0 (R172). -/
theorem FlowLaw.closingPosts (law : FlowLaw bus false none s) (zero : bus = true → ∀ c k, (s.gen c k).posted = 0) :
    FlowLaw bus false none (closingPosts s) := by
  have posts : FlowLaw bus false none (channels.foldl closingPost s)
      ∧ (channels.foldl closingPost s).fru = s.fru := by
    refine foldl_kept (P := fun t => FlowLaw bus false none t ∧ t.fru = s.fru) (fun t p h => ?_) ⟨law, rfl⟩
    obtain ⟨stands, fru⟩ := h
    unfold closingPost
    split
    · exact ⟨stands, fru⟩
    · have gen : t.gen p.1 p.2 = s.gen p.1 p.2 := by
        rw [State.gen, fru]
        rfl
      refine ⟨stands.postPosted p.1 p.2 .urgent fun on => gen ▸ zero on p.1 p.2, ?_⟩
      obtain ⟨b, e⟩ := postWrite_dbc (.mfc p.1 p.2) (.flow 0) .urgent t
      rw [e]
      exact fru
  obtain ⟨posted, -⟩ := posts
  exact foldl_kept (fun _ c h => h.postThrottle c .opened .urgent) posted

theorem FlowLaw.closingActions (law : FlowLaw bus false none s) (zero : bus = true → ∀ c k, (s.gen c k).posted = 0) :
    FlowLaw bus false none (closingActions s) := by
  have polled : ∀ pec : Pec, FlowLaw bus false none { s with
      pec := pec, dbc := { s.dbc with scanPos := 1, writes := 0 } } := fun _ =>
    law.quiet { Quiet.refl s with }
  exact (((polled _).closingPosts zero).arbitrate).quiet (mapPorts_quiet _ _)

theorem FlowLaw.onCloseConfiguration (law : FlowLaw bus false none s) (plant : bus = true → PlantLaw s) :
    FlowLaw bus false none (onCloseConfiguration s).1 := by
  unfold Machine.onCloseConfiguration
  split
  · exact law
  next configuring =>
    split
    · exact law
    · have serves : FlowLaw bus false none (enterServing s) := law.quiet { Quiet.refl s with }
      refine serves.closingActions fun on c k => ?_
      obtain ⟨none, -⟩ := (plant on).gasless (by simpa using configuring)
      exact Nat.le_zero.1 (none c k ▸ (law.cover c k).posted)

/-- The law of a state with its gas side at its power-on values and nothing on its way whose outcome counts. -/
theorem flowLaw_of_reset {s : State} (gat : s.gat = .reset) (fru : s.fru = .fill (.fill .reset))
    (devices : s.dbc.devices = .fill .reset) (empty : ∀ d, s.flying false d = none) : FlowLaw bus false none s := by
  have row : ∀ c k, s.row c k = ⟨0, 0, false⟩ := fun c k => by
    rw [State.row, gat, Gat.reset, Per4.getK_fill]
    rfl
  have gen : ∀ c k, s.gen c k = .reset := fun c k => by rw [State.gen, fru, Per4.getK_fill]
  have device : ∀ d, s.device d = .reset := fun d => by rw [State.device, devices, Per28.get_fill]
  refine ⟨fun c k => ?_, fun _ c k => ?_, fun _ e mem => ?_, nofun⟩
  · rw [row, gen]
    exact .stop .reset
  · refine ⟨?_, ?_, fun _ => ⟨row c k, by rw [gen]; rfl⟩⟩
    · rw [row, gen, device, empty]
      exact .none
    · rw [row]
      exact Nat.zero_le _
  · rw [gat] at mem
    exact absurd mem List.not_mem_nil

theorem restart_flying (s : State) (d : Device) : (restartBlocks s).flying false d = none := by
  cases flight : s.dbc.inFlight with
  | none =>
    have free : (restartBlocks s).dbc.inFlight = none := by simp [restartBlocks, Dbc.restart, flight]
    exact flying_free free false d
  | some t =>
    have discarded : (restartBlocks s).dbc.inFlight = some ⟨t.device, t.op, t.count, true⟩ := by
      simp [restartBlocks, Dbc.restart, flight]
    exact flying_discarded discarded false d

theorem FlowLaw.onRestart (law : FlowLaw bus false none s) : FlowLaw bus false none (onRestart s).1 := by
  unfold Machine.onRestart
  split
  · exact law
  · refine (flowLaw_of_reset rfl rfl rfl (restart_flying s)).closingActions fun _ c k => ?_
    have gen : (restartBlocks s).gen c k = .reset := Per4.getK_fill Generator.reset c k
    rw [gen]
    rfl

/-! ## Every request and every frame (R158 to R160) -/

/-- A volume that waits for gas runs. -/
theorem FlowLaw.vacant (law : FlowLaw bus false none s) (v : Volume) (stopped : (s.vol v).state ≠ .running)
    (on : bus = true) : ∀ e ∈ s.gat.queue, Volume.ch e.chamber ≠ v := by
  rintro e mem rfl
  obtain ⟨r, work, -⟩ := law.queue on e mem nofun
  exact stopped work.running

theorem FlowLaw.serve (law : FlowLaw bus false none s) (plant : bus = true → PlantLaw s) (l : Link) (req : Request) :
    FlowLaw bus false none (serve l req s).1 := by
  have inv := flowLaw_invariant bus false
  cases req with
  | load v r => exact inv.onLoad l v r law
  | run v => exact inv.onRun l v law law.vacant
  | hold v => exact inv.onHold l v law
  | resume v => exact inv.onResume l v law law.vacant
  | clear v => exact inv.onClear l v law
  | abort v => exact inv.onAbort l v law
  | gasEnable c x => exact inv.onGasEnable l c x law
  | transferAllow c x => exact law.quiet (onTransferAllow_quiet l c x s)
  | openSlit v => exact inv.onOpenSlit l v law
  | closeSlit v => exact inv.onCloseSlit l v law
  | openDoor v => exact law.quiet (onOpenDoor_quiet l v s)
  | closeDoor v => exact law.quiet (onCloseDoor_quiet l v s)
  | readNotice => exact law.quiet (modPort_quiet l _ s)
  | clearConditions v m => exact law.onClearConditions l v m
  | resetCounters v => exact law.onResetCounters l v
  | clearDevice a => exact law.onClearDevice l a
  | setNoticeMask m => exact law.quiet (modPort_quiet l (fun p => { p with mask := m.setWidth 7 }) s)
  | writeConfig n i x => exact law.onWriteConfig plant n i x
  | closeConfiguration => exact law.onCloseConfiguration plant
  | reopenConfiguration => exact inv.onReopenConfiguration law
  | restart => exact law.onRestart
  | _ => exact law

theorem FlowLaw.take (law : FlowLaw bus false none s) (plant : bus = true → PlantLaw s) (l : Link) (req : Request) :
    FlowLaw bus false none (take l req s).1 := by
  unfold Machine.take
  split
  · exact law.serve plant l req
  · exact law

theorem hear_quiet (l : Link) (s : State) : Quiet s (hear l s) := modPort_quiet l _ s

theorem PlantLaw.hear (plant : PlantLaw s) (l : Link) : PlantLaw (hear l s) := (modPort_eased l _ s).plantLaw plant

theorem FlowLaw.request (law : FlowLaw bus false none s) (plant : bus = true → PlantLaw s) (l : Link) (tag : Byte)
    (req : Request) : FlowLaw bus false none (request l tag req s) := by
  unfold Machine.request
  exact ((law.quiet (hear_quiet l s)).take (fun on => (plant on).hear l) l req).quiet (modPort_quiet l _ _)

theorem FlowLaw.takeBody (law : FlowLaw bus false none s) (plant : bus = true → PlantLaw s) (l : Link) (body : List Byte) :
    FlowLaw bus false none (takeBody l body s).1 := by
  unfold Machine.takeBody
  split
  · split
    · exact law.take plant l _
    · exact law
  · exact law

theorem FlowLaw.goodFrame (law : FlowLaw bus false none s) (plant : bus = true → PlantLaw s) (l : Link) (body : List Byte) :
    FlowLaw bus false none (goodFrame l body s) := by
  have heard := law.quiet (hear_quiet l s)
  unfold Machine.goodFrame
  dsimp only
  split
  · exact heard.quiet (modPort_quiet l _ _)
  · exact (heard.takeBody (fun on => (plant on).hear l) l body).quiet (modPort_quiet l _ _)

/-! ## Every step -/

theorem FlowLaw.exec (law : FlowLaw bus false none s) (plant : bus = true → PlantLaw s) (i : Instr) :
    ∃ t, exec i s = .next t ∧ FlowLaw bus false none t := by
  have inv := flowLaw_invariant bus false
  have due : ∀ {o : Option State}, Leads (Move s) o → FlowLaw bus false none (Machine.whenDue o s) := fun h =>
    inv.whenDue law (h.mono fun _ => .inl)
  cases i with
  | powerOn => exact ⟨_, rfl, flowLaw_of_reset rfl rfl rfl (flying_free rfl false)⟩
  | stepTick => exact ⟨_, rfl, inv.finish law.stepTickEffect⟩
  | secondTick => exact ⟨_, rfl, inv.finish (law.quiet (secondTickEffect_quiet s))⟩
  | pressureSample g n => exact ⟨_, rfl, inv.finish (inv.pressureSampleEffect g n law)⟩
  | emissionSample c n => exact ⟨_, rfl, inv.finish (law.quiet (emissionSampleEffect_quiet c n s))⟩
  | auxSample a n => exact ⟨_, rfl, law.quiet (.of_plant rfl rfl rfl rfl rfl)⟩
  | tripBlankingEnd => exact ⟨_, rfl, law.quiet (.of_plant rfl rfl rfl rfl rfl)⟩
  | roughGrant => exact ⟨_, rfl, due (grantHead?_moves s)⟩
  | roughValveOpen v => exact ⟨_, rfl, due (openValve?_moves v s)⟩
  | stallCheck v => exact ⟨_, rfl, inv.whenDue law (stallCheck?_moves v s)⟩
  | stepLimitExpiry v => exact ⟨_, rfl, due (stepLimitExpiry?_moves v s)⟩
  | admissionLimitExpiry v => exact ⟨_, rfl, due (admissionLimitExpiry?_moves v s)⟩
  | dwellComplete v => exact ⟨_, rfl, due (dwellComplete?_moves v s)⟩
  | overhangEnd v => exact ⟨_, rfl, due (overhangEnd?_moves v s)⟩
  | settleComplete c => exact ⟨_, rfl, due (settleComplete?_moves c s)⟩
  | transitionEnd c => exact ⟨_, rfl, due (transitionEnd?_moves c s)⟩
  | strikeConfirmed c => exact ⟨_, rfl, due (strikeConfirmed?_moves c s)⟩
  | strikeTimeout c => exact ⟨_, rfl, due (strikeTimeout?_moves c s)⟩
  | retryPauseEnd c => exact ⟨_, rfl, due (retryPauseEnd?_moves c s)⟩
  | dropoutLimitExceeded c => exact ⟨_, rfl, due (dropoutLimitExceeded?_moves c s)⟩
  | gatedTimeEnd c => exact ⟨_, rfl, due (gatedTimeEnd?_moves c s)⟩
  | windDownEnd v => exact ⟨_, rfl, due (windDownEnd?_moves v s)⟩
  | gasAdmission => exact ⟨_, rfl, due (gasAdmission?_moves s)⟩
  | transactionStart => exact ⟨_, rfl, law.arbitrate⟩
  | setGoodAnswer => exact ⟨_, rfl, law.answerSet⟩
  | readGoodAnswer r => exact ⟨_, rfl, law.answerRead r⟩
  | busBadAnswer => exact ⟨_, rfl, law.endUnanswered⟩
  | responseTimeout => exact ⟨_, rfl, law.endUnanswered⟩
  | strayAnswer => exact ⟨_, rfl, law⟩
  | inputLineRead levels => exact ⟨_, rfl, inv.recompute (law.quiet (.of_plant rfl rfl rfl rfl rfl))⟩
  | frameReceived l body check =>
    refine ⟨_, rfl, ?_⟩
    split
    · exact law.goodFrame plant l body
    · exact law.quiet (modPort_quiet l _ s)
  | frameDiscard l => exact ⟨_, rfl, law.quiet (modPort_quiet l _ s)⟩
  | frameGapTimeout l =>
    refine ⟨_, rfl, ?_⟩
    split
    · exact law.quiet (modPort_quiet l _ s)
    · exact law
  | replySent l => exact ⟨_, rfl, law.quiet (modPort_quiet l _ s)⟩
  | linkExpiry l =>
    refine ⟨_, rfl, ?_⟩
    unfold expireIfRunning
    split
    · exact inv.linkExpiry l law
    · exact law
  | startCharacter l => exact ⟨_, rfl, law.quiet (modPort_quiet l _ s)⟩
  | _ => exact ⟨_, rfl, law.request plant _ _ _⟩

theorem FlowLaw.step (law : FlowLaw bus false none s) (plant : bus = true → PlantLaw s) {t : State}
    (taken : step s = .next t) : FlowLaw bus false none t := by
  unfold Machine.step at taken
  split at taken
  next i rest pending =>
    have waiting : FlowLaw bus false none { s with pending := rest } := law.quiet (.of_plant rfl rfl rfl rfl rfl)
    obtain ⟨u, next, kept⟩ := waiting.exec (fun on => (plant on).beside) i
    rw [next] at taken
    exact Host.Outcome.next.inj taken ▸ kept
  next idle => exact Host.Outcome.next.inj taken ▸ law.sampleTick

end Requests

/-- Settles O9: a generator works within what its channel promises, and only a final write or a release takes a promise back. -/
theorem commitmentCoversSetpoint : Obligations.CommitmentCoversSetpoint := fun _ _ cover taken =>
  ((flowLaw_of_coverLaw cover).step nofun taken).coverLaw

/-- Settles O46: a value waits, flies and stands written under the commitment it was posted with, and the commitment goes down only
when the last of them is written. -/
theorem setpointsCovered : Obligations.SetpointsCovered := fun s _ plant cover bus taken =>
  ((flowLaw_of_busLaw ((plantLaw_iff s).1 plant) cover bus).step (fun _ => (plantLaw_iff s).1 plant) taken).busLaw

end Sys2Proof.Machine
end

section
/-! GAS ENABLE and TRANSFER ALLOW (R109, R110, R147): the checks, the flag each sets, the gas permit, and what a permit that is
taken does; no flag is cleared by what follows within an event. -/

namespace Sys2Proof.Machine

open Sys2Proof

/-! ## Flags stay set within an event (R60, R165) -/

/-- Only CLEAR CONDITIONS clears a condition flag, so a flag that is set is kept by everything that the step engine does. -/
theorem hasFlag_invariant (v : Volume) (f : Flag) : EngineInvariant (fun _ s => (s.vol v).hasFlag f = true) False where
  quiet change set := change.flags v f set
  apart _ set := set
  own {w s} g keeps set := by
    by_cases same : v = w
    · subst same
      rw [State.vol_modVol_self, Vol.hasFlag, keeps]
      exact set
    · rwa [State.vol_modVol_ne s w v g same]
  rejoin set _ := set
  zero {_ s} c cls k set := by
    obtain ⟨rows, fru, dbc, h⟩ := foldl_zeroChannel_eq c cls [k] s
    have zeroed : zeroChannel c cls s k = { s with gat := { s.gat with rows := rows }, fru := fru, dbc := dbc } := h
    rw [zeroed]
    exact set
  throttle {_ s} c x cls set := by
    obtain ⟨b, h⟩ := postWrite_dbc (.throttle c) x cls s
    rw [h]
    exact set
  joins {c r s} set _ _ :=
    (modVol_quiet (.ch c) (fun x => { x with admissionCount := 0 })
      { s with gat := { s.gat with queue := s.gat.queue ++ [⟨c, formRequest s c r.flows⟩] } }
      fun running => ⟨running, rfl⟩).flags v f set
  admits {e s} set _ := by
    obtain ⟨rows, fru, dbc, h⟩ := foldl_admitChannel_frame e.chamber e.aims Chan.all (withdrawGas e.chamber s)
    rw [admittedChannels, h]
    exact set

theorem finish_hasFlag {v : Volume} {f : Flag} {s : State} (set : (s.vol v).hasFlag f = true) :
    ((finish s).vol v).hasFlag f = true := (hasFlag_invariant v f).finish set

/-! ## The checks of a chamber request (R109, R147) -/

theorem Chamber.ofNum_eq_some {n : Nat} {c : Chamber} : Chamber.ofNum n = some c ↔ n = (Volume.ch c).num := by
  constructor
  · intro h
    unfold Chamber.ofNum at h
    split at h <;> cases h <;> rfl
  · rintro rfl
    cases c <;> rfl

theorem Chamber.ofNum_eq_none {n : Nat} (h : n = 0 ∨ 4 < n) : Chamber.ofNum n = none := by
  cases chamber : Chamber.ofNum n with
  | none => rfl
  | some c =>
    have number := Chamber.ofNum_eq_some.1 chamber
    have bounds : 1 ≤ (Volume.ch c).num ∧ (Volume.ch c).num ≤ 4 := by cases c <;> decide
    omega

section Checks
variable {l : Link} {n : Nat} {c : Chamber} {s : State}

theorem chamberCheck_range (h : Chamber.ofNum n = none) : chamberCheck l n s = .error .range := by
  simp [chamberCheck, h]

theorem chamberCheck_notFitted (h : Chamber.ofNum n = some c) (fitted : s.fitted (.ch c) = false) :
    chamberCheck l n s = .error .notFitted := by
  simp [chamberCheck, h, fitted]

theorem chamberCheck_owner (h : Chamber.ofNum n = some c) (fitted : s.fitted (.ch c) = true) (other : l ≠ .cc c) :
    chamberCheck l n s = .error .owner := by
  simp [chamberCheck, h, fitted, Ne.symm other]

theorem chamberCheck_ok (h : Chamber.ofNum n = some c) (fitted : s.fitted (.ch c) = true) (own : l = .cc c) :
    chamberCheck l n s = .ok c := by
  simp [chamberCheck, h, fitted, own]

end Checks

theorem exec_gasEnable_eq (l : Link) (tag : Byte) (n : Nat) (x : Bool) (s : State) : exec (.gasEnable l tag n x) s
    = .next (answered l tag (.gasEnable n x) (onGasEnable l n x (hear l s)).2 (onGasEnable l n x (hear l s)).1) := rfl

theorem exec_transferAllow_eq (l : Link) (tag : Byte) (n : Nat) (x : Bool) (s : State) : exec (.transferAllow l tag n x) s
    = .next (answered l tag (.transferAllow n x) (onTransferAllow l n x (hear l s)).2
      (onTransferAllow l n x (hear l s)).1) := rfl

/-- Both requests are refused for what the check finds, and change nothing. -/
theorem consents_refused {l : Link} {n : Nat} {s : State} {e : Reason} (tag : Byte) (x : Bool)
    (check : chamberCheck l n (hear l s) = .error e) :
    exec (.gasEnable l tag n x) s = .next (answered l tag (.gasEnable n x) (refuse e) (hear l s))
      ∧ exec (.transferAllow l tag n x) s = .next (answered l tag (.transferAllow n x) (refuse e) (hear l s)) := by
  have gas : onGasEnable l n x (hear l s) = (hear l s, refuse e) := by rw [onGasEnable, check]
  have allow : onTransferAllow l n x (hear l s) = (hear l s, refuse e) := by rw [onTransferAllow, check]
  rw [exec_gasEnable_eq, exec_transferAllow_eq, gas, allow]
  exact ⟨rfl, rfl⟩

/-! ## The gas permit (R109, R110) -/

/-- A chamber's gas enable flag set, with nothing else. -/
def enabled (c : Chamber) (x : Bool) (s : State) : State :=
  { s with gat := { s.gat with enable := s.gat.enable.set c x } }

theorem setEnable_eq (c : Chamber) (x : Bool) (s : State) : setEnable c x s =
    if s.permit c && !(enabled c x s).permit c then permitLoss c (enabled c x s) else enabled c x s := rfl

theorem permit_of_enable {c : Chamber} {x : Bool} {s u : State} (flu : u.flu = s.flu)
    (enable : u.gat.enable = s.gat.enable.set c x) : u.permit c = true ↔
      s.fn .facilityGasOk = true ∧ s.fn .exhaustOk = true ∧ x = true ∧ s.fn .emergencyOff = false := by
  rw [permit_iff, State.fn, State.fn, State.fn, flu, enable, Per4.get_set_self]
  rfl

theorem permit_enable {s : State} {c : Chamber} (h : s.permit c = true) : s.gat.enable.get c = true := by
  obtain ⟨-, -, enable, -⟩ := (permit_iff s c).1 h
  exact enable

/-- Where the chamber has no permit, GAS ENABLE takes none. -/
theorem setEnable_of_no_permit {c : Chamber} {s : State} (x : Bool) (h : s.permit c = false) :
    setEnable c x s = enabled c x s := by
  rw [setEnable_eq, h]
  rfl

theorem setEnable_takes {c : Chamber} {s : State} (h : s.permit c = true) :
    setEnable c false s = permitLoss c (enabled c false s) := by
  have taken : (enabled c false s).permit c = false := by simp [enabled, State.permit]
  rw [setEnable_eq, h, taken]
  rfl

/-! ## A permit loss (R110) -/

section Loss
variable {c : Chamber} {s : State}

theorem permitLoss_faults (moving : (s.vol (.ch c)).state = .running ∨ (s.vol (.ch c)).state = .ending)
    (gas : s.hasCommitment c = true) : permitLoss c s = takeFault (.ch c) .permitLost s := by
  rcases moving with state | state <;> simp [permitLoss, state, gas]

theorem permitLoss_flags (still : (s.vol (.ch c)).state = .safing ∨ (s.vol (.ch c)).state = .hold
    ∨ (s.vol (.ch c)).state = .idle ∨ s.hasCommitment c = false) : permitLoss c s = setFlag (.ch c) .permitLost s := by
  rcases still with state | state | state | gasless
  · simp [permitLoss, state]
  · simp [permitLoss, state]
  · simp [permitLoss, state]
  · simp [permitLoss, gasless]

theorem permitLoss_cases (c : Chamber) (s : State) : permitLoss c s = takeFault (.ch c) .permitLost s
    ∨ permitLoss c s = setFlag (.ch c) .permitLost s := by
  unfold permitLoss
  exact ite_eq_or_eq _ _ _

theorem permitLoss_hasFlag (fitted : s.fitted (.ch c) = true) :
    ((permitLoss c s).vol (.ch c)).hasFlag .permitLost = true := by
  rcases permitLoss_cases c s with h | h <;> rw [h]
  · obtain ⟨flag, -⟩ := takeFault_vol fitted (k := .permitLost) rfl
    exact flag
  · exact (setFlag_hasFlag_iff (.ch c) (.ch c) .permitLost .permitLost s).2 (.inr ⟨rfl, fitted, rfl⟩)

theorem permitLoss_eventFrame (c : Chamber) (s : State) : EventFrame s (permitLoss c s) := by
  rcases permitLoss_cases c s with h | h <;> rw [h]
  · exact takeFault_eventFrame _ _ s
  · exact setFlag_eventFrame _ _ s

theorem permitLoss_vol_ne {v : Volume} (ne : v ≠ .ch c) : (permitLoss c s).vol v = s.vol v := by
  rcases permitLoss_cases c s with h | h <;> rw [h]
  · obtain ⟨others, -⟩ := takeFault_oneVolume (.ch c) .permitLost s
    exact others v ne
  · exact setFlag_vol_ne _ _ _ s ne

/-- A RUNNING or ENDING chamber with gas promised enters SAFING, with the tag of its step (R53, R110). -/
theorem permitLoss_safing (fitted : s.fitted (.ch c) = true)
    (moving : (s.vol (.ch c)).state = .running ∨ (s.vol (.ch c)).state = .ending) (gas : s.hasCommitment c = true) :
    ((permitLoss c s).vol (.ch c)).state = .safing ∧ ∃ h, ((permitLoss c s).vol (.ch c)).hold = some h
      ∧ h.cause = .permitLost ∧ h.tag = (s.vol (.ch c)).currentTag := by
  obtain ⟨-, -, course⟩ := faultCourse
  obtain ⟨-, running, ending, -⟩ := course (.ch c) .permitLost s fitted
  rw [permitLoss_faults moving gas]
  rcases moving with state | state
  · obtain ⟨safing, hold, -⟩ := running state
    exact ⟨safing, _, hold, rfl, rfl⟩
  · obtain ⟨safing, hold, -⟩ := ending state
    exact ⟨safing, _, hold, rfl, rfl⟩

theorem permitLoss_flagged (still : (s.vol (.ch c)).state = .safing ∨ (s.vol (.ch c)).state = .hold
    ∨ (s.vol (.ch c)).state = .idle ∨ s.hasCommitment c = false) :
    (permitLoss c s).vol (.ch c) = { s.vol (.ch c) with flags := ((permitLoss c s).vol (.ch c)).flags } := by
  rw [permitLoss_flags still]
  exact setFlag_flagsOnly _ _ _ s

end Loss

theorem setEnable_eventFrame (c : Chamber) (x : Bool) (s : State) : EventFrame (enabled c x s) (setEnable c x s) := by
  rw [setEnable_eq]
  split
  · exact permitLoss_eventFrame c _
  · exact .refl _

/-! ## The requests accepted -/

section Accepted
variable {l : Link} {n : Nat} {c : Chamber} {s : State} (tag : Byte) (x : Bool) (check : chamberCheck l n (hear l s) = .ok c)
include check

theorem exec_transferAllow_ok : exec (.transferAllow l tag n x) s = .next (answered l tag (.transferAllow n x) ok
    { hear l s with tiu := { s.tiu with allow := s.tiu.allow.set c x } }) := by
  have allow : onTransferAllow l n x (hear l s)
      = ({ hear l s with tiu := { s.tiu with allow := s.tiu.allow.set c x } }, ok) := by
    rw [onTransferAllow, check]
    rfl
  rw [exec_transferAllow_eq, allow]

theorem exec_gasEnable_held (held : s.gat.enable.get c = x) :
    exec (.gasEnable l tag n x) s = .next (answered l tag (.gasEnable n x) ok (hear l s)) := by
  have kept : onGasEnable l n x (hear l s) = (hear l s, ok) := by
    rw [onGasEnable, check]
    exact if_pos held
  rw [exec_gasEnable_eq, kept]

theorem exec_gasEnable_set (changes : s.gat.enable.get c ≠ x) :
    exec (.gasEnable l tag n x) s = .next (answered l tag (.gasEnable n x) ok (finish (setEnable c x (hear l s)))) := by
  have set : onGasEnable l n x (hear l s) = (finish (setEnable c x (hear l s)), ok) := by
    rw [onGasEnable, check]
    exact if_neg changes
  rw [exec_gasEnable_eq, set]

end Accepted

/-- Settles O47, by the checks in their order, the flag, and the permit before and after it. -/
theorem chamberConsents : Obligations.ChamberConsents := by
  refine fun l tag n x s => ⟨fun out => consents_refused tag x (chamberCheck_range (Chamber.ofNum_eq_none out)),
    fun c => Chamber.ofNum_eq_some, fun c chamber => ⟨fun unfitted => ?_, fun fitted other => ?_, fun fitted own => ?_⟩⟩
  · exact consents_refused tag x (chamberCheck_notFitted chamber unfitted)
  · exact consents_refused tag x (chamberCheck_owner chamber fitted other)
  have check : chamberCheck l n (hear l s) = .ok c := chamberCheck_ok chamber fitted own
  refine ⟨exec_transferAllow_ok tag x check, exec_gasEnable_held tag x check, fun changes none => ?_, ?_⟩
  · have unpermitted : (hear l s).permit c = false := by
      rcases none with none | rfl
      · exact none
      · exact Bool.eq_false_iff.2 fun permit => changes (permit_enable permit)
    rw [exec_gasEnable_set tag x check changes, setEnable_of_no_permit x unpermitted]
    rfl
  · by_cases held : s.gat.enable.get c = x
    · have enable : (hear l s).gat.enable = s.gat.enable.set c x := by
        rw [← held]
        exact (Per4.set_get_self s.gat.enable c).symm
      refine ⟨hear l s, exec_gasEnable_held tag x check held, enable, permit_of_enable rfl enable,
        fun permit off => ?_, rfl, rfl, rfl, rfl⟩
      exact absurd (held.symm.trans (permit_enable permit)) (by simp [off])
    · have frame := (setEnable_eventFrame c x (hear l s)).trans (finish_eventFrame _)
      obtain ⟨cfg, flu, tiu, enable, -, gauges, -⟩ := frame
      refine ⟨_, exec_gasEnable_set tag x check held, enable, permit_of_enable flu enable, fun permit off => ?_,
        cfg, flu, tiu, gauges⟩
      subst off
      have taken : setEnable c false (hear l s) = permitLoss c (enabled c false (hear l s)) := setEnable_takes permit
      rw [taken]
      exact ⟨finish_hasFlag (permitLoss_hasFlag fitted), _, rfl,
        permitLoss_safing (s := enabled c false (hear l s)) fitted, permitLoss_flagged (s := enabled c false (hear l s)),
        fun v ne => permitLoss_vol_ne ne⟩

end Sys2Proof.Machine
end

section
/-! Proofs about the device bus's arbiter and its pending-write table: the most urgent write, the next poll, and the results of a
post (R121 to R123). -/

namespace Sys2Proof.Machine

open Sys2Proof

/-! ## The order of the pending writes (R121, R122) -/

/-- `a` takes its turn no later than `b`: its class is as urgent, and within one class it is as old. -/
def PendingWrite.NoLater (a b : PendingWrite) : Prop :=
  (a.cls = .urgent ∨ b.cls = .normal) ∧ (a.cls = b.cls → a.age ≤ b.age)

theorem PendingWrite.NoLater.refl (a : PendingWrite) : a.NoLater a := ⟨by cases a.cls <;> simp, fun _ => le_rfl⟩

theorem PendingWrite.NoLater.trans {a b c : PendingWrite} (h : a.NoLater b) (k : b.NoLater c) : a.NoLater c := by
  obtain ⟨class₁, age₁⟩ := h
  obtain ⟨class₂, age₂⟩ := k
  refine ⟨class₁.imp_right fun normal => class₂.resolve_left (by simp [normal]), fun ends => ?_⟩
  have same : a.cls = b.cls := by
    rcases class₁ with urgent | normal
    · rcases class₂ with urgent' | normal
      · rw [urgent, urgent']
      · exact absurd (urgent.symm.trans (ends.trans normal)) nofun
    · rw [ends, class₂.resolve_left (by simp [normal]), normal]
  exact (age₁ same).trans (age₂ (same.symm.trans ends))

theorem PendingWrite.noLater_of_before {a b : PendingWrite} (h : a.before b = true) : a.NoLater b := by
  unfold before at h
  split at h
  next same => exact ⟨by rw [same]; cases b.cls <;> simp, fun _ => by simpa using (of_decide_eq_true h).le⟩
  next other =>
    refine ⟨?_, fun same => absurd same other⟩
    cases ha : a.cls <;> cases hb : b.cls <;> simp_all [WriteClass.rank]

theorem PendingWrite.noLater_of_not_before {a b : PendingWrite} (h : ¬a.before b = true) : b.NoLater a := by
  unfold before at h
  split at h
  next same => exact ⟨by rw [same]; cases b.cls <;> simp, fun _ => by simpa using h⟩
  next other =>
    refine ⟨?_, fun same => absurd same.symm other⟩
    cases ha : a.cls <;> cases hb : b.cls <;> simp_all [WriteClass.rank]

/-! ## The most urgent write (R122) -/

/-- A write has been found that takes its turn no later than `x`. -/
def FoundFor (x : PendingWrite) (best : Option (Device × PendingWrite)) : Prop := ∃ b, best = some b ∧ b.2.NoLater x

/-- A device's turn finds a write no later than the one that waits in its own place. -/
theorem betterWrite_own {s : State} {d : Device} {x : PendingWrite} (waits : (s.device d).pending = some x)
    (best : Option (Device × PendingWrite)) : FoundFor x (betterWrite s best d) := by
  unfold betterWrite
  rw [waits]
  rcases best with _ | ⟨e, w⟩
  · exact ⟨(d, x), rfl, .refl x⟩
  · dsimp only
    split
    · exact ⟨(d, x), rfl, .refl x⟩
    next later => exact ⟨(e, w), rfl, PendingWrite.noLater_of_not_before later⟩

/-- A device's turn finds nothing later than what was found before it. -/
theorem betterWrite_keeps (s : State) (d : Device) {x : PendingWrite} {best : Option (Device × PendingWrite)}
    (h : FoundFor x best) : FoundFor x (betterWrite s best d) := by
  obtain ⟨⟨e, w⟩, rfl, first⟩ := h
  unfold betterWrite
  split
  · exact ⟨(e, w), rfl, first⟩
  next found => cases found
  next y f w' _ found =>
    cases found
    split
    next sooner => exact ⟨(d, y), rfl, (PendingWrite.noLater_of_before sooner).trans first⟩
    · exact ⟨(e, w), rfl, first⟩

theorem nodup_devices : Device.all.Nodup := by decide

theorem mostUrgent_first {s : State} {e : Device} {x : PendingWrite} (waits : (s.device e).pending = some x) :
    FoundFor x (mostUrgent s) :=
  foldl_turn (P := fun _ => True) (Q := FoundFor x) (fun _ _ _ h => h) (fun best _ => betterWrite_own waits best)
    (fun _ d _ h => betterWrite_keeps s d h) Device.all nodup_devices (Device.mem_all e) none trivial

theorem mostUrgent_eq_none_iff (s : State) : mostUrgent s = none ↔ ∀ d, (s.device d).pending = none := by
  refine ⟨fun none d => Option.eq_none_iff_forall_ne_some.2 fun x waits => ?_,
    fun empty => Option.eq_none_iff_forall_ne_some.2 fun ⟨d, w⟩ urgent => ?_⟩
  · obtain ⟨b, found, -⟩ := mostUrgent_first waits
    exact absurd (none.symm.trans found) nofun
  · exact absurd ((empty d).symm.trans (mostUrgent_pending urgent)) nofun

theorem mostUrgent_noLater {s : State} {d e : Device} {w x : PendingWrite} (urgent : mostUrgent s = some (d, w))
    (waits : (s.device e).pending = some x) : w.NoLater x := by
  obtain ⟨b, found, first⟩ := mostUrgent_first waits
  obtain rfl : (d, w) = b := Option.some.inj (urgent.symm.trans found)
  exact first

/-! ## The scan order (R123) -/

/-- The scan list, each entry with its position. -/
def numberedScan (s : State) : List (Nat × Device) :=
  (List.range s.scanList.length).zipWith (fun n d => (n + 1, d)) s.scanList

@[simp] theorem numberedScan_length (s : State) : (numberedScan s).length = s.scanList.length := by
  simp [numberedScan]

theorem numberedScan_getElem (s : State) (i : Nat) (h : i < (numberedScan s).length) :
    (numberedScan s)[i] = (i + 1, s.scanList[i]'(numberedScan_length s ▸ h)) := by
  simp [numberedScan]

theorem scanOrder_eq (s : State) :
    scanOrder s = (numberedScan s).drop (s.dbc.scanPos - 1) ++ (numberedScan s).take (s.dbc.scanPos - 1) := rfl

/-- From a position on the list the scan order is the list turned to it. -/
theorem scanOrder_eq_rotate {s : State} (h : s.dbc.scanPos ≤ s.scanList.length) :
    scanOrder s = (numberedScan s).rotate (s.dbc.scanPos - 1) := by
  rw [scanOrder_eq, List.rotate_eq_drop_append_take (by rw [numberedScan_length]; omega)]

/-- The scan order visits the devices of the scan list and no other. -/
theorem mem_scanOrder (s : State) (d : Device) : (∃ n, (n, d) ∈ scanOrder s) ↔ d ∈ s.scanList := by
  have visited : ∀ p, p ∈ scanOrder s ↔ p ∈ numberedScan s := fun p => by
    rw [scanOrder_eq, List.mem_append, or_comm, ← List.mem_append, List.take_append_drop]
  simp only [visited, List.mem_iff_getElem]
  constructor
  · rintro ⟨n, i, hi, e⟩
    rw [numberedScan_getElem] at e
    exact ⟨i, numberedScan_length s ▸ hi, (Prod.mk.inj e).2⟩
  · rintro ⟨i, hi, rfl⟩
    exact ⟨i + 1, i, by rwa [numberedScan_length], numberedScan_getElem s i _⟩

/-! ## The next poll (R123) -/

theorem nextPoll_of_configuring {s : State} (h : s.cfg.serving = false) : nextPoll s = none := by
  simp [nextPoll, h]

theorem nextPoll_of_serving {s : State} (h : s.cfg.serving = true) :
    nextPoll s = (scanOrder s).find? fun e => !(s.device e.2).failed := if_pos h

theorem nextPoll_eq_none_iff {s : State} (h : s.cfg.serving = true) :
    nextPoll s = none ↔ ∀ d ∈ s.scanList, (s.device d).failed = true := by
  rw [nextPoll_of_serving h, List.find?_eq_none]
  simp only [Bool.not_eq_true, Bool.not_eq_false', Prod.forall, ← mem_scanOrder]
  exact ⟨fun all d ⟨n, mem⟩ => all n d mem, fun all n d mem => all d ⟨n, mem⟩⟩

/-- The entry `i` places on from the scan position, wrapping. -/
theorem scanOrder_getElem {s : State} (pos : s.dbc.scanPos ≤ s.scanList.length) {i : Nat} (hi : i < s.scanList.length)
    (h : i < (scanOrder s).length) :
    (scanOrder s)[i] = ((s.dbc.scanPos - 1 + i) % s.scanList.length + 1,
      s.scanList[(s.dbc.scanPos - 1 + i) % s.scanList.length]'(Nat.mod_lt _ (Nat.zero_lt_of_lt hi))) := by
  have turned : (scanOrder s)[i] = ((numberedScan s).rotate (s.dbc.scanPos - 1))[i]'(by simpa using hi) := by
    simp only [scanOrder_eq_rotate pos]
  rw [turned, List.getElem_rotate, numberedScan_getElem]
  simp only [numberedScan_length, Nat.add_comm i]

theorem nextPoll_eq_some_iff {s : State} (serving : s.cfg.serving = true) (pos : s.dbc.scanPos ≤ s.scanList.length)
    (n : Nat) (e : Device) : nextPoll s = some (n, e) ↔ ∃ i, i < s.scanList.length
      ∧ n = (s.dbc.scanPos - 1 + i) % s.scanList.length + 1 ∧ s.scanList[n - 1]? = some e ∧ (s.device e).failed = false
      ∧ ∀ j, j < i → ∀ d, s.scanList[(s.dbc.scanPos - 1 + j) % s.scanList.length]? = some d →
          (s.device d).failed = true := by
  have length : (scanOrder s).length = s.scanList.length := by rw [scanOrder_eq_rotate pos]; simp
  rw [nextPoll_of_serving serving, List.find?_eq_some_iff_getElem]
  constructor
  · rintro ⟨ok, i, hi, found, before⟩
    have hl : i < s.scanList.length := length ▸ hi
    rw [scanOrder_getElem pos hl] at found
    obtain ⟨number, entry⟩ := Prod.mk.inj found
    refine ⟨i, hl, number.symm, ?_, by simpa using ok, fun j hj d hd => ?_⟩
    · rw [← number, Nat.add_sub_cancel, ← entry]
      exact List.getElem?_eq_getElem _
    · have failed := before j hj
      rw [scanOrder_getElem pos (hj.trans hl)] at failed
      obtain ⟨_, rfl⟩ := List.getElem?_eq_some_iff.1 hd
      simpa using failed
  · rintro ⟨i, hl, rfl, entry, ok, before⟩
    refine ⟨by simpa using ok, i, length.symm ▸ hl, ?_, fun j hj => ?_⟩
    · rw [scanOrder_getElem pos hl]
      obtain ⟨_, rfl⟩ := List.getElem?_eq_some_iff.1 entry
      rfl
    · rw [scanOrder_getElem pos (hj.trans hl)]
      simpa using before j hj _ (List.getElem?_eq_getElem _)

/-! ## The scan list (Table 11-1, R119) -/

theorem Device.ofAddr_eq_some_iff (a : Nat) (d : Device) : Device.ofAddr a = some d ↔ a = d.addr := by
  refine ⟨fun h => ?_, fun h => h ▸ Device.ofAddr_addr d⟩
  by_cases big : 29 ≤ a
  · obtain ⟨n, rfl⟩ := Nat.exists_eq_add_of_le' big
    have none : Device.ofAddr (n + 29) = none := by
      unfold Device.ofAddr
      rw [if_neg (by omega)]
      rfl
    exact absurd (none.symm.trans h) nofun
  · have small : ∀ a < 29, ∀ e ∈ Device.ofAddr a, a = e.addr := by decide
    exact small a (by omega) d h

/-- Addresses 1 to 28 each name a device (R119). -/
theorem Device.exists_ofAddr {a : Nat} (low : 1 ≤ a) (high : a ≤ 28) : ∃ d, Device.ofAddr a = some d := by
  have all : ∀ a < 29, 1 ≤ a → (Device.ofAddr a).isSome := by decide
  exact Option.isSome_iff_exists.1 (all a (by omega) low)

theorem scanList_entries {s : State} (length : s.items.scanEntry.length = 32)
    (range : ∀ a ∈ s.items.scanEntry, 1 ≤ a ∧ a ≤ 28) (low : 0 ≤ s.items.scanLength) (high : s.items.scanLength ≤ 32) :
    (s.scanList.length : Int) = s.items.scanLength
      ∧ ∀ (i : Nat) (d : Device), s.scanList[i]? = some d ↔
          (i : Int) < s.items.scanLength ∧ s.items.scanEntry[i]? = some (d.addr : Int) := by
  have named : ∀ a ∈ s.items.scanEntry, ∃ d : Device, Device.ofAddr a.toNat = some d ∧ a = d.addr := fun a mem => by
    obtain ⟨la, ha⟩ := range a mem
    obtain ⟨d, hd⟩ := Device.exists_ofAddr (a := a.toNat) (by omega) (by omega)
    have address := (Device.ofAddr_eq_some_iff _ _).1 hd
    exact ⟨d, hd, by omega⟩
  have entries : s.scanList
      = (s.items.scanEntry.take s.items.scanLength.toNat).map fun a => (Device.ofAddr a.toNat).getD (.throttle .c1) := by
    unfold State.scanList
    rw [← List.filterMap_eq_map]
    refine List.filterMap_congr fun a mem => ?_
    obtain ⟨d, hd, -⟩ := named a (List.mem_of_mem_take mem)
    simp [hd]
  refine ⟨?_, fun i d => ?_⟩
  · rw [entries, List.length_map, List.length_take]
    omega
  · rw [entries, List.getElem?_map, List.getElem?_take]
    by_cases inside : (i : Int) < s.items.scanLength
    · rw [if_pos (by omega)]
      cases he : s.items.scanEntry[i]? with
      | none => simp
      | some a =>
        obtain ⟨e, hd, rfl⟩ := named a (List.mem_of_getElem? he)
        have same : (e = d) ↔ e.addr = d.addr :=
          ⟨congrArg _, fun h => Option.some.inj ((Device.ofAddr_addr e).symm.trans (h ▸ Device.ofAddr_addr d))⟩
        rw [Option.map_some, hd]
        simp [inside, same]
    · rw [if_neg (by omega)]
      simp [inside]

/-! ## The arbiter's table (R122) -/

section Arbiter
variable {s : State}

theorem arbitrate_busy (busy : s.dbc.inFlight.isSome = true) : arbitrate s = s := if_pos busy

theorem arbitrate_idle (write : mostUrgent s = none) (poll : nextPoll s = none) : arbitrate s = s := by
  simp [arbitrate, write, poll]

theorem arbitrate_write {d : Device} {w : PendingWrite} (free : s.dbc.inFlight = none) (write : mostUrgent s = some (d, w))
    (turn : s.dbc.writes ≠ 8 ∨ nextPoll s = none) : arbitrate s = startWrite d w s := by
  cases poll : nextPoll s with
  | none => simp [arbitrate, free, write, poll]
  | some e =>
    have below : s.dbc.writes ≠ 8 := turn.resolve_right (by simp [poll])
    simp [arbitrate, free, write, poll, below]

theorem arbitrate_poll {n : Nat} {e : Device} (free : s.dbc.inFlight = none) (poll : nextPoll s = some (n, e))
    (turn : mostUrgent s = none ∨ s.dbc.writes = 8) : arbitrate s = startPoll n e s := by
  cases write : mostUrgent s with
  | none => simp [arbitrate, free, write, poll]
  | some p =>
    have full : s.dbc.writes = 8 := turn.resolve_left (by simp [write])
    simp [arbitrate, free, write, poll, full]

end Arbiter

theorem startWrite_device_self (d : Device) (w : PendingWrite) (s : State) :
    (startWrite d w s).device d = { s.device d with pending := none } := State.device_setDevice_self s d _

theorem startWrite_device_ne {d e : Device} (w : PendingWrite) (s : State) (ne : e ≠ d) :
    (startWrite d w s).device e = s.device e := State.device_setDevice_ne s d e _ ne

theorem startWrite_writes (d : Device) (w : PendingWrite) (s : State) :
    (startWrite d w s).dbc.writes = min 8 (s.dbc.writes + 1) := by
  show (if s.dbc.writes < 8 then s.dbc.writes + 1 else 8) = _
  split <;> omega

theorem exec_transactionStart {s t : State} (h : arbitrate s = t) : exec .transactionStart s = .next t := h ▸ rfl

/-- Settles O31: the lines of the table, then the most urgent write by the fold over the devices, the next poll by the scan list
turned to the scan position, and the scan list by its addresses. -/
theorem arbiterChoice : Obligations.ArbiterChoice := by
  refine ⟨fun s => ⟨fun busy => ?_, fun free write poll => ?_, fun d w free write turn => ?_, fun n e free poll turn => ?_⟩,
    fun s d w urgent => ⟨mostUrgent_pending urgent, fun e x waits => mostUrgent_noLater urgent waits⟩,
    mostUrgent_eq_none_iff, fun s => ⟨nextPoll_of_configuring, nextPoll_eq_none_iff,
      fun serving _ pos => nextPoll_eq_some_iff serving pos, scanList_entries⟩⟩
  · exact exec_transactionStart (arbitrate_busy busy)
  · exact exec_transactionStart (arbitrate_idle write poll)
  · exact ⟨_, exec_transactionStart (arbitrate_write free write turn), rfl, by rw [startWrite_device_self],
      fun e ne => startWrite_device_ne w s ne, startWrite_writes d w s, rfl, rfl⟩
  · have turn' : mostUrgent s = none ∨ s.dbc.writes = 8 := turn.imp_right And.right
    exact ⟨_, exec_transactionStart (arbitrate_poll free poll turn'), rfl, rfl, rfl, fun _ => rfl, rfl⟩

/-! ## Posts (R121) -/

theorem WriteClass.min_eq_urgent_iff (a b : WriteClass) : a.min b = .urgent ↔ a = .urgent ∨ b = .urgent := by
  cases a <;> cases b <;> decide

section Post
variable {d : Device} {x : BusValue} {k : WriteClass} {s : State} (ok : (s.device d).failed = false)
include ok

/-- A post into an empty place makes the youngest entry. -/
theorem placeWrite_fresh (empty : (s.device d).pending = none) : placeWrite d x k s =
    { s.setDevice d { s.device d with pending := some ⟨x, k, s.dbc.nextAge⟩ } with
      dbc := { (s.setDevice d { s.device d with pending := some ⟨x, k, s.dbc.nextAge⟩ }).dbc with
        nextAge := s.dbc.nextAge + 1 } } := by
  simp only [placeWrite, ok, empty]
  rfl

/-- A post onto an entry replaces its value, keeps its age and takes the more urgent class. -/
theorem placeWrite_joins {w : PendingWrite} (waits : (s.device d).pending = some w) : placeWrite d x k s =
    s.setDevice d { s.device d with pending := some ⟨x, w.cls.min k, w.age⟩ } := by
  simp only [placeWrite, ok, waits]
  rfl

end Post

/-- Settles O32, by the three results of a post. -/
theorem postTable : Obligations.PostTable := by
  intro d x k s
  have frame : placeWrite d x k s = { s with dbc := (placeWrite d x k s).dbc } := by
    obtain ⟨b, h⟩ := placeWrite_dbc d x k s
    rw [h]
  refine ⟨fun failed => ?_, fun ok empty => ?_, fun w ok waits => ?_, fun e ne => placeWrite_device_ne d e x k s ne, frame⟩
  · exact if_pos failed
  · rw [placeWrite_fresh ok empty]
    exact ⟨congrArg DeviceRow.pending (s.device_setDevice_self d _), rfl⟩
  · rw [placeWrite_joins ok waits]
    exact ⟨w.cls.min k, congrArg DeviceRow.pending (s.device_setDevice_self d _), WriteClass.min_eq_urgent_iff _ _, rfl⟩

end Sys2Proof.Machine
end

section
/-! Proof of the statement about ramps: a ramp step in its parts, and where a ramp stands after each of its steps (R115, R116,
R118). -/

namespace Sys2Proof.Machine

open Sys2Proof

/-! ## One ramp step (R116, R118) -/

theorem rampTick_idle {s : State} {c : Chamber} {k : Chan} (idle : (s.gen c k).left = 0) : rampTick s (c, k) = s := if_pos idle

theorem rampTick_ramping {s : State} {c : Chamber} {k : Chan} (ramps : (s.gen c k).left ≠ 0) :
    rampTick s (c, k) = if 0 < (s.gen c k).increment ∨ (s.gen c k).step.left = 0
      then postGenerator c k (s.setGen c k (s.gen c k).step) else s.setGen c k (s.gen c k).step := by
  simp [rampTick, ramps]

namespace Generator
variable {g : Generator}

theorem step_carries (carry : g.ticks ≤ g.accumulator + g.remainder) :
    g.step.accumulator = g.accumulator + g.remainder - g.ticks ∧ g.increment = g.quotient + 1 :=
  ⟨if_pos carry, if_pos carry⟩

theorem step_gathers (below : g.accumulator + g.remainder < g.ticks) :
    g.step.accumulator = g.accumulator + g.remainder ∧ g.increment = g.quotient :=
  ⟨if_neg (Nat.not_le.2 below), if_neg (Nat.not_le.2 below)⟩

/-- The accumulator counts the remainders modulo the ticks. -/
theorem step_accumulator_mod (acc : g.accumulator < g.ticks) (rem : g.remainder < g.ticks) :
    g.step.accumulator = (g.accumulator + g.remainder) % g.ticks := by
  by_cases carry : g.ticks ≤ g.accumulator + g.remainder
  · obtain ⟨accumulator, -⟩ := step_carries carry
    rw [accumulator, Nat.mod_eq_sub_mod carry, Nat.mod_eq_of_lt (by omega)]
  · obtain ⟨accumulator, -⟩ := step_gathers (Nat.not_le.1 carry)
    rw [accumulator, Nat.mod_eq_of_lt (Nat.not_le.1 carry)]

/-- A step of a sound ramp stays between the posted setpoint and the target. -/
theorem step_between (sound : g.sound) (ramps : g.left ≠ 0) :
    min g.posted g.target ≤ g.step.posted ∧ g.step.posted ≤ max g.posted g.target := by
  obtain ⟨acc, -, -, way⟩ := (sound_ramping ramps).1 sound
  have toGo := toGo_step ramps (Nat.zero_lt_of_lt acc)
  cases up : g.up <;> simp only [up, if_true, if_false, Bool.false_eq_true, step] at way toGo ⊢ <;> omega

end Generator

/-! ## A ramp from its start to its end (R115, R116) -/

/-- A ramp starts sound, whatever the generator did before: it starts as a generator at rest at the same setpoint does. -/
theorem Generator.ramp_sound (g : Generator) (target : Nat) {n : Nat} (cls : WriteClass) (ramps : n ≠ 0) :
    (g.ramp target n cls).sound := by
  have resting : Covered (g.jump g.posted cls) ⟨g.posted, g.posted, false⟩ := ⟨g.jump_sound _ cls, rfl, le_rfl, le_rfl⟩
  have started := (resting.start target n cls).sound
  rw [Generator.start, if_neg ramps] at started
  exact started

/-- A generator after `j` steps of a ramp of `n` ticks with remainder `r` from `origin` to `target`. -/
structure RampAt (origin target n r j : Nat) (g : Generator) : Prop where
  sound : g.sound
  aim : g.target = target
  ticks : g.ticks = n
  remainder : g.remainder = r
  left : g.left = n - j
  accumulator : g.accumulator = r * j % n
  low : min origin target ≤ g.posted
  high : g.posted ≤ max origin target

theorem RampAt.step {origin target n r j : Nat} {g : Generator} (h : RampAt origin target n r j g) (more : j < n) :
    RampAt origin target n r (j + 1) g.step := by
  obtain ⟨sound, rfl, rfl, rfl, left, accumulator, low, high⟩ := h
  have ramps : g.left ≠ 0 := by omega
  obtain ⟨acc, rem, -⟩ := (Generator.sound_ramping ramps).1 sound
  obtain ⟨above, below⟩ := Generator.step_between sound ramps
  refine ⟨g.step_sound sound ramps, rfl, rfl, rfl, ?_, ?_, by omega, by omega⟩
  · show g.left - 1 = g.ticks - (j + 1)
    omega
  · show g.step.accumulator = g.remainder * (j + 1) % g.ticks
    rw [Generator.step_accumulator_mod acc rem, accumulator, Nat.mod_add_mod, Nat.mul_succ]

theorem RampAt.start (g : Generator) (target : Nat) {n : Nat} (cls : WriteClass) (ramps : n ≠ 0) :
    RampAt g.posted target n (g.ramp target n cls).remainder 0 (g.ramp target n cls) where
  sound := g.ramp_sound target cls ramps
  aim := rfl
  ticks := rfl
  remainder := rfl
  left := rfl
  accumulator := (Nat.zero_mod n).symm
  low := min_le_left _ _
  high := le_max_left _ _

theorem RampAt.iterate {origin target n r : Nat} {g : Generator} (h : RampAt origin target n r 0 g) :
    ∀ j, j ≤ n → RampAt origin target n r j (Generator.step^[j] g)
  | 0, _ => h
  | j + 1, le => by
    rw [Function.iterate_succ_apply']
    exact (h.iterate j (Nat.le_of_succ_le le)).step le

/-- After all its steps a ramp stands at its target with nothing gathered. -/
theorem RampAt.arrives {origin target n r : Nat} {g : Generator} (h : RampAt origin target n r n g) :
    g.posted = target ∧ g.accumulator = 0 := by
  have arrived := h.sound
  rw [Generator.sound, if_pos (h.left.trans (Nat.sub_self n)), h.aim] at arrived
  exact ⟨arrived, h.accumulator.trans (Nat.mul_mod_left r n)⟩

/-- Settles O14: a step by whether its accumulator carries, and a ramp by where it stands after each of its steps. -/
theorem rampArrivesExactly : Obligations.RampArrivesExactly := by
  refine ⟨fun g ramps => ⟨Generator.step_carries, Generator.step_gathers, rfl, Nat.sub_add_cancel ramps, rfl, ?_⟩,
    fun c k s => rampTick_idle, fun c k s => rfl, fun g target n cls ticks => ?_⟩
  · rintro c k s rfl
    exact rampTick_ramping ramps.ne'
  · have course := (RampAt.start g target cls ticks.ne').iterate
    exact ⟨fun j le => ⟨(course j le).left, (course j le).low, (course j le).high⟩, (course n le_rfl).arrives⟩

end Sys2Proof.Machine
end

section
/-! Proofs about a device's failure: what its four stages leave of the device, its channel and its chamber (R99, R126, R127), and
how a no-answer is counted (R124, R126). -/

namespace Sys2Proof.Machine

open Sys2Proof

/-! ## What a failure and a fault keep (R52, R53) -/

section Kept
variable {P : State → Prop} (quiet : ∀ {s t}, Quiet s t → P s → P t) (winds : ∀ {v h s}, P s → P (windDown v h s))
include quiet winds

/-- What quiet changes and wind-down keep, a step failure keeps. -/
theorem failStep_kept {s : State} (v : Volume) (f : FailKind) (h : P s) : P (failStep v f s) := by
  rcases failStep_cases v f s with e | ⟨r, -, -, ⟨-, e⟩ | ⟨-, e⟩⟩ <;> rw [e]
  · exact h
  · exact winds (quiet (failed_quiet v f s) h)
  · exact winds (quiet ((failed_quiet v f s).trans (discard_quiet v _)) h)

/-- What quiet changes and wind-down keep, a fault keeps. -/
theorem takeFault_kept {s : State} (v : Volume) (k : HoldCause) (h : P s) : P (takeFault v k s) := by
  have flagged := quiet (setFlag?_quiet v k.flag s) h
  unfold takeFault
  split
  · dsimp only
    split
    · exact winds (quiet (recordEnd_quiet v _ _ _ _) flagged)
    next ending =>
      have safing := quiet (modVol_quiet v (fun x => { x with
        state := .safing, phase := .none, hold := some ⟨k, none, x.currentTag, .none⟩ }) _
        fun running => absurd (running.symm.trans ending) nofun) flagged
      split
      · exact quiet (setGate_quiet v false _) safing
      · exact safing
    all_goals exact flagged
  · exact h

end Kept

/-! ## A FAILED device with an empty place (R121) -/

/-- A device that is FAILED has nothing waiting in its place. -/
def Dead (y : DeviceRow) : Prop := y.failed = true ∧ y.pending = none

/-- A post to any device leaves the row of a FAILED one with an empty place. -/
theorem postWrite_dead {d : Device} {s : State} (dead : Dead (s.device d)) (e : Device) (x : BusValue) (k : WriteClass) :
    (postWrite e x k s).device d = s.device d := by
  obtain ⟨failed, empty⟩ := dead
  have dropped : (placeWrite e x k s).device d = s.device d := by
    by_cases same : d = e
    · subst same
      rw [show placeWrite d x k s = s from if_pos failed]
    · exact placeWrite_device_ne e d x k s same
  have still : ((postWrite e x k s).device d).pending = none := by
    rcases arbitrate_pending (placeWrite e x k s) d with none | kept
    · exact none
    · exact kept.trans ((congrArg DeviceRow.pending dropped).trans empty)
  rw [(postWrite_placesOnly e x k s).devicesStand d, still, ← empty]

theorem startTransition_dead {d : Device} {s : State} (dead : Dead (s.device d)) (c : Chamber) (k : Chan) (target n : Nat)
    (cls : WriteClass) : (startTransition c k target n cls s).device d = s.device d := by
  unfold startTransition startGenerator
  dsimp only
  split
  · exact postWrite_dead (s := (((s.setRow c k _).setCheck c k _).setGen c k _)) dead _ _ _
  · rfl

theorem zeroChannel_dead {d : Device} {s : State} (dead : Dead (s.device d)) (c : Chamber) (cls : WriteClass) (k : Chan) :
    (zeroChannel c cls s k).device d = s.device d := by
  unfold zeroChannel
  split
  · rfl
  · exact startTransition_dead dead c k 0 0 cls

theorem admittedChannels_dead {d : Device} {s : State} (dead : Dead (s.device d)) (e : GasEntry) :
    (admittedChannels e s).device d = s.device d := by
  refine List.foldlRecOn (motive := fun t : State => t.device d = s.device d) Chan.all
    (admitChannel e.chamber e.aims) rfl fun t ht k _ => ?_
  rcases admitChannel_cases e.chamber k e.aims t with h | h <;> rw [h]
  · exact ht
  · exact (startTransition_dead (ht ▸ dead) _ _ _ _ _).trans ht

/-- Within an event nothing happens to a FAILED device with an empty place. -/
theorem dead_invariant (d : Device) {y : DeviceRow} (dead : Dead y) : EngineInvariant (fun _ s => s.device d = y) False where
  quiet change h := (congrArg (fun p : Per28 DeviceRow => p.get d) change.devices).trans h
  apart _ h := h
  own _ _ h := h
  rejoin h _ := h
  zero c cls k h := (zeroChannel_dead (h ▸ dead) c cls k).trans h
  throttle _ x cls h := (postWrite_dead (h ▸ dead) _ x cls).trans h
  joins h _ _ := h
  admits h _ := (admittedChannels_dead (h ▸ dead) _).trans h

/-! ## A released channel (R99, R117) -/

/-- A channel with nothing promised, its generator as it was stopped. -/
def Released (c : Chamber) (k : Chan) (g : Generator) (s : State) : Prop := s.row c k = ⟨0, 0, false⟩ ∧ s.gen c k = g

theorem Released.quiet {c : Chamber} {k : Chan} {g : Generator} {s t : State} (change : Quiet s t)
    (h : Released c k g s) : Released c k g t := by
  obtain ⟨row, gen⟩ := h
  exact ⟨(congrArg (fun p : Per24 ChannelRow => p.getK c k) change.rows).trans row,
    (congrArg (fun p : Per24 Generator => p.getK c k) change.fru).trans gen⟩

theorem ChannelRow.eq_zero {r : ChannelRow} (commitment : r.commitment = 0) (target : r.target = 0)
    (still : r.inFlight = false) : r = ⟨0, 0, false⟩ := by
  obtain ⟨_, _, _⟩ := r
  cases commitment
  cases target
  cases still
  rfl

/-- Wind-down leaves a channel alone that stands at 0 with nothing in flight (R102). -/
theorem Released.windDown {c : Chamber} {k : Chan} {g : Generator} {s : State} (v : Volume) (h : Option HoldRecord)
    (released : Released c k g s) : Released c k g (windDown v h s) := by
  obtain ⟨row, gen⟩ := released
  by_cases own : v = .ch c
  · subst own
    obtain ⟨target, commitment, inFlight, -, rest⟩ := (windDown_chamberOff c h s).zeroed k
    rw [row] at commitment inFlight rest
    refine ⟨?_, (rest rfl rfl).trans gen⟩
    exact ChannelRow.eq_zero commitment target (by simpa using inFlight)
  · obtain ⟨row', gen'⟩ := (windDown_local v h s).channel c own k
    exact ⟨row'.trans row, gen'.trans gen⟩

/-! ## Stages 1 and 2 of a failure (R127) -/

/-- Stage 1: the device is FAILED, its pending entry and its written value are gone. -/
def fallen (d : Device) (s : State) : State :=
  s.setDevice d { s.device d with failed := true, pending := none, written := none }

/-- Stage 2 but for the step of a waiting request: an MFC's channel is released. -/
def freed (d : Device) (s : State) : State :=
  match d with
  | .mfc c k => releaseChannel c k s
  | .throttle _ => s

/-- Whether the chamber's waiting request lists the device's channel (R99). -/
def awaited (d : Device) (s : State) : Bool :=
  match d with
  | .mfc c k => waitsFor c k s
  | .throttle _ => false

theorem failureStage2_eq (d : Device) (s : State) : failureStage2 d s
    = if awaited d s then failStep (.ch d.chamber) .deviceFailed (freed d s) else freed d s := by
  cases d <;> rfl

/-- The state after stage 3: the chamber has taken its fault or is flagged only. -/
def judged (d : Device) (s : State) : State :=
  if failureFaults (failureStage2 d (fallen d s)) d (commitmentOf s d)
    then takeFault (.ch d.chamber) .deviceFailed (failureStage2 d (fallen d s))
    else setFlag (.ch d.chamber) .deviceFailed (failureStage2 d (fallen d s))

theorem failDevice_eq (d : Device) (s : State) :
    failDevice d s = postDeviceFailed d (s.vol (.ch d.chamber)).currentTag (judged d s) := rfl

/-- A channel's release changes GAT, HLM, FRU, its flow check and the notices. -/
theorem freed_frame (d : Device) (s : State) : (freed d s).vols = s.vols ∧ (freed d s).cfg = s.cfg
    ∧ (freed d s).gat.queue = s.gat.queue ∧ (freed d s).dbc.devices = s.dbc.devices ∧ EventFrame s (freed d s) := by
  cases d with
  | mfc c k =>
    obtain ⟨hlm, outbox, h⟩ := headerTest_frame (((s.setRow c k ⟨0, 0, false⟩).setGen c k (s.gen c k).stop).setCheck c k
      { s.check c k with deviation := 0 })
    have released : freed (.mfc c k) s = _ := h
    have frame := headerTest_eventFrame (((s.setRow c k ⟨0, 0, false⟩).setGen c k (s.gen c k).stop).setCheck c k
      { s.check c k with deviation := 0 })
    refine ⟨?_, ?_, ?_, ?_, EventFrame.trans (.refl s) frame⟩ <;> rw [released] <;> rfl
  | throttle c => exact ⟨rfl, rfl, rfl, rfl, .refl s⟩

theorem freed_vol (d : Device) (s : State) (v : Volume) : (freed d s).vol v = s.vol v := by
  obtain ⟨vols, -⟩ := freed_frame d s
  rw [State.vol, vols]
  rfl

theorem freed_released (c : Chamber) (k : Chan) (s : State) : Released c k (s.gen c k).stop (freed (.mfc c k) s) := by
  obtain ⟨t, set, quiet⟩ := releaseChannel_channelSet c k (s.device (.mfc c k)) s
  have same : s.setDevice (.mfc c k) (s.device (.mfc c k)) = s := by simp [State.setDevice, State.device]
  rw [same] at quiet
  refine Released.quiet quiet ⟨?_, ?_⟩
  · rw [State.row, set.rows, Per4.getK_setK_self]
  · rw [State.gen, set.fru, Per4.getK_setK_self]

/-! ## Everything the failure of a device keeps -/

theorem postDeviceFailed_eq {d : Device} {s : State} (tag : Nat) (fitted : s.fitted (.ch d.chamber) = true) :
    postDeviceFailed d tag s = post [.cc d.chamber] ⟨.deviceFailed, d.chamber.num, tag, 0, d.addr, 0⟩ s := if_pos fitted

theorem postDeviceFailed_plant (d : Device) (tag : Nat) (s : State) :
    ∃ outbox, postDeviceFailed d tag s = { s with outbox := outbox } := by
  by_cases fitted : s.fitted (.ch d.chamber) = true
  · exact ⟨_, postDeviceFailed_eq tag fitted⟩
  · exact ⟨s.outbox, if_neg fitted⟩

theorem postDeviceFailed_vol (d : Device) (tag : Nat) (s : State) (v : Volume) :
    (postDeviceFailed d tag s).vol v = s.vol v := by
  obtain ⟨outbox, h⟩ := postDeviceFailed_plant d tag s
  rw [h]
  rfl

section Stages
variable {P : State → Prop} {d : Device} {s : State} (start : P (freed d (fallen d s)))
  (fails : ∀ {t}, P t → P (failStep (.ch d.chamber) .deviceFailed t))
include start fails

theorem failureStage2_kept : P (failureStage2 d (fallen d s)) := by
  rw [failureStage2_eq]
  split
  · exact fails start
  · exact start

variable (faults : ∀ {t}, P t → P (takeFault (.ch d.chamber) .deviceFailed t))
  (flags : ∀ {t}, P t → P (setFlag (.ch d.chamber) .deviceFailed t))
include faults flags

theorem judged_kept : P (judged d s) := by
  have stage2 := failureStage2_kept start fails
  unfold judged
  split
  · exact faults stage2
  · exact flags stage2

/-- What the stages of a failure keep one by one, the failure keeps. -/
theorem failDevice_kept (posts : ∀ {t tag}, P t → P (postDeviceFailed d tag t)) : P (failDevice d s) :=
  posts (judged_kept start fails faults flags)

end Stages

theorem freed_eventFrame (d : Device) (s : State) : EventFrame s (freed d (fallen d s)) := by
  obtain ⟨-, -, -, -, frame⟩ := freed_frame d (fallen d s)
  exact EventFrame.trans (.refl s) frame

theorem failureStage2_eventFrame (d : Device) (s : State) : EventFrame s (failureStage2 d (fallen d s)) :=
  failureStage2_kept (P := EventFrame s) (freed_eventFrame d s) fun h => h.trans (failStep_eventFrame _ _ _)

theorem judged_eventFrame (d : Device) (s : State) : EventFrame s (judged d s) :=
  judged_kept (P := EventFrame s) (freed_eventFrame d s) (fun h => h.trans (failStep_eventFrame _ _ _))
    (fun h => h.trans (takeFault_eventFrame _ _ _)) fun h => h.trans (setFlag_eventFrame _ _ _)

theorem failDevice_eventFrame (d : Device) (s : State) : EventFrame s (failDevice d s) := by
  obtain ⟨outbox, e⟩ := postDeviceFailed_plant d (s.vol (.ch d.chamber)).currentTag (judged d s)
  rw [failDevice_eq, e]
  exact judged_eventFrame d s

theorem failDevice_vol_ne {d : Device} (s : State) {v : Volume} (ne : v ≠ .ch d.chamber) :
    (failDevice d s).vol v = s.vol v :=
  failDevice_kept (P := fun t => t.vol v = s.vol v) (freed_vol d _ v) (fun h => ((failStep_local _ _ _).vol v ne).trans h)
    (fun h => ((takeFault_local _ _ _).vol v ne).trans h) (fun h => (setFlag_vol_ne _ _ _ _ ne).trans h)
    fun h => (postDeviceFailed_vol _ _ _ v).trans h

/-- An invariant of the step engine that stands after stage 2 stands after the failure. -/
theorem failDevice_invariant {I : Option Volume → State → Prop} {counts : Prop} (inv : EngineInvariant I counts) {d : Device}
    {s : State} (start : I none (freed d (fallen d s))) : I none (failDevice d s) :=
  failDevice_kept start (fun h => inv.failStep _ _ h) (fun h => inv.takeFault _ _ h)
    (fun h => inv.quiet (setFlag_quiet _ _ _) h) fun h => inv.quiet (postDeviceFailed_quiet d _ _) h

theorem freed_device (d e : Device) (s : State) : (freed d s).device e = s.device e := by
  obtain ⟨-, -, -, devices, -⟩ := freed_frame d s
  rw [State.device, devices]
  rfl

/-- The device of a failure is FAILED with its place empty and its written value absent. -/
theorem failDevice_device_self (d : Device) (s : State) : (failDevice d s).device d
    = { s.device d with failed := true, pending := none, written := none } :=
  failDevice_invariant (dead_invariant d ⟨rfl, rfl⟩) ((freed_device d d _).trans (s.device_setDevice_self d _))

theorem failDevice_device_ne {d e : Device} (s : State) (ne : e ≠ d) : (failDevice d s).device e
    = { s.device e with pending := ((failDevice d s).device e).pending } := by
  obtain ⟨-, -, -, devices, -⟩ := freed_frame d (fallen d s)
  have stand := failDevice_invariant (devicesStand_invariant (fallen d s)) (.of_devices devices) e
  rwa [fallen, State.device_setDevice_ne s d e _ ne] at stand

/-- A FAILED MFC has its row and its generator released. -/
theorem failDevice_released (c : Chamber) (k : Chan) (s : State) :
    Released c k (s.gen c k).stop (failDevice (.mfc c k) s) :=
  failDevice_kept (P := Released c k (s.gen c k).stop) (freed_released c k (fallen (.mfc c k) s))
    (failStep_kept Released.quiet (Released.windDown _ _) _ _) (takeFault_kept Released.quiet (Released.windDown _ _) _ _)
    (Released.quiet (setFlag_quiet _ _ _)) (Released.quiet (postDeviceFailed_quiet _ _ _))

/-! ## The chamber of a FAILED device (R99, R127) -/

theorem failDevice_hasFlag {d : Device} {s : State} (fitted : s.fitted (.ch d.chamber) = true) :
    ((failDevice d s).vol (.ch d.chamber)).hasFlag .deviceFailed = true := by
  have still : (failureStage2 d (fallen d s)).fitted (.ch d.chamber) = true :=
    ((failureStage2_eventFrame d s).fitted _).trans fitted
  rw [failDevice_eq, postDeviceFailed_vol, judged]
  split
  · obtain ⟨flag, -⟩ := takeFault_vol still (k := .deviceFailed) rfl
    exact flag
  · exact (setFlag_hasFlag_iff _ _ _ _ _).2 (.inr ⟨rfl, still, rfl⟩)

theorem failDevice_posts {d : Device} {s : State} (fitted : s.fitted (.ch d.chamber) = true) :
    ∃ q, (failDevice d s).outbox = q ++ [⟨[.cc d.chamber],
      ⟨.deviceFailed, d.chamber.num, (s.vol (.ch d.chamber)).currentTag, 0, d.addr, 0⟩⟩] := by
  rw [failDevice_eq, postDeviceFailed_eq _ (((judged_eventFrame d s).fitted _).trans fitted)]
  exact ⟨_, rfl⟩

theorem waitsFor_iff (c : Chamber) (k : Chan) (s : State) : waitsFor c k s = true ↔
    s.inGasQueue c = true ∧ ∃ r, (s.vol (.ch c)).current = some r ∧ ∃ f ∈ r.flows, f.chan = k := by
  unfold waitsFor
  cases (s.vol (.ch c)).current <;> simp [listed?]

theorem waitsFor_eq_false {c : Chamber} {k : Chan} {s : State}
    (unlisted : ∀ r, (s.vol (.ch c)).current = some r → s.inGasQueue c = true → ∀ f ∈ r.flows, f.chan ≠ k) :
    waitsFor c k s = false := Bool.eq_false_iff.2 fun waits => by
  obtain ⟨queued, r, current, f, mem, chan⟩ := (waitsFor_iff c k s).1 waits
  exact unlisted r current queued f mem chan

theorem failureFaults_mfc (c : Chamber) (k : Chan) (before : Nat) (s : State) :
    failureFaults s (.mfc c k) before = true ↔ (s.vol (.ch c)).state = .running ∧ 0 < before := by
  simp [failureFaults]

theorem failureFaults_throttle (c : Chamber) (before : Nat) (s : State) : failureFaults s (.throttle c) before = true ↔
    ∃ r, (s.vol (.ch c)).state = .running ∧ (s.vol (.ch c)).current = some r ∧ r.kind.isGas = true := by
  unfold failureFaults runningStep
  by_cases running : (s.vol (.ch c)).state = .running
  · cases current : (s.vol (.ch c)).current <;> simp [running, current]
  · simp [running]

/-- The chamber's fault test fails unless the chamber runs. -/
theorem failureFaults_runs {d : Device} {before : Nat} {s : State} (h : failureFaults s d before = true) :
    (s.vol (.ch d.chamber)).state = .running := by
  cases d with
  | mfc c k =>
    obtain ⟨running, -⟩ := (failureFaults_mfc c k before s).1 h
    exact running
  | throttle c =>
    obtain ⟨r, running, -⟩ := (failureFaults_throttle c before s).1 h
    exact running

/-- A step whose waiting request lists the channel fails; the chamber is then past its fault test (R99, R127). -/
theorem failDevice_awaited {d : Device} {s : State} {r : StepRecord} (running : (s.vol (.ch d.chamber)).state = .running)
    (current : (s.vol (.ch d.chamber)).current = some r) (waits : awaited d s = true) : failDevice d s
      = postDeviceFailed d (s.vol (.ch d.chamber)).currentTag (setFlag (.ch d.chamber) .deviceFailed
        (failStep (.ch d.chamber) .deviceFailed (freed d (fallen d s)))) := by
  have waits' : awaited d (fallen d s) = true := by cases d <;> exact waits
  have stopped : failureFaults (failStep (.ch d.chamber) .deviceFailed (freed d (fallen d s))) d (commitmentOf s d) = false := by
    refine Bool.eq_false_iff.2 fun faults => ?_
    have runs := failureFaults_runs faults
    have vol : (freed d (fallen d s)).vol (.ch d.chamber) = s.vol (.ch d.chamber) := freed_vol d _ _
    rw [← vol] at running current
    cases course : r.onFail with
    | hold =>
      rw [failStep_hold _ running current course, (windDown_vol _ _ _).2] at runs
      cases runs
    | abort =>
      rw [failStep_abort _ running current course, (windDown_vol _ _ _).2] at runs
      cases runs
  rw [failDevice_eq, judged, failureStage2_eq, if_pos waits', stopped]
  rfl

section Unawaited
variable {d : Device} {s : State} (alone : awaited d s = false ∨ (s.vol (.ch d.chamber)).state ≠ .running)
include alone

/-- Without a step to fail, stage 2 releases the channel alone. -/
theorem failureStage2_unawaited : failureStage2 d (fallen d s) = freed d (fallen d s) := by
  rw [failureStage2_eq]
  rcases alone with alone | stopped
  · rw [show awaited d (fallen d s) = false by cases d <;> exact alone]
    rfl
  · have vol : (freed d (fallen d s)).vol (.ch d.chamber) = s.vol (.ch d.chamber) := freed_vol d _ _
    rw [failStep_of_not_running _ (vol ▸ stopped), ite_self]

theorem failDevice_faults (faults : failureFaults (freed d (fallen d s)) d (commitmentOf s d) = true) : failDevice d s
    = postDeviceFailed d (s.vol (.ch d.chamber)).currentTag
      (takeFault (.ch d.chamber) .deviceFailed (freed d (fallen d s))) := by
  rw [failDevice_eq, judged, failureStage2_unawaited alone, if_pos faults]

theorem failDevice_flags (quiet : failureFaults (freed d (fallen d s)) d (commitmentOf s d) = false) :
    (failDevice d s).vol (.ch d.chamber)
      = { s.vol (.ch d.chamber) with flags := ((failDevice d s).vol (.ch d.chamber)).flags } := by
  have course : failDevice d s = postDeviceFailed d (s.vol (.ch d.chamber)).currentTag
      (setFlag (.ch d.chamber) .deviceFailed (freed d (fallen d s))) := by
    rw [failDevice_eq, judged, failureStage2_unawaited alone, quiet]
    rfl
  have vol : (freed d (fallen d s)).vol (.ch d.chamber) = s.vol (.ch d.chamber) := freed_vol d _ _
  rw [course, postDeviceFailed_vol, ← vol]
  exact setFlag_flagsOnly _ _ _ _

end Unawaited

/-- The step of a RUNNING chamber whose waiting request lists the channel fails with DEVICE_FAILED and leaves the queue. -/
theorem failDevice_failsStep {c : Chamber} {k : Chan} {s : State} {r : StepRecord}
    (running : (s.vol (.ch c)).state = .running) (current : (s.vol (.ch c)).current = some r)
    (waits : waitsFor c k s = true) :
    ((failDevice (.mfc c k) s).vol (.ch c)).lastEnd = some ⟨r.tag, r.kind, .failed, some .deviceFailed, none⟩
      ∧ (failDevice (.mfc c k) s).inGasQueue c = false
      ∧ (r.onFail = .hold → ((failDevice (.mfc c k) s).vol (.ch c)).state = .safing
          ∧ ((failDevice (.mfc c k) s).vol (.ch c)).hold
              = some ⟨.stepFailed, some .deviceFailed, r.tag, (s.vol (.ch c)).phase⟩)
      ∧ (r.onFail = .abort → ((failDevice (.mfc c k) s).vol (.ch c)).state = .ending
          ∧ ((failDevice (.mfc c k) s).vol (.ch c)).hold = none) := by
  have course : failDevice (.mfc c k) s = postDeviceFailed (.mfc c k) (s.vol (.ch c)).currentTag
      (setFlag (.ch c) .deviceFailed (failStep (.ch c) .deviceFailed (freed (.mfc c k) (fallen (.mfc c k) s)))) :=
    failDevice_awaited running current waits
  have vol : (freed (.mfc c k) (fallen (.mfc c k) s)).vol (.ch c) = s.vol (.ch c) := freed_vol _ _ _
  have running' := (congrArg Vol.state vol).trans running
  have current' := (congrArg Vol.current vol).trans current
  have flagged : ∀ t : State, (postDeviceFailed (.mfc c k) (s.vol (.ch c)).currentTag
      (setFlag (.ch c) .deviceFailed t)).inGasQueue c = t.inGasQueue c := fun t => by
    obtain ⟨outbox, e⟩ := postDeviceFailed_plant (.mfc c k) (s.vol (.ch c)).currentTag (setFlag (.ch c) .deviceFailed t)
    obtain ⟨vols, outbox', e'⟩ := setFlag_eq (.ch c) .deviceFailed t
    rw [e, e']
    rfl
  have withdrawn : ∀ h t, (windDown (.ch c) h t).inGasQueue c = false := fun h t => by
    simp [State.inGasQueue, (windDown_chamberOff c h t).gas]
  have ended := failed_lastEnd .deviceFailed current'
  rw [course, postDeviceFailed_vol, setFlag_flagsOnly, flagged]
  cases onFail : r.onFail with
  | hold =>
    rw [failStep_hold _ running' current' onFail, (windDown_vol _ _ _).2, vol]
    exact ⟨ended, withdrawn _ _, fun _ => ⟨rfl, rfl⟩, nofun⟩
  | abort =>
    rw [failStep_abort _ running' current' onFail, (windDown_vol _ _ _).2, discard, State.vol_modVol_self]
    exact ⟨ended, withdrawn _ _, nofun, fun _ => ⟨rfl, rfl⟩⟩

/-- What makes the chamber of a FAILED device take a fault (R127, stage 3), once its step has not failed in stage 2. -/
def FaultCause (d : Device) (s : State) : Prop :=
  (∃ c k, d = .mfc c k ∧ 0 < (s.row c k).commitment
      ∧ ∀ r, (s.vol (.ch c)).current = some r → s.inGasQueue c = true → ∀ f ∈ r.flows, f.chan ≠ k)
    ∨ ∃ c r, d = .throttle c ∧ (s.vol (.ch c)).current = some r ∧ r.kind.isGas = true

theorem failDevice_takesFault {d : Device} {s : State} (fitted : s.fitted (.ch d.chamber) = true)
    (running : (s.vol (.ch d.chamber)).state = .running) (cause : FaultCause d s) :
    ((failDevice d s).vol (.ch d.chamber)).state = .safing
      ∧ ((failDevice d s).vol (.ch d.chamber)).hold
          = some ⟨.deviceFailed, none, (s.vol (.ch d.chamber)).currentTag, (s.vol (.ch d.chamber)).phase⟩ := by
  have vol : (freed d (fallen d s)).vol (.ch d.chamber) = s.vol (.ch d.chamber) := freed_vol d _ _
  have faults : awaited d s = false ∧ failureFaults (freed d (fallen d s)) d (commitmentOf s d) = true := by
    rcases cause with ⟨c, k, rfl, promised, unlisted⟩ | ⟨c, r, rfl, current, gas⟩
    · exact ⟨waitsFor_eq_false unlisted, (failureFaults_mfc c k _ _).2 ⟨(congrArg Vol.state vol).trans running, promised⟩⟩
    · exact ⟨rfl, (failureFaults_throttle c _ _).2
        ⟨r, (congrArg Vol.state vol).trans running, (congrArg Vol.current vol).trans current, gas⟩⟩
  obtain ⟨alone, faults⟩ := faults
  obtain ⟨-, -, -, -, frame⟩ := freed_frame d (fallen d s)
  obtain ⟨-, -, course⟩ := faultCourse
  obtain ⟨-, runs, -⟩ := course (.ch d.chamber) .deviceFailed (freed d (fallen d s)) ((frame.fitted _).trans fitted)
  obtain ⟨safing, hold, -⟩ := runs ((congrArg Vol.state vol).trans running)
  rw [failDevice_faults (.inl alone) faults, postDeviceFailed_vol]
  exact ⟨safing, by rw [hold, vol]⟩

/-- A chamber that has no step to fail and no fault to take is flagged only. -/
theorem failDevice_flagsOnly {d : Device} {s : State} (h : (s.vol (.ch d.chamber)).state ≠ .running
      ∨ (∃ c k, d = .mfc c k ∧ (s.row c k).commitment = 0
        ∧ ∀ r, (s.vol (.ch c)).current = some r → s.inGasQueue c = true → ∀ f ∈ r.flows, f.chan ≠ k)
      ∨ ∃ c, d = .throttle c ∧ ∀ r, (s.vol (.ch c)).current = some r → r.kind.isGas = false) :
    (failDevice d s).vol (.ch d.chamber)
      = { s.vol (.ch d.chamber) with flags := ((failDevice d s).vol (.ch d.chamber)).flags } := by
  have vol : (freed d (fallen d s)).vol (.ch d.chamber) = s.vol (.ch d.chamber) := freed_vol d _ _
  rcases h with stopped | ⟨c, k, rfl, none, unlisted⟩ | ⟨c, rfl, dry⟩
  · exact failDevice_flags (.inr stopped) (Bool.eq_false_iff.2 fun faults =>
      stopped ((congrArg Vol.state vol).symm.trans (failureFaults_runs faults)))
  · refine failDevice_flags (.inl (waitsFor_eq_false unlisted)) (Bool.eq_false_iff.2 fun faults => ?_)
    obtain ⟨-, promised⟩ := (failureFaults_mfc c k _ _).1 faults
    exact promised.ne' none
  · refine failDevice_flags (.inl rfl) (Bool.eq_false_iff.2 fun faults => ?_)
    obtain ⟨r, -, current, gas⟩ := (failureFaults_throttle c _ _).1 faults
    exact absurd ((dry r ((congrArg Vol.current vol).symm.trans current)).symm.trans gas) nofun

/-! ## A no-answer (R124, R126) -/

/-- The row of a device after a transaction ended as a no-answer: a value being written waits again, and both counts count. -/
def DeviceRow.noAnswered (y : DeviceRow) (op : BusOp) : DeviceRow :=
  { y with
    pending := match op with | .set w => some (returnedWrite w y.pending) | .read => y.pending
    noAnswers := satInc 255 y.noAnswers
    consecutive := min 3 (y.consecutive + 1) }

theorem noAnswer_eq (d : Device) (op : BusOp) (n : Nat) (b : Bool) (s : State) : noAnswer ⟨d, op, n, b⟩ s
    = if 2 ≤ (s.device d).consecutive then failDevice d (s.setDevice d ((s.device d).noAnswered op))
      else s.setDevice d ((s.device d).noAnswered op) := by
  have third : 3 ≤ (s.device d).consecutive + 1 ↔ 2 ≤ (s.device d).consecutive := by omega
  cases op with
  | read =>
    unfold noAnswer countNoAnswer
    simp only [third]
    rfl
  | set w =>
    have twice : ∀ x y : DeviceRow, (s.setDevice d x).setDevice d y = s.setDevice d y := fun x y => by
      simp only [State.setDevice, Per28.set_set]
    unfold noAnswer countNoAnswer
    simp only [State.device_setDevice_self, twice, third]
    rfl

theorem endUnanswered_counts {s : State} {d : Device} {op : BusOp} {n : Nat}
    (h : s.dbc.inFlight = some ⟨d, op, n, false⟩) : endUnanswered s = finishBus (noAnswer ⟨d, op, n, false⟩ s) := by
  simp [endUnanswered, h, complete]

theorem noAnswer_eventFrame (t : Transaction) (s : State) : EventFrame s (noAnswer t s) := by
  obtain ⟨d, op, n, b⟩ := t
  rw [noAnswer_eq]
  split
  · exact EventFrame.trans (.refl s) (failDevice_eventFrame d _)
  · exact .refl s

section Counted
variable {s : State} {d : Device} (op : BusOp) (n : Nat)

/-- Below the third in a row only the device's own row changes. -/
theorem noAnswer_below (below : (s.device d).consecutive < 2) :
    noAnswer ⟨d, op, n, false⟩ s = s.setDevice d ((s.device d).noAnswered op) := by
  rw [noAnswer_eq, if_neg (Nat.not_le.2 below)]

/-- The third in a row fails the device. -/
theorem noAnswer_third (third : 2 ≤ (s.device d).consecutive) :
    noAnswer ⟨d, op, n, false⟩ s = failDevice d (s.setDevice d ((s.device d).noAnswered op)) := by
  rw [noAnswer_eq, if_pos third]

theorem noAnswer_device_below (below : (s.device d).consecutive < 2) :
    (noAnswer ⟨d, op, n, false⟩ s).device d = (s.device d).noAnswered op := by
  rw [noAnswer_below op n below, State.device_setDevice_self]

theorem noAnswer_device_third (third : 2 ≤ (s.device d).consecutive) : (noAnswer ⟨d, op, n, false⟩ s).device d
    = { (s.device d).noAnswered op with failed := true, pending := none, written := none } := by
  rw [noAnswer_third op n third, failDevice_device_self, State.device_setDevice_self]

theorem noAnswer_device_counts : ((noAnswer ⟨d, op, n, false⟩ s).device d).noAnswers = satInc 255 (s.device d).noAnswers
    ∧ ((noAnswer ⟨d, op, n, false⟩ s).device d).reading = (s.device d).reading := by
  by_cases below : (s.device d).consecutive < 2
  · rw [noAnswer_device_below op n below]
    exact ⟨rfl, rfl⟩
  · rw [noAnswer_device_third op n (Nat.not_lt.1 below)]
    exact ⟨rfl, rfl⟩

theorem noAnswer_device_ne {e : Device} (ne : e ≠ d) : (noAnswer ⟨d, op, n, false⟩ s).device e
    = { s.device e with pending := ((noAnswer ⟨d, op, n, false⟩ s).device e).pending } := by
  have other := s.device_setDevice_ne d e ((s.device d).noAnswered op) ne
  by_cases below : (s.device d).consecutive < 2
  · rw [noAnswer_below op n below, other]
  · rw [noAnswer_third op n (Nat.not_lt.1 below)]
    exact (failDevice_device_ne _ ne).trans (by rw [other])

end Counted

/-- A value that was being written waits again, with its age and the more urgent class (R124). -/
theorem returnedWrite_some (w x : PendingWrite) :
    ∃ k, returnedWrite w (some x) = ⟨x.value, k, w.age⟩ ∧ (k = .urgent ↔ w.cls = .urgent ∨ x.cls = .urgent) :=
  ⟨w.cls.min x.cls, rfl, WriteClass.min_eq_urgent_iff _ _⟩

/-- Settles O34: a no-answer is counted on its device's row, and the third in a row fails the device, by its chamber's step, its
fault or its flag alone. -/
theorem noAnswersCounted : Obligations.NoAnswersCounted := by
  intro s d op n i rows flying
  have taken : exec i s = .next (finishBus (noAnswer ⟨d, op, n, false⟩ s)) := by
    simp only [List.mem_cons, List.not_mem_nil, or_false] at rows
    rcases rows with rfl | rfl <;> exact congrArg _ (endUnanswered_counts flying)
  obtain ⟨noAnswers, reading⟩ := noAnswer_device_counts (s := s) (d := d) op n
  refine ⟨_, taken, (noAnswer_eventFrame _ s).trans (finishBus_eventFrame _), noAnswers, fun e ne => ?_, reading,
    fun below => ?_, fun third => ?_⟩
  · rw [noAnswer_device_ne op n ne]
    exact ⟨rfl, rfl, rfl, rfl, rfl⟩
  · rw [noAnswer_device_below op n below, noAnswer_below op n below]
    refine ⟨?_, rfl, rfl, ?_, ?_, ?_, rfl, rfl, rfl, rfl, rfl⟩
    · show min 3 ((s.device d).consecutive + 1) = _
      omega
    · rintro rfl
      rfl
    · rintro w rfl empty
      show some (returnedWrite w (s.device d).pending) = _
      rw [empty]
      rfl
    · rintro w x rfl waits
      obtain ⟨k, returned, cls⟩ := returnedWrite_some w x
      refine ⟨k, ?_, cls⟩
      show some (returnedWrite w (s.device d).pending) = _
      rw [waits, returned]
  · rw [noAnswer_device_third op n third, noAnswer_third op n third]
    refine ⟨rfl, ?_, rfl, rfl, failDevice_hasFlag (s := s.setDevice d _), ?_, fun v => failDevice_vol_ne _, ?_,
      failDevice_takesFault (s := s.setDevice d _), failDevice_flagsOnly (s := s.setDevice d _),
      failDevice_posts (s := s.setDevice d _)⟩
    · show min 3 ((s.device d).consecutive + 1) = 3
      omega
    · rintro c k rfl
      obtain ⟨row, gen⟩ := failDevice_released c k (s.setDevice (.mfc c k) ((s.device (.mfc c k)).noAnswered op))
      rw [gen]
      exact ⟨row, rfl, rfl⟩
    · rintro c k r rfl running current queued listed
      exact failDevice_failsStep running current ((waitsFor_iff c k _).2 ⟨queued, r, current, listed⟩)

end Sys2Proof.Machine
end

section
/-! Proof of the statement about CLEAR DEVICE: its checks, the device's row, and what the arbiter takes (R124, R128, R129). -/

namespace Sys2Proof.Machine

open Sys2Proof

/-! ## The checks (R128) -/

theorem safeValue_eq (c : Chamber) (k : Chan) : safeValue (.mfc c k) = .flow 0 ∧ safeValue (.throttle c) = .opened := ⟨rfl, rfl⟩

theorem exec_clearDevice_eq (l : Link) (tag : Byte) (a : Nat) (s : State) : exec (.clearDevice l tag a) s
    = .next (answered l tag (.clearDevice a) (onClearDevice l a (hear l s)).2 (onClearDevice l a (hear l s)).1) := rfl

theorem exec_clearDevice {l : Link} {a : Nat} {s t : State} {x : Answer} (tag : Byte)
    (h : onClearDevice l a (hear l s) = (t, x)) :
    exec (.clearDevice l tag a) s = .next (answered l tag (.clearDevice a) x t) := by
  rw [exec_clearDevice_eq, h]

section Checks
variable {l : Link} {a : Nat} {d : Device} {s : State}

theorem onClearDevice_range (h : a = 0 ∨ 28 < a) : onClearDevice l a s = (s, refuse .range) := by
  have none : Device.ofAddr a = none := Option.eq_none_iff_forall_ne_some.2 fun d named => by
    have address := (Device.ofAddr_eq_some_iff a d).1 named
    have range : 1 ≤ d.addr ∧ d.addr ≤ 28 := by
      rcases d with ⟨c, k⟩ | c
      · cases c <;> cases k <;> decide
      · cases c <;> decide
    omega
  rw [onClearDevice, none]

variable (named : Device.ofAddr a = some d)
include named

theorem onClearDevice_notFitted (unfitted : s.fitted (.ch d.chamber) = false) :
    onClearDevice l a s = (s, refuse .notFitted) := by
  simp [onClearDevice, named, unfitted]

theorem onClearDevice_owner (fitted : s.fitted (.ch d.chamber) = true) (other : l ≠ .cc d.chamber) :
    onClearDevice l a s = (s, refuse .owner) := by
  simp [onClearDevice, named, fitted, Ne.symm other]

theorem onClearDevice_ok (fitted : s.fitted (.ch d.chamber) = true) (own : l = .cc d.chamber) :
    onClearDevice l a s = (clearDevice d s, ok) := by
  simp [onClearDevice, named, fitted, own]

end Checks

/-! ## The device cleared (R124, R128) -/

/-- The row of a device cleared, before any post to it. -/
def DeviceRow.cleared (y : DeviceRow) : DeviceRow := { y with failed := false, consecutive := 0, written := none }

/-- The state that the arbiter finds at CLEAR DEVICE: the device OK, and posted its safe value where it was FAILED. -/
def cleared (d : Device) (s : State) : State :=
  if (s.device d).failed then placeWrite d (safeValue d) .urgent (s.setDevice d (s.device d).cleared)
  else s.setDevice d (s.device d).cleared

theorem clearDevice_eq (d : Device) (s : State) : clearDevice d s = arbitrate (cleared d s) := by
  unfold clearDevice cleared
  dsimp only
  split <;> rfl

theorem cleared_placesOnly (d : Device) (s : State) : PlacesOnly (s.setDevice d (s.device d).cleared) (cleared d s) := by
  unfold cleared
  split
  · exact placeWrite_placesOnly _ _ _ _
  · exact .refl _

theorem cleared_dbc (d : Device) (s : State) : ∃ b, cleared d s = { s with dbc := b } := by
  unfold cleared
  split
  · exact placeWrite_dbc d _ _ (s.setDevice d (s.device d).cleared)
  · exact ⟨_, rfl⟩

theorem cleared_inFlight (d : Device) (s : State) : (cleared d s).dbc.inFlight = s.dbc.inFlight := by
  unfold cleared
  split
  · exact placeWrite_inFlight d _ _ _
  · rfl

/-- CLEAR DEVICE posts to its own device alone, and only where it was FAILED. -/
theorem cleared_pending {d e : Device} {s : State} (unposted : e ≠ d ∨ (s.device d).failed = false) :
    ((cleared d s).device e).pending = (s.device e).pending := by
  have set : ((s.setDevice d (s.device d).cleared).device e).pending = (s.device e).pending := by
    by_cases same : e = d
    · subst same
      rw [State.device_setDevice_self]
      rfl
    · rw [State.device_setDevice_ne s d e _ same]
  unfold cleared
  split
  next failed =>
    have ne : e ≠ d := unposted.resolve_right (by simp [failed])
    rw [placeWrite_device_ne d e _ _ _ ne]
    exact set
  · exact set

/-- The arbiter leaves an entry in its place, or takes it into flight on a free bus (R122). -/
theorem arbitrate_takes {s : State} {d : Device} {w : PendingWrite} (waits : (s.device d).pending = some w) :
    ((arbitrate s).device d).pending = some w
      ∨ (s.dbc.inFlight = none ∧ (arbitrate s).dbc.inFlight = some ⟨d, .set w, 0, false⟩
        ∧ ((arbitrate s).device d).pending = none) := by
  rcases arbitrate_cases s with e | ⟨f, x, free, urgent, -, e⟩ | ⟨n, f, -, -, -, e⟩ <;> rw [e]
  · exact .inl waits
  · by_cases same : d = f
    · subst same
      obtain rfl : w = x := Option.some.inj (waits.symm.trans (mostUrgent_pending urgent))
      exact .inr ⟨free, rfl, by rw [startWrite_device_self]⟩
    · exact .inl (by rw [startWrite_device_ne x s same, waits])
  · exact .inl waits

theorem arbitrate_empty {s : State} {d : Device} (empty : (s.device d).pending = none) :
    ((arbitrate s).device d).pending = none := by
  rcases arbitrate_pending s d with none | same
  · exact none
  · exact same.trans empty

theorem clearDevice_devicesStand (d : Device) (s : State) :
    DevicesStand (s.setDevice d (s.device d).cleared) (clearDevice d s) := by
  rw [clearDevice_eq]
  exact (cleared_placesOnly d s).devicesStand.trans (arbitrate_device _)

theorem clearDevice_postStands {d : Device} {s : State} (failed : (s.device d).failed = true) :
    PostStands d (safeValue d) .urgent (clearDevice d s) := by
  rw [clearDevice_eq, cleared, if_pos failed]
  exact postWrite_postStands _ _ (congrArg DeviceRow.failed (s.device_setDevice_self d _))

theorem clearDevice_takes {d e : Device} {s : State} {w : PendingWrite} (unposted : e ≠ d ∨ (s.device d).failed = false)
    (waits : (s.device e).pending = some w) : ((clearDevice d s).device e).pending = some w
      ∨ (s.dbc.inFlight = none ∧ (clearDevice d s).dbc.inFlight = some ⟨e, .set w, 0, false⟩
        ∧ ((clearDevice d s).device e).pending = none) := by
  rw [clearDevice_eq, ← cleared_inFlight d s]
  exact arbitrate_takes ((cleared_pending unposted).trans waits)

theorem clearDevice_empty {d e : Device} {s : State} (unposted : e ≠ d ∨ (s.device d).failed = false)
    (empty : (s.device e).pending = none) : ((clearDevice d s).device e).pending = none := by
  rw [clearDevice_eq]
  exact arbitrate_empty ((cleared_pending unposted).trans empty)

theorem clearDevice_dbc (d : Device) (s : State) : ∃ b, clearDevice d s = { s with dbc := b } := by
  obtain ⟨b, h⟩ := cleared_dbc d s
  obtain ⟨b', h'⟩ := arbitrate_dbc (cleared d s)
  exact ⟨b', by rw [clearDevice_eq, h', h]⟩

/-- Settles O55, by the checks in their order, the row of the device, and what the arbiter takes. -/
theorem clearDeviceCourse : Obligations.ClearDeviceCourse := by
  refine ⟨fun c k => ⟨rfl, rfl, safeValue_eq c k⟩, Device.ofAddr_eq_some_iff, fun l tag a s =>
    ⟨fun outside => exec_clearDevice tag (onClearDevice_range outside), fun d named =>
      ⟨fun unfitted => exec_clearDevice tag (onClearDevice_notFitted named unfitted),
        fun fitted other => exec_clearDevice tag (onClearDevice_owner named fitted other), fun fitted own => ?_⟩⟩⟩
  have self := clearDevice_devicesStand d (hear l s) d
  rw [State.device_setDevice_self] at self
  refine ⟨_, exec_clearDevice tag (onClearDevice_ok named fitted own), ?_, ?_, ?_, ?_, ?_,
    clearDevice_postStands (s := hear l s), ?_,
    fun e w unposted waits => ?_, fun e unposted empty => ?_, fun e ne => ?_, ?_⟩
  iterate 5
    · rw [self]
      rfl
  · rintro x rfl
    exact exec_transactionStart (clearDevice_eq d (hear l s)).symm
  · exact clearDevice_takes (s := hear l s) unposted waits
  · exact clearDevice_empty (s := hear l s) unposted empty
  · have other := clearDevice_devicesStand d (hear l s) e
    rwa [State.device_setDevice_ne _ d e _ ne] at other
  · obtain ⟨b, h⟩ := clearDevice_dbc d (hear l s)
    rw [h]

end Sys2Proof.Machine
end

section
/-! Proof of the statement about CLOSE CONFIGURATION: its checks, the closing posts with what the arbiter makes of them, and the
closing actions (R9, R13, R129, R131, R161, R172). -/

namespace Sys2Proof.Machine

open Sys2Proof

/-! ## The checks (R172) -/

theorem gaugeSpans_iff (t : Items) : (Gauge.all.any fun g => decide (t.hi.get g ≤ t.lo.get g)) = true ↔
    ∃ g, t.hi.get g ≤ t.lo.get g := by
  simp only [List.any_eq_true, decide_eq_true_eq]
  exact ⟨fun ⟨g, _, h⟩ => ⟨g, h⟩, fun ⟨g, h⟩ => ⟨g, Gauge.mem_all g, h⟩⟩

theorem smallScales_iff (t : Items) :
    (channels.any fun p => decide (0 < t.sourceMap.getK p.1 p.2) && decide (t.fullScale.getK p.1 p.2 < 100)) = true ↔
      ∃ c k, 0 < t.sourceMap.getK c k ∧ t.fullScale.getK c k < 100 := by
  simp only [List.any_eq_true, Bool.and_eq_true, decide_eq_true_eq]
  exact ⟨fun ⟨p, _, h⟩ => ⟨p.1, p.2, h⟩, fun ⟨c, k, h⟩ => ⟨(c, k), mem_channels c k, h⟩⟩

section Fault
variable {t : Items}

theorem closeFault_capacity (h : 96 < t.capacitySum) : closeFault t = some 7 := if_pos h

variable (capacity : t.capacitySum ≤ 96)
include capacity

theorem closeFault_header (h : t.holdThreshold ≤ t.releaseThreshold) : closeFault t = some 20 := by
  rw [closeFault, if_neg (Int.not_lt.2 capacity), if_pos h]

variable (header : t.releaseThreshold < t.holdThreshold)
include header

theorem closeFault_span (h : ∃ g, t.hi.get g ≤ t.lo.get g) : closeFault t = some 2 := by
  rw [closeFault, if_neg (Int.not_lt.2 capacity), if_neg (Int.not_le.2 header), if_pos ((gaugeSpans_iff t).2 h)]

variable (spans : ∀ g, t.lo.get g < t.hi.get g)
include spans

/-- Past the first three checks the last three decide. -/
theorem closeFault_lastChecks : closeFault t = if t.scanLength < 1 then some 23
    else if channels.any fun p => 0 < t.sourceMap.getK p.1 p.2 && t.fullScale.getK p.1 p.2 < 100 then some 21
    else if t.heavyLimit < -400 || 600 < t.heavyLimit then some 11
    else none := by
  have rising : ¬(Gauge.all.any fun g => decide (t.hi.get g ≤ t.lo.get g)) = true := fun h => by
    obtain ⟨g, falls⟩ := (gaugeSpans_iff t).1 h
    exact absurd (spans g) (Int.not_lt.2 falls)
  rw [closeFault, if_neg (Int.not_lt.2 capacity), if_neg (Int.not_le.2 header), if_neg rising]

theorem closeFault_scan (h : t.scanLength < 1) : closeFault t = some 23 := by
  rw [closeFault_lastChecks capacity header spans, if_pos h]

variable (scan : 1 ≤ t.scanLength)
include scan

theorem closeFault_scale (h : ∃ c k, 0 < t.sourceMap.getK c k ∧ t.fullScale.getK c k < 100) : closeFault t = some 21 := by
  rw [closeFault_lastChecks capacity header spans, if_neg (Int.not_lt.2 scan), if_pos ((smallScales_iff t).2 h)]

variable (scales : ∀ c k, 0 < t.sourceMap.getK c k → 100 ≤ t.fullScale.getK c k)
include scales

theorem closeFault_lastCheck : closeFault t = if t.heavyLimit < -400 || 600 < t.heavyLimit then some 11 else none := by
  have large : ¬(channels.any fun p => decide (0 < t.sourceMap.getK p.1 p.2) && decide (t.fullScale.getK p.1 p.2 < 100))
      = true := fun h => by
    obtain ⟨c, k, mapped, small⟩ := (smallScales_iff t).1 h
    exact absurd small (Int.not_lt.2 (scales c k mapped))
  rw [closeFault_lastChecks capacity header spans, if_neg (Int.not_lt.2 scan), if_neg large]

theorem closeFault_heavy (h : t.heavyLimit < -400 ∨ 600 < t.heavyLimit) : closeFault t = some 11 := by
  rw [closeFault_lastCheck capacity header spans scan scales, if_pos (by simpa using h)]

end Fault

theorem closeFault_eq_none_iff (t : Items) : closeFault t = none ↔ t.capacitySum ≤ 96 ∧ t.releaseThreshold < t.holdThreshold
    ∧ (∀ g, t.lo.get g < t.hi.get g) ∧ 1 ≤ t.scanLength
    ∧ (∀ c k, 0 < t.sourceMap.getK c k → 100 ≤ t.fullScale.getK c k) ∧ -400 ≤ t.heavyLimit ∧ t.heavyLimit ≤ 600 := by
  constructor
  · intro passes
    have capacity : t.capacitySum ≤ 96 := Int.not_lt.1 fun h => nomatch passes.symm.trans (closeFault_capacity h)
    have header : t.releaseThreshold < t.holdThreshold :=
      Int.not_le.1 fun h => nomatch passes.symm.trans (closeFault_header capacity h)
    have spans : ∀ g, t.lo.get g < t.hi.get g := fun g =>
      Int.not_le.1 fun h => nomatch passes.symm.trans (closeFault_span capacity header ⟨g, h⟩)
    have scan : 1 ≤ t.scanLength := Int.not_lt.1 fun h => nomatch passes.symm.trans (closeFault_scan capacity header spans h)
    have scales : ∀ c k, 0 < t.sourceMap.getK c k → 100 ≤ t.fullScale.getK c k := fun c k mapped =>
      Int.not_lt.1 fun h => nomatch passes.symm.trans (closeFault_scale capacity header spans scan ⟨c, k, mapped, h⟩)
    have heavy : ¬(t.heavyLimit < -400 ∨ 600 < t.heavyLimit) := fun h =>
      nomatch passes.symm.trans (closeFault_heavy capacity header spans scan scales h)
    exact ⟨capacity, header, spans, scan, scales, Int.not_lt.1 fun h => heavy (.inl h), Int.not_lt.1 fun h => heavy (.inr h)⟩
  · rintro ⟨capacity, header, spans, scan, scales, low, high⟩
    rw [closeFault_lastCheck capacity header spans scan scales,
      if_neg (by simp [low, high])]

/-! ## The closing posts (R131) -/

/-- A device that gets a closing post while it is OK: a throttle controller, or the MFC of a mapped channel. -/
def Mapped (d : Device) (s : State) : Prop := ∀ c k, d = .mfc c k → s.source c k ≠ 0

/-- One device's turn among the closing posts. -/
def closingTurn (s : State) (d : Device) : State :=
  match d with
  | .mfc c k => closingPost s (c, k)
  | .throttle c => postWrite (.throttle c) .opened .urgent s

theorem closingPosts_eq (s : State) : closingPosts s = Device.all.foldl closingTurn s := by
  rw [Device.all, List.foldl_append, List.foldl_map, List.foldl_map]
  rfl

theorem closingTurn_cases (d : Device) (s : State) :
    (Mapped d s ∧ closingTurn s d = postWrite d (safeValue d) .urgent s) ∨ (¬Mapped d s ∧ closingTurn s d = s) := by
  cases d with
  | mfc c k =>
    by_cases unmapped : s.source c k = 0
    · exact .inr ⟨fun mapped => mapped c k rfl unmapped, if_pos unmapped⟩
    · refine .inl ⟨fun d j same => ?_, if_neg unmapped⟩
      obtain ⟨rfl, rfl⟩ := Device.mfc.inj same
      exact unmapped
  | throttle c => exact .inl ⟨nofun, rfl⟩

/-- A write that is a closing post to a device, from the state before the posts. -/
def ClosingValue (s : State) (d : Device) (w : PendingWrite) : Prop :=
  (s.device d).failed = false ∧ Mapped d s ∧ w.value = safeValue d ∧ w.cls = .urgent

/-- What the bus does from `s` to `t` while posts are made: nothing; or, on a free bus, one write starts that was pending or is
a closing post, or one poll. -/
inductive BusCourse (s t : State) : Prop where
  | still (flight : t.dbc.inFlight = s.dbc.inFlight) (pos : t.dbc.scanPos = s.dbc.scanPos)
      (writes : t.dbc.writes = s.dbc.writes)
  | wrote (free : s.dbc.inFlight = none) (d : Device) (w : PendingWrite)
      (flight : t.dbc.inFlight = some ⟨d, .set w, 0, false⟩) (pos : t.dbc.scanPos = s.dbc.scanPos)
      (writes : t.dbc.writes = min 8 (s.dbc.writes + 1)) (origin : (s.device d).pending = some w ∨ ClosingValue s d w)
  | polled (free : s.dbc.inFlight = none) (n : Nat) (e : Device) (next : nextPoll s = some (n, e))
      (flight : t.dbc.inFlight = some ⟨e, .read, 0, false⟩) (writes : t.dbc.writes = 0)
      (pos : t.dbc.scanPos = if n < s.scanList.length then n + 1 else 1)

theorem BusCourse.congr {s t t' : State} (h : BusCourse s t) (flight : t'.dbc.inFlight = t.dbc.inFlight)
    (pos : t'.dbc.scanPos = t.dbc.scanPos) (writes : t'.dbc.writes = t.dbc.writes) : BusCourse s t' := by
  cases h with
  | still f p w => exact .still (flight.trans f) (pos.trans p) (writes.trans w)
  | wrote free d x f p w origin => exact .wrote free d x (flight.trans f) (pos.trans p) (writes.trans w) origin
  | polled free n e next f w p => exact .polled free n e next (flight.trans f) (writes.trans w) (pos.trans p)

/-- On a free bus nothing has happened yet. -/
theorem BusCourse.still_of_free {s t : State} (h : BusCourse s t) (free : t.dbc.inFlight = none) :
    s.dbc.inFlight = none ∧ t.dbc.scanPos = s.dbc.scanPos ∧ t.dbc.writes = s.dbc.writes := by
  cases h with
  | still flight pos writes => exact ⟨flight.symm.trans free, pos, writes⟩
  | wrote _ d x flight => exact nomatch free.symm.trans flight
  | polled _ n e _ flight => exact nomatch free.symm.trans flight

/-- The place of a device that gets no closing post: as it was, or its entry just started on the free bus. -/
def PlaceKept (d : Device) (s t : State) : Prop :=
  (t.device d).pending = (s.device d).pending
    ∨ ((t.device d).pending = none ∧ s.dbc.inFlight = none
      ∧ ∃ w, (s.device d).pending = some w ∧ t.dbc.inFlight = some ⟨d, .set w, 0, false⟩)

/-- From `s` some of the closing posts have been made, each asking the arbiter, and have led to `t`. -/
structure Closing (s t : State) : Prop where
  dbc : ∃ b, t = { s with dbc := b }
  devices : DevicesStand s t
  bus : BusCourse s t
  waits : ∀ d w, (t.device d).pending = some w → (s.device d).pending = some w ∨ ClosingValue s d w
  kept : ∀ d, (s.device d).failed = true ∨ ¬Mapped d s → PlaceKept d s t

theorem Closing.refl (s : State) : Closing s s :=
  ⟨⟨s.dbc, rfl⟩, .refl s, .still rfl rfl rfl, fun _ _ => .inl, fun _ _ => .inl rfl⟩

section Course
variable {s t : State} (h : Closing s t)
include h

theorem Closing.failed (d : Device) : (t.device d).failed = (s.device d).failed := by rw [h.devices d]

theorem Closing.mapped_iff (d : Device) : Mapped d t ↔ Mapped d s := by
  obtain ⟨b, rfl⟩ := h.dbc
  exact Iff.rfl

theorem Closing.nextPoll (pos : t.dbc.scanPos = s.dbc.scanPos) : nextPoll t = nextPoll s := by
  have failed := h.failed
  obtain ⟨b, rfl⟩ := h.dbc
  have order : scanOrder { s with dbc := b } = scanOrder s := by
    rw [scanOrder_eq, scanOrder_eq, pos]
    rfl
  unfold Machine.nextPoll
  simp only [order, failed]

theorem Closing.place {d : Device} (mapped : Mapped d s) : Closing s (placeWrite d (safeValue d) .urgent t) := by
  have other := fun e ne => placeWrite_device_ne d e (safeValue d) .urgent t ne
  have places := (placeWrite_placesOnly d (safeValue d) .urgent t).devicesStand
  have flight := placeWrite_inFlight d (safeValue d) .urgent t
  rcases placeWrite_cases d (safeValue d) .urgent t with ⟨-, e⟩ | ⟨ok, w, value, fresh, joined, n, e⟩
  · rwa [e]
  have own : ((placeWrite d (safeValue d) .urgent t).device d).pending = some w := by
    rw [e]
    exact congrArg DeviceRow.pending (t.device_setDevice_self d _)
  have urgent : w.cls = .urgent := by
    cases hy : (t.device d).pending with
    | none => rw [fresh hy]
    | some y => rw [joined y hy]; exact (WriteClass.min_eq_urgent_iff _ _).2 (.inr rfl)
  have ok' : (s.device d).failed = false := (h.failed d).symm.trans ok
  refine ⟨?_, h.devices.trans places, h.bus.congr flight (by rw [e]; rfl) (by rw [e]; rfl), fun f x waits => ?_,
    fun f unposted => ?_⟩
  · obtain ⟨b, rfl⟩ := h.dbc
    exact placeWrite_dbc d _ _ _
  · by_cases same : f = d
    · subst same
      obtain rfl : w = x := Option.some.inj (own.symm.trans waits)
      exact .inr ⟨ok', mapped, value, urgent⟩
    · exact h.waits f x (by rwa [other f same] at waits)
  · have ne : f ≠ d := by
      rintro rfl
      rcases unposted with failed | unmapped
      · exact absurd (failed.symm.trans ok') nofun
      · exact unmapped mapped
    unfold PlaceKept
    rw [other f ne, flight]
    exact h.kept f unposted

theorem Closing.arbitrate : Closing s (arbitrate t) := by
  have places := (arbitrate_placesOnly t).devicesStand
  rcases arbitrate_cases t with e | ⟨d, w, free, urgent, -, e⟩ | ⟨n, d, free, poll, -, e⟩
  · rwa [e]
  · obtain ⟨idle, pos, writes⟩ := h.bus.still_of_free free
    have waiting := mostUrgent_pending urgent
    rw [e] at places ⊢
    refine ⟨?_, h.devices.trans places, .wrote idle d w rfl pos ?_ (h.waits d w waiting), fun f x waits => ?_,
      fun f unposted => ?_⟩
    · obtain ⟨b, rfl⟩ := h.dbc
      exact ⟨_, rfl⟩
    · rw [startWrite_writes, writes]
    · by_cases same : f = d
      · subst same
        rw [startWrite_device_self] at waits
        cases waits
      · exact h.waits f x (by rwa [startWrite_device_ne w t same] at waits)
    · rcases h.kept f unposted with kept | ⟨-, -, x, -, flight⟩
      · by_cases same : f = d
        · subst same
          exact .inr ⟨by rw [startWrite_device_self], idle, w, kept.symm.trans waiting, rfl⟩
        · exact .inl (by rw [startWrite_device_ne w t same, kept])
      · exact absurd (free.symm.trans flight) nofun
  · obtain ⟨idle, pos, writes⟩ := h.bus.still_of_free free
    rw [e] at places ⊢
    have list : t.scanList = s.scanList := by
      obtain ⟨b, rfl⟩ := h.dbc
      rfl
    refine ⟨?_, h.devices.trans places,
      .polled idle n d ((h.nextPoll pos).symm.trans poll) rfl rfl ?_, h.waits, fun f unposted => ?_⟩
    · obtain ⟨b, rfl⟩ := h.dbc
      exact ⟨_, rfl⟩
    · rw [← list]
      rfl
    · rcases h.kept f unposted with kept | ⟨-, -, x, -, flight⟩
      · exact .inl kept
      · exact absurd (free.symm.trans flight) nofun

theorem Closing.turn (d : Device) : Closing s (closingTurn t d) := by
  rcases closingTurn_cases d t with ⟨mapped, e⟩ | ⟨-, e⟩ <;> rw [e]
  · exact (h.place ((h.mapped_iff d).1 mapped)).arbitrate
  · exact h

end Course

theorem closingPosts_closing (s : State) : Closing s (closingPosts s) := by
  rw [closingPosts_eq]
  exact List.foldlRecOn (motive := Closing s) Device.all closingTurn (.refl s) fun _ h d _ => h.turn d

theorem PostStands.arbitrate {d : Device} {x : BusValue} {k : WriteClass} {s : State} (h : PostStands d x k s) :
    PostStands d x k (arbitrate s) := by
  obtain ⟨w, value, cls, stands⟩ := h
  exact ⟨w, value, cls, arbitrate_stands stands⟩

/-- Every OK device of a mapped channel and every OK throttle controller has its closing post standing. -/
theorem closingPosts_stand {s : State} {d : Device} (ok : (s.device d).failed = false) (mapped : Mapped d s) :
    PostStands d (safeValue d) .urgent (closingPosts s) := by
  rw [closingPosts_eq]
  refine foldl_turn (P := Closing s) (Q := PostStands d (safeValue d) .urgent) (fun t e _ h => h.turn e) (fun t h => ?_)
    (fun t e ne stands => ?_) Device.all nodup_devices (Device.mem_all d) s (.refl s)
  · rcases closingTurn_cases d t with ⟨-, e⟩ | ⟨unmapped, -⟩
    · rw [e]
      exact postWrite_postStands _ _ ((h.failed d).trans ok)
    · exact absurd ((h.mapped_iff d).2 mapped) unmapped
  · rcases closingTurn_cases e t with ⟨-, e'⟩ | ⟨-, e'⟩ <;> rw [e']
    · exact stands.postWrite ne.symm
    · exact stands

/-! ## The closing actions (R9, R13, R161, R172) -/

theorem nodup_gauges : Gauge.all.Nodup := by decide

/-- A gauge channel at the close: its range flags taken as clear and its comparator INACTIVE. -/
def GaugeChannel.blanked (x : GaugeChannel) : GaugeChannel := { x with prevUnder := false, prevOver := false, asserted := false }

/-- The state on which the closing posts are made. -/
def closingStart (s : State) : State :=
  { s with
    pec := { s.pec with
      gauges := Gauge.all.foldl (fun p g => p.set g (p.get g).blanked) s.pec.gauges
      blanking := some 0 }
    dbc := { s.dbc with scanPos := 1, writes := 0 } }

/-- The state after the closing posts and the arbiter's choice. -/
def closingPosted (s : State) : State := arbitrate (closingPosts (closingStart s))

theorem closingActions_eq (s : State) : closingActions s = mapPorts Port.startSilence (closingPosted s) := rfl

theorem closingStart_gauge (s : State) (g : Gauge) : (closingStart s).gauge g = (s.gauge g).blanked :=
  foldl_turn (f := fun (p : Per9 GaugeChannel) g => p.set g (p.get g).blanked) (P := fun p => p.get g = s.gauge g)
    (Q := fun p => p.get g = (s.gauge g).blanked) (fun p h ne kept => (Per9.get_set_ne p h g _ ne.symm).trans kept)
    (fun p kept => (Per9.get_set_self p g _).trans (congrArg GaugeChannel.blanked kept))
    (fun p h ne kept => (Per9.get_set_ne p h g _ ne.symm).trans kept) Gauge.all nodup_gauges (Gauge.mem_all g) s.pec.gauges rfl

theorem mapPorts_frame (f : Port → Port) (s : State) : ∃ ports, mapPorts f s = { s with ports := ports } :=
  List.foldlRecOn (motive := fun t : State => ∃ ports, t = { s with ports := ports }) Link.all _ ⟨s.ports, rfl⟩ fun t h l _ => by
    obtain ⟨ports, rfl⟩ := h
    exact ⟨_, rfl⟩

theorem mapPorts_port (f : Port → Port) (s : State) (m : Link) : (mapPorts f s).port m = f (s.port m) :=
  foldl_reading_of_mem (get := State.port) (P := fun _ => True) (upd := fun _ => f) (fun _ _ _ => trivial)
    (fun t l _ => t.port_modPort_self l f) (fun t l m ne => t.port_modPort_ne l m f ne) Link.all nodup_links s trivial m
    (Link.mem_all m)

theorem closingPosted_closing (s : State) : Closing (closingStart s) (closingPosted s) :=
  (closingPosts_closing (closingStart s)).arbitrate

theorem closingPosted_stands {s : State} {d : Device} (ok : (s.device d).failed = false) (mapped : Mapped d s) :
    PostStands d (safeValue d) .urgent (closingPosted s) :=
  (closingPosts_stand (s := closingStart s) ok mapped).arbitrate

/-- What the closing actions change beside the bus and the ports: the gauge channels and the blanking. -/
theorem closingActions_frame (s : State) :
    ∃ ports, closingActions s = { closingStart s with dbc := (closingPosted s).dbc, ports := ports } := by
  obtain ⟨b, e⟩ := (closingPosted_closing s).dbc
  obtain ⟨ports, e'⟩ := mapPorts_frame Port.startSilence (closingPosted s)
  exact ⟨ports, by rw [closingActions_eq, e', e]⟩

theorem closingActions_port (s : State) (m : Link) : (closingActions s).port m = (s.port m).startSilence := by
  obtain ⟨b, e⟩ := (closingPosted_closing s).dbc
  rw [closingActions_eq, mapPorts_port, e]
  rfl

theorem startSilence_up {p : Port} (up : p.lost = false) : p.startSilence.silence = some 0 := by simp [Port.startSilence, up]

theorem startSilence_lost {p : Port} (lost : p.lost = true) : p.startSilence = p := if_pos lost

/-! ## The request (R172) -/

theorem exec_closeConfiguration {l : Link} {s t : State} {x : Answer} (tag : Byte)
    (h : onCloseConfiguration (hear l s) = (t, x)) :
    exec (.closeConfiguration l tag) s = .next (answered l tag .closeConfiguration x t) :=
  congrArg (fun p : State × Answer => Host.Outcome.next (answered l tag .closeConfiguration p.2 p.1)) h

section Answers
variable {s : State}

theorem onCloseConfiguration_state (serving : s.cfg.serving = true) : onCloseConfiguration s = (s, refuse .state) :=
  if_pos serving

variable (configuring : s.cfg.serving = false)
include configuring

theorem onCloseConfiguration_range {n : Nat} (fault : closeFault s.items = some n) :
    onCloseConfiguration s = (s, ⟨.refused, some .range, enc2 n⟩) := by
  simp [onCloseConfiguration, configuring, fault]

theorem onCloseConfiguration_ok (passes : closeFault s.items = none) :
    onCloseConfiguration s = (closingActions (enterServing s), ok) := by
  simp [onCloseConfiguration, configuring, passes]

end Answers

section Accepted
variable (s : State)

/-- The state at the close as the owning block leaves it (R172). -/
def closed : State := closingActions (enterServing s)

theorem closed_frame : ∃ ports, closed s = { closingStart (enterServing s) with
    dbc := (closingPosted (enterServing s)).dbc, ports := ports } := closingActions_frame (enterServing s)

theorem closed_dbc : (closed s).dbc = (closingPosted (enterServing s)).dbc := by
  obtain ⟨ports, e⟩ := closed_frame s
  rw [e]

theorem closed_gauge (g : Gauge) : (closed s).gauge g = (s.gauge g).blanked := by
  obtain ⟨ports, e⟩ := closed_frame s
  have pec : (closed s).pec = (closingStart (enterServing s)).pec := by rw [e]
  exact (congrArg (fun x : Pec => x.gauges.get g) pec).trans (closingStart_gauge (enterServing s) g)

theorem closed_device_eq (d : Device) : (closed s).device d = (closingPosted (enterServing s)).device d :=
  congrArg (fun b : Dbc => b.devices.get d) (closed_dbc s)

theorem closed_device (d : Device) : (closed s).device d = { s.device d with pending := ((closed s).device d).pending } := by
  rw [closed_device_eq]
  exact (closingPosted_closing (enterServing s)).devices d

/-- A closing post stands in its device's place or in flight on every OK device that gets one. -/
theorem closed_stands {d : Device} (ok : (s.device d).failed = false) (mapped : Mapped d s) :
    ∃ w, w.value = safeValue d ∧ w.cls = .urgent ∧ (((closed s).device d).pending = some w
      ∨ (closed s).dbc.inFlight = some ⟨d, .set w, 0, false⟩) := by
  obtain ⟨w, value, urgent, stands⟩ := closingPosted_stands (s := enterServing s) ok mapped
  rw [closed_device_eq, closed_dbc]
  exact ⟨w, value, urgent rfl, stands⟩

theorem closed_placeKept {d : Device} (unposted : (s.device d).failed = true ∨ ∃ c k, d = .mfc c k ∧ s.source c k = 0) :
    PlaceKept d s (closed s) := by
  unfold PlaceKept
  rw [closed_device_eq, closed_dbc]
  exact (closingPosted_closing (enterServing s)).kept d
    (unposted.imp_right fun ⟨c, k, mfc, unmapped⟩ mapped => mapped c k mfc unmapped)

/-- The course of the bus over the closing posts, with the scan position at 1 and no write counted before them. -/
theorem closed_bus : BusCourse (closingStart (enterServing s)) (closed s) := by
  have bus := (closingPosted_closing (enterServing s)).bus
  have dbc := closed_dbc s
  exact bus.congr (congrArg Dbc.inFlight dbc) (congrArg Dbc.scanPos dbc) (congrArg Dbc.writes dbc)

end Accepted

/-- Settles O57: the checks in their order, and at the close the closing posts with the arbiter's one choice on a free bus. -/
theorem closeConfigurationCourse : Obligations.CloseConfigurationCourse := by
  refine ⟨fun l tag s => ⟨fun serving => exec_closeConfiguration tag (onCloseConfiguration_state (s := hear l s) serving),
    fun n configuring fault => exec_closeConfiguration tag (onCloseConfiguration_range (s := hear l s) configuring fault),
    fun configuring passes => ⟨closed (hear l s),
      exec_closeConfiguration tag (onCloseConfiguration_ok (s := hear l s) configuring passes), ?_⟩⟩, safeValue_eq, fun t =>
    ⟨closeFault_capacity, closeFault_header, closeFault_span, fun capacity header spans =>
      ⟨closeFault_scan capacity header spans, fun scan => ⟨closeFault_scale capacity header spans scan,
        closeFault_heavy capacity header spans scan⟩⟩, closeFault_eq_none_iff t⟩⟩
  have port := closingActions_port (enterServing (hear l s))
  have gauge : ∀ g, (closed (hear l s)).gauge g = (s.gauge g).blanked := closed_gauge (hear l s)
  have bus := closed_bus (hear l s)
  obtain ⟨ports, closes⟩ := closed_frame (hear l s)
  have cfg : (closed (hear l s)).cfg = ⟨true, s.cfg.items⟩ := by rw [closes]; rfl
  refine ⟨cfg, by rw [closes]; rfl, fun g => by rw [gauge]; exact ⟨rfl, rfl, rfl, rfl⟩,
    fun m up => (congrArg Port.silence (port m)).trans (startSilence_up up),
    fun m lost => (port m).trans (startSilence_lost lost), fun v => by rw [closes]; rfl, by rw [closes]; rfl,
    by rw [closes]; rfl, by rw [closes]; rfl, by rw [closes]; rfl, by rw [closes]; rfl, by rw [closes]; rfl,
    fun busy => ?_, fun free => ?_, fun d ok mapped => closed_stands (hear l s) ok mapped,
    fun d unposted => closed_placeKept (hear l s) unposted, closed_device (hear l s)⟩
  · cases bus with
    | still flight pos writes => exact ⟨pos, writes, flight⟩
    | wrote idle => exact absurd (congrArg Option.isSome idle) (by simp [closingStart, enterServing, busy])
    | polled idle => exact absurd (congrArg Option.isSome idle) (by simp [closingStart, enterServing, busy])
  · cases bus with
    | still flight pos writes => exact .inl ⟨flight.trans free, pos, writes⟩
    | wrote _ d w flight pos writes origin => exact .inr (.inl ⟨d, w, flight, pos, writes, origin⟩)
    | polled _ n e next flight writes pos =>
      refine .inr (.inr ⟨n, e, ?_, flight, writes, pos⟩)
      rw [cfg]
      exact next

end Sys2Proof.Machine
end

section
/-! Proof of the statement about the plasma rows: the strike timeout and its retry, the pause before the next strike, the dropout
limit, and the end of an ETCH by its gated timer and its endpoint (R138 to R140, R144, R145). -/

namespace Sys2Proof.Machine

open Sys2Proof

/-- A row answers as its condition does: `finish` of what falls due, or the state itself. -/
theorem next_whenDue_congr {s : State} {a b : Option State} (h : a = b) :
    (.next (whenDue a s) : Host.Outcome State Fault Refusal) = .next (whenDue b s) := by
  rw [h]

theorem inPhase_ne {s : State} {v : Volume} {p q : Phase} {r : StepRecord} (h : inPhase s v p = some r) (ne : p ≠ q) :
    inPhase s v q = none := by
  obtain ⟨-, phase, -⟩ := inPhase_eq_some.1 h
  exact if_neg fun k => ne (phase.symm.trans k.2)

/-! ## A strike at its timeout (R138, R139) -/

/-- A strike that waits for its plasma in IGNITE, or whose confirmation is below its duration in CONFIRM (R138, R139). -/
def StrikeUnderWay (s : State) (c : Chamber) (r : StepRecord) : Prop :=
  inPhase s (.ch c) .ignite = some r
    ∨ (inPhase s (.ch c) .confirm = some r ∧ (s.reuOf c).confirmCount < r.duration)

section Strike
variable {s : State} {c : Chamber} {r : StepRecord}

theorem strikeConfirmed?_underWay (h : StrikeUnderWay s c r) : strikeConfirmed? c s = none := by
  rcases h with ignite | ⟨confirm, below⟩
  · simp only [strikeConfirmed?, inPhase_ne (q := .confirm) ignite nofun]
  · exact (strikeConfirmed?_inPhase confirm).trans (if_neg (Nat.not_le.2 below))

theorem strikeTimeout?_underWay (h : StrikeUnderWay s c r) : strikeTimeout? c s =
    if s.items.strikeTimeout.get c ≤ ((s.reuOf c).strikeTimer : Int) then
      some (if 0 < (s.reuOf c).retriesLeft then strikeRetry c s else failStep (.ch c) .strikeFail s) else none := by
  have unconfirmed := strikeConfirmed?_underWay h
  obtain ⟨running, phase, current⟩ : (s.vol (.ch c)).state = .running
      ∧ ((s.vol (.ch c)).phase = .ignite ∨ (s.vol (.ch c)).phase = .confirm) ∧ (s.vol (.ch c)).current = some r := by
    rcases h with lit | ⟨lit, -⟩
    · obtain ⟨running, phase, current⟩ := inPhase_eq_some.1 lit
      exact ⟨running, .inl phase, current⟩
    · obtain ⟨running, phase, current⟩ := inPhase_eq_some.1 lit
      exact ⟨running, .inr phase, current⟩
  simp [strikeTimeout?, runningStep_eq_some.2 ⟨running, current⟩, unconfirmed, phase, apply_ite some]

/-- A confirm count at its duration is taken before the timeout (R138). -/
theorem strikeTimeout?_confirmed (confirm : inPhase s (.ch c) .confirm = some r)
    (reached : r.duration ≤ (s.reuOf c).confirmCount) : strikeTimeout? c s = none := by
  obtain ⟨running, -, current⟩ := inPhase_eq_some.1 confirm
  have confirmed := (strikeConfirmed?_inPhase confirm).trans (if_pos reached)
  simp [strikeTimeout?, runningStep_eq_some.2 ⟨running, current⟩, confirmed]

theorem struck_reuOf (c : Chamber) (s : State) : (struck c s).reuOf c = { s.reuOf c with
    rfOn := false, powerCode := 0, retriesLeft := (s.reuOf c).retriesLeft - 1, confirmCount := 0, pauseCount := 0 } := by
  rw [struck, rfOff, State.reuOf_modReu_self, State.reuOf_modReu_self]

/-- The count and the flag of a strike retry are the volume's and leave the REU alone. -/
theorem strikeRetry_reuOf (c : Chamber) (s : State) : (strikeRetry c s).reuOf c = { s.reuOf c with
    rfOn := false, powerCode := 0, retriesLeft := (s.reuOf c).retriesLeft - 1, confirmCount := 0, pauseCount := 0 } := by
  obtain ⟨_, counted⟩ := countOn_eq (.ch c) Counters.countStrikeRetry (setFlag (.ch c) .strikeRetry (struck c s))
  obtain ⟨_, _, flagged⟩ := setFlag_eq (.ch c) .strikeRetry (struck c s)
  rw [strikeRetry_eq, State.modVol_reuOf, counted, flagged]
  exact struck_reuOf c s

theorem strikeRetry_vol (fitted : s.fitted (.ch c) = true) : (strikeRetry c s).vol (.ch c) = { s.vol (.ch c) with
    phase := .retryPause
    flags := (s.vol (.ch c)).flags ||| Flag.strikeRetry.bit
    counters := (s.vol (.ch c)).counters.countStrikeRetry } := by
  have still : (setFlag (.ch c) .strikeRetry (struck c s)).fitted (.ch c) = true := (setFlag_fitted _ _ _ _).trans fitted
  have flagged := setFlag_vol_self (.ch c) .strikeRetry (struck c s) fitted
  rw [strikeRetry_eq, State.vol_modVol_self, countOn_vol_self _ still, flagged]
  rfl

theorem strikeRetry_hasFlag (fitted : s.fitted (.ch c) = true) :
    ((strikeRetry c s).vol (.ch c)).hasFlag .strikeRetry = true := by
  rw [strikeRetry_vol fitted]
  simp [Vol.hasFlag, Flag.getLsbD_bit]

theorem retryPauseEnd?_inPhase (h : inPhase s (.ch c) .retryPause = some r) : retryPauseEnd? c s =
    if 20 ≤ (s.reuOf c).pauseCount then some (enterIgnite c r s) else none := by
  simp only [retryPauseEnd?, h]

end Strike

/-! ## The end of an ETCH (R140, R144, R145) -/

section Etch
variable {s : State} {c : Chamber} {r : StepRecord}

theorem dropoutLimitExceeded?_inPhase (h : inPhase s (.ch c) .etch = some r) : dropoutLimitExceeded? c s =
    if s.items.dropoutLimit.get c < ((s.reuOf c).dropout : Int) then some (failStep (.ch c) .plasmaLost s) else none := by
  simp only [dropoutLimitExceeded?, h]

/-- The dropout test is made first (R140). -/
theorem gatedTimeEnd?_inPhase (h : inPhase s (.ch c) .etch = some r) : gatedTimeEnd? c s =
    if gatedTimeReached s c r = true ∧ ((s.reuOf c).dropout : Int) ≤ s.items.dropoutLimit.get c then
      some (endEtch c r s) else none := by
  simp [gatedTimeEnd?, h, dropoutLimitExceeded?_inPhase h]

theorem confirmedAt_isSome (s : State) (c : Chamber) (r : StepRecord) :
    (confirmedAt s c r).isSome = true ↔ r.endpoint.isSome = true ∧ (s.detector c).endpointAt.isSome = true := by
  unfold confirmedAt
  split <;> simp_all

/-- An end gated time above 0 that is reached leaves a gated timer above 0, so that the end test asks for a tick of the phase
or a confirmed endpoint, whatever the end gated time. -/
theorem gatedTimeReached_iff (s : State) (c : Chamber) (r : StepRecord) : gatedTimeReached s c r = true ↔
    (s.reuOf c).endGated ≤ (s.reuOf c).gated ∧ (0 < (s.reuOf c).gated ∨ 0 < (s.reuOf c).dropout
      ∨ (r.endpoint.isSome = true ∧ (s.detector c).endpointAt.isSome = true)) := by
  simp only [gatedTimeReached, Bool.and_eq_true, Bool.or_eq_true, decide_eq_true_eq, confirmedAt_isSome, or_assoc]
  refine and_congr_right fun reached => ⟨fun h => ?_, .inr⟩
  rcases h with asked | ticked
  · exact .inl (asked.trans_le reached)
  · exact ticked

theorem endEtch_unasked (h : r.endpoint = none) : endEtch c r s = completeStep (.ch c) none s := by
  simp only [endEtch, h]

theorem endEtch_confirmed {p : Endpoint} {e : Nat} (asked : r.endpoint = some p) (held : (s.detector c).endpointAt = some e) :
    endEtch c r s = completeStep (.ch c) (if r.duration < e + overEtch e p.overEtch then some .cut else none) s := by
  simp [endEtch, confirmedAt, asked, held]

theorem endEtch_missed {p : Endpoint} (asked : r.endpoint = some p) (missed : (s.detector c).endpointAt = none) :
    endEtch c r s = if p.required = true then failStep (.ch c) .endpointMissed s
      else completeStep (.ch c) (some .noEndpoint) s := by
  simp [endEtch, confirmedAt, asked, missed]

end Etch

/-! ## The rows -/

section Rows
variable {s : State} {c : Chamber} {r : StepRecord}

theorem exec_strikeTimeout (h : StrikeUnderWay s c r)
    (reached : s.items.strikeTimeout.get c ≤ ((s.reuOf c).strikeTimer : Int)) : exec (.strikeTimeout c) s =
      .next (finish (if 0 < (s.reuOf c).retriesLeft then strikeRetry c s else failStep (.ch c) .strikeFail s)) :=
  next_whenDue_congr ((strikeTimeout?_underWay h).trans (if_pos reached))

theorem exec_gatedTimeEnd (h : inPhase s (.ch c) .etch = some r)
    (within : ((s.reuOf c).dropout : Int) ≤ s.items.dropoutLimit.get c) (reached : gatedTimeReached s c r = true) :
    exec (.gatedTimeEnd c) s = .next (finish (endEtch c r s)) :=
  next_whenDue_congr ((gatedTimeEnd?_inPhase h).trans (if_pos ⟨reached, within⟩))

theorem exec_gatedTimeEnd_none (h : inPhase s (.ch c) .etch = some r)
    (off : gatedTimeReached s c r = true → s.items.dropoutLimit.get c < ((s.reuOf c).dropout : Int)) :
    exec (.gatedTimeEnd c) s = .next s :=
  next_whenDue_congr ((gatedTimeEnd?_inPhase h).trans
    (if_neg fun ⟨reached, within⟩ => Int.not_le.2 (off reached) within))

end Rows

/-- Settles O28, row by row at and below its limit: the strike under way, the strike confirmed, the pause, and the ETCH past its
dropout limit and within it. -/
theorem plasmaRowsAct : Obligations.PlasmaRowsAct := by
  refine ⟨fun s c r lit => ⟨fun below => ?_, fun reached => ⟨fun spent => ?_, fun left fitted => ⟨strikeRetry c s, ?_, ?_⟩⟩⟩,
    fun s c r confirm reached => next_whenDue_congr (strikeTimeout?_confirmed confirm reached),
    fun s c r pause => ⟨fun ended => ⟨enterIgnite c r s, ?_, ?_⟩, fun below => ?_⟩,
    fun s c r etch => ⟨fun lost => ⟨?_, ?_⟩, fun within => ⟨?_, fun below => ?_, fun _ dark still unheld => ?_,
      fun reached ticked => ?_⟩⟩⟩
  · exact next_whenDue_congr ((strikeTimeout?_underWay lit).trans (if_neg (Int.not_le.2 below)))
  · rw [exec_strikeTimeout lit reached, if_neg (by omega)]
  · rw [exec_strikeTimeout lit reached, if_pos left]
  · have vol := strikeRetry_vol fitted
    have reu := strikeRetry_reuOf c s
    refine ⟨by rw [vol], by rw [reu], by rw [reu], ?_, by rw [reu], by rw [reu],
      congrArg (fun x => x.counters.strikeRetry) vol, strikeRetry_hasFlag fitted⟩
    rw [reu]
    exact Nat.sub_add_cancel left
  · exact next_whenDue_congr ((retryPauseEnd?_inPhase pause).trans (if_pos ended))
  · obtain ⟨vol, reu⟩ := enterIgnite_spec c r s
    rw [vol, reu]
    exact ⟨rfl, rfl, rfl, rfl⟩
  · exact next_whenDue_congr ((retryPauseEnd?_inPhase pause).trans (if_neg (Nat.not_le.2 below)))
  · exact next_whenDue_congr ((dropoutLimitExceeded?_inPhase etch).trans (if_pos lost))
  · exact exec_gatedTimeEnd_none etch fun _ => lost
  · exact next_whenDue_congr ((dropoutLimitExceeded?_inPhase etch).trans (if_neg (Int.not_lt.2 within)))
  · refine exec_gatedTimeEnd_none etch fun reached => ?_
    obtain ⟨ended, -⟩ := (gatedTimeReached_iff s c r).1 reached
    exact absurd ended (Nat.not_le.2 below)
  · refine exec_gatedTimeEnd_none etch fun reached => ?_
    obtain ⟨-, gated | dropout | ⟨asked, confirmed⟩⟩ := (gatedTimeReached_iff s c r).1 reached
    · omega
    · omega
    · rcases unheld with unasked | unconfirmed
      · simp [unasked] at asked
      · simp [unconfirmed] at confirmed
  · rw [exec_gatedTimeEnd etch within ((gatedTimeReached_iff s c r).2 ⟨reached, ticked⟩)]
    refine ⟨fun unasked => ?_, fun p e asked confirmed => ?_, fun p asked missed optional => ?_,
      fun p asked missed required => ?_⟩
    · rw [endEtch_unasked unasked]
    · rw [endEtch_confirmed asked confirmed, overEtch]
    · rw [endEtch_missed asked missed, if_neg (by simp [optional])]
    · rw [endEtch_missed asked missed, if_pos required]

end Sys2Proof.Machine
end

section
/-! Slits and door permits stand open only where the volumes they join are at rest (R41, R148, R149, R151): everything but a
start of a queue and an opening leaves volumes at rest as they are and opens nothing, and those two pass their tests first. -/

namespace Sys2Proof.Machine

open Sys2Proof

/-! ## Changes that open nothing and wake no volume -/

/-- From `s` to `t` no volume leaves rest, and no slit or door opens. -/
structure KeepsRest (s t : State) : Prop where
  rest : ∀ v, atRest s v = true → atRest t v = true
  slit : ∀ w, t.tiu.slits.get w = true → s.tiu.slits.get w = true
  door : ∀ d, t.tiu.doors.get d = true → s.tiu.doors.get d = true

namespace KeepsRest

theorem openingLaw {s t : State} (h : KeepsRest s t) (law : openingLaw s) : openingLaw t := by
  obtain ⟨slits, doors⟩ := law
  refine ⟨fun w o => ?_, fun d o => ?_⟩
  · obtain ⟨own, tc⟩ := slits w (h.slit w o)
    exact ⟨h.rest _ own, h.rest _ tc⟩
  · obtain ⟨own, shut⟩ := doors d (h.door d o)
    exact ⟨h.rest _ own, Bool.eq_false_iff.2 fun o => Bool.eq_false_iff.1 shut (h.slit _ o)⟩

/-- A change that leaves the slits and doors alone. -/
theorem of_tiu {s t : State} (rest : ∀ v, atRest s v = true → atRest t v = true) (tiu : t.tiu = s.tiu) : KeepsRest s t :=
  ⟨rest, fun w => by rw [tiu]; exact id, fun d => by rw [tiu]; exact id⟩

theorem of_vols {s t : State} (vols : t.vols = s.vols) (tiu : t.tiu = s.tiu) : KeepsRest s t :=
  of_tiu (fun v rest => (atRest_congr (congrArg (fun p : Per7 Vol => (p.get v).state) vols)).trans rest) tiu

theorem refl (s : State) : KeepsRest s s := of_vols rfl rfl

theorem trans {s t u : State} (h : KeepsRest s t) (k : KeepsRest t u) : KeepsRest s u :=
  ⟨fun v rest => k.rest v (h.rest v rest), fun w o => h.slit w (k.slit w o), fun d o => h.door d (k.door d o)⟩

/-- Before the change other parts than volumes, slits and doors may change. -/
theorem after {s t u : State} (k : KeepsRest t u) (vols : t.vols = s.vols) (tiu : t.tiu = s.tiu) : KeepsRest s u :=
  (of_vols vols tiu).trans k

theorem foldl {α : Type} {f : State → α → State} (h : ∀ s a, KeepsRest s (f s a)) (l : List α) (s : State) :
    KeepsRest s (l.foldl f s) :=
  List.foldlRecOn (motive := KeepsRest s) l f (refl s) fun t ht a _ => ht.trans (h t a)

/-- A step of one volume that is not at rest. -/
theorem of_local {v : Volume} {s t : State} (alone : Local v s t) (frame : EventFrame s t) (away : atRest s v = false) :
    KeepsRest s t := by
  refine of_tiu (fun w rest => ?_) frame.tiu
  have other : w ≠ v := by
    rintro rfl
    exact Bool.false_ne_true (away.symm.trans rest)
  exact (alone.atRest other).trans rest

/-- A volume that only winds down where it does not run stays at rest (R56). -/
theorem of_parked {s t : State} (parked : ∀ v, Parked v s t) (tiu : t.tiu = s.tiu) : KeepsRest s t := by
  refine of_tiu (fun v rest => ?_) tiu
  have still : (s.vol v).state ≠ .running := fun running => by simp [atRest, running] at rest
  obtain ⟨-, -, -, -, same | ⟨ending, -⟩ | ⟨safing, -⟩⟩ := parked v still
  · exact (atRest_congr same).trans rest
  · simp [atRest, ending] at rest
  · simp [atRest, safing] at rest

end KeepsRest

theorem Eased.keepsRest {s t : State} (h : Eased s t) : KeepsRest s t :=
  ⟨fun v rest => (atRest_congr (h.state v)).trans rest, h.slit, h.door⟩

/-! ## What follows within an event -/

theorem settle_keepsRest (n : Nat) (s : State) : KeepsRest s (settle n s) :=
  .of_parked (fun v => settle_parked v n s) (settle_eventFrame n s).tiu

theorem finish_keepsRest (s : State) : KeepsRest s (finish s) :=
  .of_parked (fun v => finish_parked v s) (finish_eventFrame s).tiu

theorem KeepsRest.finish {s t : State} (h : KeepsRest s t) : KeepsRest s (finish t) := h.trans (finish_keepsRest t)

theorem whenDue_keepsRest {o : Option State} {s : State} (moves : Leads (fun t => Move s t ∨ t = s) o)
    (frame : DueFrame s o) : KeepsRest s (whenDue o s) := by
  cases o with
  | none => exact .refl s
  | some t =>
    refine KeepsRest.finish (.of_parked (fun v => ?_) (frame t rfl).tiu)
    rcases moves t rfl with move | same
    · exact move.parked v
    · exact .of_vol (congrArg (State.vol · v) same)

/-! ## Failures and faults (R52, R53) -/

theorem failStep_keepsRest (v : Volume) (f : FailKind) (s : State) : KeepsRest s (failStep v f s) := by
  rcases failStep_cases v f s with same | ⟨r, running, -⟩
  · rw [same]
    exact .refl s
  · exact .of_local (failStep_local v f s) (failStep_eventFrame v f s) (atRest_running running)

/-- A fault on a volume at rest sets its flag alone. -/
theorem takeFault_keepsRest (v : Volume) (k : HoldCause) (s : State) : KeepsRest s (takeFault v k s) := by
  cases away : atRest s v with
  | false => exact .of_local (takeFault_local v k s) (takeFault_eventFrame v k s) away
  | true =>
    refine .of_tiu (fun w rest => ?_) (takeFault_eventFrame v k s).tiu
    by_cases own : w = v
    · subst own
      have stopped : (s.vol w).state ≠ .running ∧ (s.vol w).state ≠ .ending := by
        constructor <;> intro e <;> simp [atRest, e] at rest
      exact (atRest_congr (by rw [takeFault_atRest k stopped])).trans rest
    · exact ((takeFault_local v k s).atRest own).trans rest

theorem windDown_keepsRest {v : Volume} {s : State} (h : Option HoldRecord) (running : (s.vol v).state = .running) :
    KeepsRest s (windDown v h s) :=
  .of_local (windDown_local v h s) (windDown_eventFrame v h s) (atRest_running running)

/-! ## Samples (R5 to R16) -/

theorem tripAsserted_keepsRest (g : Gauge) (s : State) : KeepsRest s (tripAsserted g s) := by
  cases g with
  | vol v => exact takeFault_keepsRest v .pressureTrip s
  | manifold => exact (setFlags_eased _ _ s).keepsRest
  | header =>
    have tripped : KeepsRest s { s with hlm := { s.hlm with trip := true } } := .of_vols rfl rfl
    refine tripped.trans (.foldl (fun t c => ?_) Chamber.all _)
    unfold headerTripChamber
    dsimp only
    split
    · exact takeFault_keepsRest _ _ t
    · exact (setFlag_eased _ _ t).keepsRest

theorem evalComparator_keepsRest (g : Gauge) (p : Int) (s : State) : KeepsRest s (evalComparator g p s) := by
  unfold evalComparator
  split
  · have held := fun x => (setGauge_eased g x s).keepsRest
    dsimp only
    split
    · exact (held _).trans (tripAsserted_keepsRest g _)
    · split
      · exact (held _).trans (tripCleared_eased g _).keepsRest
      · exact held _
  · exact .refl s

theorem pressureSampleEffect_keepsRest (g : Gauge) (n : Nat) (s : State) : KeepsRest s (pressureSampleEffect g n s) := by
  have judged := (takeSample_eased g (sampleOf s g n) s).keepsRest.trans
    (evalComparator_keepsRest g (sampleOf s g n).code _)
  cases g with
  | vol v => exact judged.trans (sampleVolume_eased v _).keepsRest
  | manifold => exact judged
  | header => exact judged

/-! ## The device bus (R120 to R130) -/

theorem setAnswered_keepsRest (d : Device) (w : PendingWrite) (s : State) : KeepsRest s (setAnswered d w s) := by
  cases d with
  | mfc c k =>
    unfold setAnswered
    dsimp only
    unfold finalWrite
    split
    · exact (headerTest_eased _).keepsRest.after rfl rfl
    · exact .of_vols rfl rfl
  | throttle c => exact .of_vols rfl rfl

theorem deviationCheck_keepsRest (c : Chamber) (k : Chan) (flow : Nat) (s : State) :
    KeepsRest s (deviationCheck c k flow s) := by
  have counted := fun x => (setCheck_eased c k x s).keepsRest
  unfold deviationCheck
  split
  · dsimp only
    split
    · split
      · exact (counted _).trans (failStep_keepsRest _ _ _)
      · exact counted _
    · exact counted _
  · exact .refl s

theorem readAnswered_keepsRest (d : Device) (r : Reading) (s : State) : KeepsRest s (readAnswered d r s) := by
  have read := fun x => (setDevice_eased d x s).keepsRest
  unfold readAnswered
  dsimp only
  split
  · exact (read _).trans (deviationCheck_keepsRest _ _ _ _)
  · exact read _

theorem failDevice_keepsRest (d : Device) (s : State) : KeepsRest s (failDevice d s) := by
  obtain ⟨vols, -, -, -, frame⟩ := freed_frame d (fallen d s)
  refine failDevice_kept (P := KeepsRest s) (.of_vols vols frame.tiu) (fun h => h.trans (failStep_keepsRest _ _ _))
    (fun h => h.trans (takeFault_keepsRest _ _ _)) (fun h => h.trans (setFlag_eased _ _ _).keepsRest) fun {t tag} h => ?_
  obtain ⟨outbox, e⟩ := postDeviceFailed_plant d tag t
  rw [e]
  exact h.trans (.of_vols rfl rfl)

theorem countNoAnswer_keepsRest (d : Device) (s : State) : KeepsRest s (countNoAnswer d s) := by
  have counted := fun x => (setDevice_eased d x s).keepsRest
  unfold countNoAnswer
  dsimp only
  split
  · exact (counted _).trans (failDevice_keepsRest d _)
  · exact counted _

theorem noAnswer_keepsRest (t : Transaction) (s : State) : KeepsRest s (noAnswer t s) := by
  unfold noAnswer
  split
  · exact (setDevice_eased t.device _ s).keepsRest.trans (countNoAnswer_keepsRest t.device _)
  · exact countNoAnswer_keepsRest t.device s

theorem finishBus_keepsRest (s : State) : KeepsRest s (finishBus s) := by
  have freed : KeepsRest s (freeBus (settle settleBound s)) := (settle_keepsRest settleBound s).trans (.of_vols rfl rfl)
  exact freed.trans ((arbitrate_eased _).trans (flush_eased _)).keepsRest

theorem KeepsRest.complete {s : State} (t : Transaction) {effect : State → State} (h : KeepsRest s (effect s)) :
    KeepsRest s (complete t effect s) := by
  unfold Machine.complete
  split
  · exact finishBus_keepsRest s
  · exact h.trans (finishBus_keepsRest _)

theorem endUnanswered_keepsRest (s : State) : KeepsRest s (endUnanswered s) := by
  unfold endUnanswered
  split
  · exact .complete _ (noAnswer_keepsRest _ s)
  · exact .refl s

theorem answerSet_keepsRest (s : State) : KeepsRest s (answerSet s) := by
  unfold answerSet
  split
  · split
    · exact .complete _ (setAnswered_keepsRest _ _ s)
    · exact .refl s
  · exact .refl s

theorem answerRead_keepsRest (r : Reading) (s : State) : KeepsRest s (answerRead r s) := by
  unfold answerRead
  split
  · split
    · split
      · exact .complete _ (readAnswered_keepsRest _ r s)
      · exact .refl s
    · exact .refl s
  · exact .refl s

/-! ## Input functions (R84, R88, R110, R134, R153, R154) -/

theorem permitLoss_keepsRest (c : Chamber) (s : State) : KeepsRest s (permitLoss c s) := by
  rcases permitLoss_cases c s with h | h <;> rw [h]
  · exact takeFault_keepsRest _ _ s
  · exact (setFlag_eased _ _ s).keepsRest

theorem turboLoss_keepsRest (t : Turbo) (s : State) : KeepsRest s (turboLoss t s) := by
  unfold turboLoss
  dsimp only
  split
  · exact takeFault_keepsRest _ _ s
  · exact (closeGate_eased _ s).keepsRest

theorem emergencyVolume_keepsRest (s : State) (v : Volume) : KeepsRest s (emergencyVolume s v) := by
  have shut := fun t => ((closeGate_eased v t).trans (setVent_eased v false _)).keepsRest
  unfold emergencyVolume
  dsimp only
  split
  · exact (takeFault_keepsRest v _ s).trans (shut _)
  · exact shut s

theorem plasmaChanged_keepsRest (c : Chamber) (x : Bool) (s : State) : KeepsRest s (plasmaChanged c x s) := by
  unfold plasmaChanged
  split
  next r step =>
    obtain ⟨running, -⟩ := runningStep_eq_some.1 step
    split
    · exact .of_local ((modVol_local _ _ s).trans (modReu_local c _ _)) (.refl s) (atRest_running running)
    · split
      · exact .of_vols rfl rfl
      · exact .refl s
  · exact .refl s

theorem functionChanged_keepsRest (f : InputFn) (x : Bool) (s : State) : KeepsRest s (functionChanged f x s) := by
  have set : KeepsRest s { s with flu := { s.flu with fns := s.flu.fns.set f x } } := .of_vols rfl rfl
  cases f with
  | facilityGasOk => exact set.trans (.foldl (fun t c => permitLoss_keepsRest c t) _ _)
  | exhaustOk => exact set.trans (.foldl (fun t c => permitLoss_keepsRest c t) _ _)
  | emergencyOff =>
    cases x with
    | true =>
      exact (set.trans (.foldl emergencyVolume_keepsRest Volume.all _)).trans
        (.foldl (fun t c => (setFlag_eased (.ch c) .permitLost t).keepsRest) _ _)
    | false => exact set
  | plasma c => exact set.trans (plasmaChanged_keepsRest c x _)
  | lid c => exact set
  | turbo t =>
    unfold functionChanged
    dsimp only
    split
    · exact set.trans (turboLoss_keepsRest t _)
    · exact set
  | door d => exact set

theorem recompute_keepsRest (s : State) : KeepsRest s (recompute s) := by
  refine .foldl (fun t f => ?_) InputFn.all s
  unfold updateFunction
  dsimp only
  split
  · exact .refl t
  · exact (functionChanged_keepsRest f _ t).finish

/-! ## Link loss (R58, R161) and the time base (R2) -/

theorem linkExpiry_keepsRest (l : Link) (s : State) : KeepsRest s (linkExpiry l s) := by
  refine KeepsRest.finish ((modPort_eased l Port.expire s).keepsRest.trans (.foldl (fun t v => ?_) _ _))
  unfold linkLossVolume
  split
  · split
    · exact takeFault_keepsRest _ _ t
    · exact (discard_eased v t).keepsRest.trans (takeFault_keepsRest _ _ _)
  · exact .refl t

theorem tickTransaction_keepsRest (s : State) : KeepsRest s (tickTransaction s) := by
  unfold tickTransaction
  split
  · exact .refl s
  · dsimp only
    split
    · exact (endUnanswered_keepsRest _).after rfl rfl
    · exact .of_vols rfl rfl

theorem tickSilence_keepsRest (s : State) (l : Link) : KeepsRest s (tickSilence s l) := by
  have counted := fun f => (modPort_eased l f s).keepsRest
  unfold tickSilence
  split
  · exact .refl s
  · dsimp only
    split
    · exact (counted _).trans (linkExpiry_keepsRest l _)
    · exact counted _

theorem cascadeStep_keepsRest (s : State) : KeepsRest s (cascadeStep s) := by
  have settled := (stepTickEffect_eased s).keepsRest.trans (settle_keepsRest settleBound _)
  unfold cascadeStep
  dsimp only
  split
  · exact settled.trans ((withBase_eased _ _).trans (flush_eased _)).keepsRest
  · exact (settled.trans ((withBase_eased _ _).trans (secondTickEffect_eased _)).keepsRest).finish

theorem sampleTick_keepsRest (s : State) : KeepsRest s (sampleTick s) := by
  have based : KeepsRest s (baseTick s) := by
    unfold baseTick
    split
    · exact .of_vols rfl rfl
    · exact (cascadeStep_keepsRest _).after rfl rfl
  rw [sampleTick_eq]
  exact (based.trans (tickTransaction_keepsRest _)).trans (.foldl tickSilence_keepsRest Link.all _)

/-! ## Requests that open nothing and start no queue -/

theorem onLoad_keepsRest (l : Link) (n : Nat) (r : RawRecord) (s : State) : KeepsRest s (onLoad l n r s).1 := by
  unfold onLoad
  split
  · exact .refl s
  next v check =>
    split
    · exact .refl s
    · split
      · exact (modVol_eased v (fun x => { x with queue := x.queue ++ [_] }) s rfl rfl rfl).keepsRest
      · exact ((countOn_eased v _ s).trans (setFlag_eased v .stepOverflow _)).keepsRest.finish

theorem onHold_keepsRest (l : Link) (n : Nat) (s : State) : KeepsRest s (onHold l n s).1 := by
  unfold onHold
  split
  · exact .refl s
  next v check =>
    split
    next running =>
      have recorded := recordEnd_eased v .stopped none none s
      exact (recorded.keepsRest.trans (windDown_keepsRest _ ((recorded.state v).trans running))).finish
    · exact .refl s

theorem onAbort_keepsRest (l : Link) (n : Nat) (s : State) : KeepsRest s (onAbort l n s).1 := by
  unfold onAbort
  split
  · exact .refl s
  next v check =>
    split
    next running =>
      have recorded := (discard_eased v s).trans (recordEnd_eased v .stopped none none _)
      exact (recorded.keepsRest.trans (windDown_keepsRest _ ((recorded.state v).trans running))).finish
    · exact .refl s

/-- CLEAR takes a volume from HOLD to IDLE, from rest to rest (R43). -/
theorem clearHeld_keepsRest (v : Volume) (s : State) : KeepsRest s (clearHeld v s) := by
  refine .of_tiu (fun w rest => ?_) rfl
  by_cases own : w = v
  · subst own
    simp [atRest, clearHeld]
  · have same : (clearHeld v s).vol w = s.vol w := (post_vol _ _ _ w).trans (State.vol_modVol_ne s v w _ own)
    exact (atRest_congr (congrArg Vol.state same)).trans rest

theorem onClear_keepsRest (l : Link) (n : Nat) (s : State) : KeepsRest s (onClear l n s).1 := by
  unfold onClear
  split
  · exact .refl s
  next v check =>
    split
    · exact (clearHeld_keepsRest v s).finish
    · exact (discard_eased v s).keepsRest
    · exact .refl s

theorem onGasEnable_keepsRest (l : Link) (n : Nat) (x : Bool) (s : State) : KeepsRest s (onGasEnable l n x s).1 := by
  unfold onGasEnable
  split
  · exact .refl s
  next c check =>
    split
    · exact .refl s
    · have enabled : KeepsRest s (enabled c x s) := .of_vols rfl rfl
      rw [setEnable_eq]
      split
      · exact (enabled.trans (permitLoss_keepsRest c _)).finish
      · exact enabled.finish

theorem onTransferAllow_keepsRest (l : Link) (n : Nat) (x : Bool) (s : State) : KeepsRest s (onTransferAllow l n x s).1 := by
  unfold onTransferAllow
  split
  · exact .refl s
  · exact ⟨fun _ => id, fun _ => id, fun _ => id⟩

theorem onCloseSlit_keepsRest (l : Link) (n : Nat) (s : State) : KeepsRest s (onCloseSlit l n s).1 := by
  unfold onCloseSlit
  split
  · exact .refl s
  next w check =>
    split
    · have shut : KeepsRest s (setSlit w false s) := by
        refine ⟨fun _ => id, fun u o => ?_, fun _ => id⟩
        have o : (s.tiu.slits.set w false).get u = true := o
        by_cases own : u = w
        · subst own
          simp at o
        · rwa [PerSlit.get_set_ne s.tiu.slits w u false own] at o
      exact shut.finish
    · exact .refl s

theorem onCloseDoor_keepsRest (l : Link) (n : Nat) (s : State) : KeepsRest s (onCloseDoor l n s).1 := by
  unfold onCloseDoor
  split
  · exact .refl s
  next d check =>
    refine ⟨fun _ => id, fun _ => id, fun e o => ?_⟩
    have o : (s.tiu.doors.set d false).get e = true := o
    by_cases own : e = d
    · subst own
      simp at o
    · rwa [Per2.get_set_ne s.tiu.doors d e false own] at o

theorem onClearConditions_keepsRest (l : Link) (n : Nat) (mask : Word16) (s : State) :
    KeepsRest s (onClearConditions l n mask s).1 := by
  unfold onClearConditions
  split
  · exact .refl s
  next v check => exact (modVol_eased v (fun x => x.clearFlags mask) s rfl rfl rfl).keepsRest

theorem onResetCounters_keepsRest (l : Link) (n : Nat) (s : State) : KeepsRest s (onResetCounters l n s).1 := by
  unfold onResetCounters
  split
  · exact .of_vols rfl rfl
  · split
    · exact .refl s
    next v check =>
      have reset := modVol_eased v (fun x => { x with counters := .reset }) s rfl rfl rfl
      cases v with
      | ch c =>
        exact (reset.trans (foldl_eased resetNoAnswers (fun t d => setDevice_eased d _ t) (chamberDevices c) _)).keepsRest
      | tc => exact reset.keepsRest
      | ll d => exact reset.keepsRest

theorem onClearDevice_keepsRest (l : Link) (a : Nat) (s : State) : KeepsRest s (onClearDevice l a s).1 := by
  unfold onClearDevice
  split
  · exact .refl s
  · split
    · exact .refl s
    · split
      · exact .refl s
      · exact (clearDevice_eased _ s).keepsRest

theorem onWriteConfig_keepsRest (n i : Nat) (x : Int) (s : State) : KeepsRest s (onWriteConfig n i x s).1 := by
  unfold onWriteConfig
  split
  · exact .refl s
  · split
    · unfold writeItem
      dsimp only
      split
      · exact (recompute_keepsRest _).after rfl rfl
      · exact .of_vols rfl rfl
    · exact .refl s

theorem closingActions_keepsRest (s : State) : KeepsRest s (closingActions s) :=
  (((closingPosts_eased _).trans (arbitrate_eased _)).trans (mapPorts_eased _ _)).keepsRest.after rfl rfl

theorem onCloseConfiguration_keepsRest (s : State) : KeepsRest s (onCloseConfiguration s).1 := by
  unfold onCloseConfiguration
  split
  · exact .refl s
  · split
    · exact .refl s
    · exact (closingActions_keepsRest (enterServing s)).after rfl rfl

theorem reopen_keepsRest (s : State) : KeepsRest s (reopen s) := by
  have discarded : KeepsRest s (Volume.all.foldl (fun t v => discard v t) s) :=
    .foldl (fun t v => (discard_eased v t).keepsRest) _ s
  have configuring : KeepsRest s { Volume.all.foldl (fun t v => discard v t) s with
      cfg := { (Volume.all.foldl (fun t v => discard v t) s).cfg with serving := false } } :=
    discarded.trans (.of_vols rfl rfl)
  have forced := configuring.trans (.foldl (f := forceInactive) (fun t g => by
    unfold forceInactive
    split
    · exact ((setGauge_eased g _ t).trans (tripCleared_eased g _)).keepsRest
    · exact .refl t) Gauge.all _)
  exact forced.trans (((foldl_eased _ (fun t v => (closeGate_eased v t).trans (setVent_eased v false _)) Volume.all _).trans
    (mapPorts_eased _ _)).keepsRest.after rfl rfl)

theorem onReopenConfiguration_keepsRest (s : State) : KeepsRest s (onReopenConfiguration s).1 := by
  unfold onReopenConfiguration
  split
  · exact .refl s
  · exact (reopen_keepsRest s).finish

/-- At its power-on values the part has every volume IDLE and every slit and door closed. -/
theorem keepsRest_of_reset {s t : State} (vols : t.vols = .fill .reset) (tiu : t.tiu = .reset) : KeepsRest s t := by
  refine ⟨fun v _ => ?_, fun w o => ?_, fun d o => ?_⟩
  · rw [atRest, State.vol, vols, Per7.get_fill]
    rfl
  · simp [tiu, Tiu.reset] at o
  · simp [tiu, Tiu.reset] at o

theorem onRestart_keepsRest (s : State) : KeepsRest s (onRestart s).1 := by
  unfold onRestart
  split
  · exact .refl s
  · exact (keepsRest_of_reset (t := restartBlocks s) rfl rfl).trans (closingActions_keepsRest _)

/-! ## Starts of queues and openings, by their tests (R39, R42, R148, R149, R151) -/

/-- A volume whose interlock test passes may leave rest: nothing that stands open joins it (R41). -/
theorem openingLaw.started {v : Volume} {s t : State} (law : openingLaw s) (passes : interlockPasses s v = true)
    (alone : Local v s t) (frame : EventFrame s t) : openingLaw t := by
  obtain ⟨slits, doors⟩ := law
  have others : ∀ u, u ≠ v → atRest s u = true → atRest t u = true := fun u ne rest => (alone.atRest ne).trans rest
  rw [openingLaw, frame.tiu]
  refine ⟨fun w o => ?_, fun d o => ?_⟩
  · obtain ⟨own, tc⟩ := slits w o
    have apart : ¬(v = w.volume ∨ v = .tc) := fun touches =>
      Bool.false_ne_true ((slit_shut passes touches).symm.trans o)
    obtain ⟨notOwn, notTc⟩ := not_or.1 apart
    exact ⟨others _ (Ne.symm notOwn) own, others _ (Ne.symm notTc) tc⟩
  · obtain ⟨own, shut⟩ := doors d o
    have apart : .ll d ≠ v := by
      rintro rfl
      exact Bool.false_ne_true ((door_shut passes).symm.trans o)
    exact ⟨others _ apart own, shut⟩

theorem openingLaw.startQueue {v : Volume} {s : State} (law : openingLaw s) (passes : interlockPasses s v = true) :
    openingLaw (Machine.finish (startQueue v s)) :=
  (finish_keepsRest _).openingLaw
    (law.started passes (startSteps_local v _ false s) (startSteps_eventFrame v _ false s))

theorem openingLaw.onRun {s : State} (law : openingLaw s) (l : Link) (n : Nat) : openingLaw (onRun l n s).1 := by
  unfold Machine.onRun
  split
  · exact law
  · split
    · exact law
    next tests =>
      obtain ⟨-, -, passes⟩ := runTest_none tests
      exact law.startQueue passes

theorem openingLaw.onResume {s : State} (law : openingLaw s) (l : Link) (n : Nat) : openingLaw (onResume l n s).1 := by
  unfold Machine.onResume
  split
  · exact law
  · split
    · exact law
    next tests =>
      obtain ⟨-, passes⟩ := resumeTest_none tests
      exact law.startQueue passes

theorem openingLaw.onOpenSlit {s : State} (law : openingLaw s) (l : Link) (n : Nat) : openingLaw (onOpenSlit l n s).1 := by
  unfold Machine.onOpenSlit
  split
  · exact law
  · split
    · exact law
    · split
      · exact law
      next tests =>
        obtain ⟨own, tc, doors⟩ := slitTest_none tests
        exact (finish_keepsRest _).openingLaw (setSlit_opening law own tc doors)

theorem openingLaw.onOpenDoor {s : State} (law : openingLaw s) (l : Link) (n : Nat) : openingLaw (onOpenDoor l n s).1 := by
  unfold Machine.onOpenDoor
  split
  · exact law
  · split
    · exact law
    · split
      · exact law
      next tests =>
        obtain ⟨own, slit⟩ := doorTest_none tests
        exact setDoor_opening law own slit

/-! ## Every request and every frame (R158 to R160) -/

theorem openingLaw.serve {s : State} (law : openingLaw s) (l : Link) (req : Request) : openingLaw (serve l req s).1 := by
  cases req with
  | load v r => exact (onLoad_keepsRest l v r s).openingLaw law
  | run v => exact law.onRun l v
  | hold v => exact (onHold_keepsRest l v s).openingLaw law
  | resume v => exact law.onResume l v
  | clear v => exact (onClear_keepsRest l v s).openingLaw law
  | abort v => exact (onAbort_keepsRest l v s).openingLaw law
  | gasEnable c x => exact (onGasEnable_keepsRest l c x s).openingLaw law
  | transferAllow c x => exact (onTransferAllow_keepsRest l c x s).openingLaw law
  | openSlit v => exact law.onOpenSlit l v
  | closeSlit v => exact (onCloseSlit_keepsRest l v s).openingLaw law
  | openDoor v => exact law.onOpenDoor l v
  | closeDoor v => exact (onCloseDoor_keepsRest l v s).openingLaw law
  | clearConditions v m => exact (onClearConditions_keepsRest l v m s).openingLaw law
  | resetCounters v => exact (onResetCounters_keepsRest l v s).openingLaw law
  | clearDevice a => exact (onClearDevice_keepsRest l a s).openingLaw law
  | writeConfig n i x => exact (onWriteConfig_keepsRest n i x s).openingLaw law
  | closeConfiguration => exact (onCloseConfiguration_keepsRest s).openingLaw law
  | reopenConfiguration => exact (onReopenConfiguration_keepsRest s).openingLaw law
  | restart => exact (onRestart_keepsRest s).openingLaw law
  | _ => exact law

theorem openingLaw.take {s : State} (law : openingLaw s) (l : Link) (req : Request) : openingLaw (take l req s).1 := by
  unfold Machine.take
  split
  · exact law.serve l req
  · exact law

theorem openingLaw.modPort {s : State} (law : openingLaw s) (l : Link) (f : Port → Port) : openingLaw (s.modPort l f) :=
  (modPort_eased l f s).openingLaw law

theorem openingLaw.request {s : State} (law : openingLaw s) (l : Link) (tag : Byte) (req : Request) :
    openingLaw (request l tag req s) := by
  have heard : openingLaw (hear l s) := law.modPort l _
  rw [request_eq]
  exact (heard.take l req).modPort l _

theorem openingLaw.goodFrame {s : State} (law : openingLaw s) (l : Link) (body : List Byte) :
    openingLaw (goodFrame l body s) := by
  have heard : openingLaw (hear l s) := law.modPort l _
  have taken : openingLaw (takeBody l body (hear l s)).1 := by
    unfold takeBody
    split
    · split
      · exact heard.take l _
      · exact heard
    · exact heard
  unfold Machine.goodFrame
  dsimp only
  split
  · exact heard.modPort l _
  · exact taken.modPort l _

/-! ## Every step -/

theorem openingLaw.exec {s : State} (law : openingLaw s) (i : Instr) : ∃ t, exec i s = .next t ∧ openingLaw t := by
  have kept : ∀ {t}, KeepsRest s t → openingLaw t := fun h => h.openingLaw law
  have due : ∀ {o : Option State}, Leads (Move s) o → DueFrame s o → openingLaw (whenDue o s) := fun moves frame =>
    kept (whenDue_keepsRest (moves.mono fun _ => .inl) frame)
  cases i with
  | powerOn => exact ⟨_, rfl, kept (keepsRest_of_reset rfl rfl)⟩
  | stepTick => exact ⟨_, rfl, kept (stepTickEffect_eased s).keepsRest.finish⟩
  | secondTick => exact ⟨_, rfl, kept (secondTickEffect_eased s).keepsRest.finish⟩
  | pressureSample g n => exact ⟨_, rfl, kept (pressureSampleEffect_keepsRest g n s).finish⟩
  | emissionSample c n => exact ⟨_, rfl, kept (emissionSampleEffect_eased c n s).keepsRest.finish⟩
  | auxSample a n => exact ⟨_, rfl, kept (.of_vols rfl rfl)⟩
  | tripBlankingEnd => exact ⟨_, rfl, kept (.of_vols rfl rfl)⟩
  | roughGrant => exact ⟨_, rfl, due (grantHead?_moves s) (grantHead?_dueFrame s)⟩
  | roughValveOpen v => exact ⟨_, rfl, due (openValve?_moves v s) (openValve?_dueFrame v s)⟩
  | stallCheck v => exact ⟨_, rfl, kept (whenDue_keepsRest (stallCheck?_moves v s) (stallCheck?_dueFrame v s))⟩
  | stepLimitExpiry v => exact ⟨_, rfl, due (stepLimitExpiry?_moves v s) (stepLimitExpiry?_dueFrame v s)⟩
  | admissionLimitExpiry v => exact ⟨_, rfl, due (admissionLimitExpiry?_moves v s) (admissionLimitExpiry?_dueFrame v s)⟩
  | dwellComplete v => exact ⟨_, rfl, due (dwellComplete?_moves v s) (dwellComplete?_dueFrame v s)⟩
  | overhangEnd v => exact ⟨_, rfl, due (overhangEnd?_moves v s) (overhangEnd?_dueFrame v s)⟩
  | settleComplete c => exact ⟨_, rfl, due (settleComplete?_moves c s) (settleComplete?_dueFrame c s)⟩
  | transitionEnd c => exact ⟨_, rfl, due (transitionEnd?_moves c s) (transitionEnd?_dueFrame c s)⟩
  | strikeConfirmed c => exact ⟨_, rfl, due (strikeConfirmed?_moves c s) (strikeConfirmed?_dueFrame c s)⟩
  | strikeTimeout c => exact ⟨_, rfl, due (strikeTimeout?_moves c s) (strikeTimeout?_dueFrame c s)⟩
  | retryPauseEnd c => exact ⟨_, rfl, due (retryPauseEnd?_moves c s) (retryPauseEnd?_dueFrame c s)⟩
  | dropoutLimitExceeded c => exact ⟨_, rfl, due (dropoutLimitExceeded?_moves c s) (dropoutLimitExceeded?_dueFrame c s)⟩
  | gatedTimeEnd c => exact ⟨_, rfl, due (gatedTimeEnd?_moves c s) (gatedTimeEnd?_dueFrame c s)⟩
  | windDownEnd v => exact ⟨_, rfl, due (windDownEnd?_moves v s) (windDownEnd?_dueFrame v s)⟩
  | gasAdmission => exact ⟨_, rfl, due (gasAdmission?_moves s) (gasAdmission?_dueFrame s)⟩
  | transactionStart => exact ⟨_, rfl, kept (arbitrate_eased s).keepsRest⟩
  | setGoodAnswer => exact ⟨_, rfl, kept (answerSet_keepsRest s)⟩
  | readGoodAnswer r => exact ⟨_, rfl, kept (answerRead_keepsRest r s)⟩
  | busBadAnswer => exact ⟨_, rfl, kept (endUnanswered_keepsRest s)⟩
  | responseTimeout => exact ⟨_, rfl, kept (endUnanswered_keepsRest s)⟩
  | strayAnswer => exact ⟨_, rfl, law⟩
  | inputLineRead levels => exact ⟨_, rfl, kept ((recompute_keepsRest _).after rfl rfl)⟩
  | frameReceived l body check =>
    refine ⟨_, rfl, ?_⟩
    split
    · exact law.goodFrame l body
    · exact law.modPort l _
  | frameDiscard l => exact ⟨_, rfl, law.modPort l _⟩
  | frameGapTimeout l =>
    refine ⟨_, rfl, ?_⟩
    split
    · exact law.modPort l _
    · exact law
  | replySent l => exact ⟨_, rfl, law.modPort l _⟩
  | linkExpiry l =>
    refine ⟨_, rfl, ?_⟩
    unfold expireIfRunning
    split
    · exact kept (linkExpiry_keepsRest l s)
    · exact law
  | startCharacter l => exact ⟨_, rfl, law.modPort l _⟩
  | _ => exact ⟨_, rfl, law.request _ _ _⟩

/-- Settles O8: a volume leaves rest only by a start whose interlock test finds nothing open beside it, and a slit or a door opens
only by a request whose tests find its volumes at rest. -/
theorem openingsKept : Obligations.OpeningsKept := by
  intro s t law taken
  unfold step at taken
  split at taken
  next i rest pending =>
    obtain ⟨u, next, kept⟩ := openingLaw.exec (s := { s with pending := rest }) law i
    rw [next] at taken
    exact Host.Outcome.next.inj taken ▸ kept
  next idle => exact Host.Outcome.next.inj taken ▸ (sampleTick_keepsRest s).openingLaw law

end Sys2Proof.Machine
end

section
/-! Proof of the statement about slits and doors (R148 to R151): the checks, the tests in their order, and the change of the one
command that each request names. -/

namespace Sys2Proof.Machine

open Sys2Proof

/-! ## The checks (R148, R151) -/

theorem slit_ofVolume (w : Slit) : Slit.ofVolume w.volume = some w := by cases w <;> rfl

section Checks
variable {l : Link} {n : Nat} {s : State}

theorem slitCheck_range (h : n = 0 ∨ n = 5 ∨ 7 < n) : slitCheck l n s = .error .range := by
  have none : (Volume.ofNum n).bind Slit.ofVolume = none := by
    rcases h with rfl | rfl | h
    · rfl
    · rfl
    · rw [Volume.ofNum_outside (.inr h)]
      rfl
  simp [slitCheck, none]

theorem slitCheck_slit {w : Slit} (h : Volume.ofNum n = some w.volume) : slitCheck l n s
    = if !s.fitted w.volume then .error .notFitted else if l ≠ .txc then .error .owner else .ok w := by
  have named : (Volume.ofNum n).bind Slit.ofVolume = some w := by rw [h, Option.bind_some, slit_ofVolume]
  simp only [slitCheck, named]

theorem doorCheck_range (h : n < 6 ∨ 7 < n) : doorCheck l n s = .error .range := by
  unfold doorCheck
  split
  next d named =>
    have number := Volume.ofNum_eq_some.1 named
    cases d <;> simp [Volume.num] at number <;> omega
  · rfl

theorem doorCheck_door {d : Loadlock} (h : Volume.ofNum n = some (.ll d)) : doorCheck l n s
    = if !s.fitted (.ll d) then .error .notFitted else if l ≠ .txc then .error .owner else .ok d := by
  simp only [doorCheck, h]

end Checks

section Refused
variable {l : Link} {n : Nat} {e : Reason} {i : Instr} {req : Request} {s : State} (tag : Byte)

/-- What the check finds refuses OPEN SLIT and CLOSE SLIT alike. -/
theorem slits_refused (mem : (i, req) ∈ [(.openSlit l tag n, .openSlit n), (.closeSlit l tag n, .closeSlit n)])
    (check : slitCheck l n (hear l s) = .error e) : exec i s = .next (answered l tag req (refuse e) (hear l s)) := by
  simp only [List.mem_cons, List.not_mem_nil, or_false, Prod.mk.injEq] at mem
  rcases mem with ⟨rfl, rfl⟩ | ⟨rfl, rfl⟩
  · exact request_answered tag rfl rfl (by rw [serve, onOpenSlit, check])
  · exact request_answered tag rfl rfl (by rw [serve, onCloseSlit, check])

/-- What the check finds refuses OPEN DOOR and CLOSE DOOR alike. -/
theorem doors_refused (mem : (i, req) ∈ [(.openDoor l tag n, .openDoor n), (.closeDoor l tag n, .closeDoor n)])
    (check : doorCheck l n (hear l s) = .error e) : exec i s = .next (answered l tag req (refuse e) (hear l s)) := by
  simp only [List.mem_cons, List.not_mem_nil, or_false, Prod.mk.injEq] at mem
  rcases mem with ⟨rfl, rfl⟩ | ⟨rfl, rfl⟩
  · exact request_answered tag rfl rfl (by rw [serve, onOpenDoor, check])
  · exact request_answered tag rfl rfl (by rw [serve, onCloseDoor, check])

end Refused

/-! ## The tests (R148, R149, R151) -/

theorem atRest_iff (s : State) (v : Volume) : atRest s v = true ↔ (s.vol v).state = .idle ∨ (s.vol v).state = .hold := by
  simp [atRest]

theorem codesMatch_iff (s : State) (v w : Volume) : codesMatch s v w = true ↔
    ∃ p q, s.code? (.vol v) = some p ∧ s.code? (.vol w) = some q ∧ ((p - q).natAbs : Int) ≤ s.items.matchWindow := by
  unfold codesMatch
  split
  next p q hp hq => simp [hp, hq]
  next missing =>
    simp only [Bool.false_eq_true, false_iff]
    rintro ⟨p, q, hp, hq, -⟩
    exact missing p q hp hq

/-- What bars a slit on its own side (R148, R149): a chamber that does not allow the transfer or has gas or RF on; a loadlock
whose door is not shut. -/
def sideBarred (s : State) : Slit → Bool
  | .ch c => !s.tiu.allow.get c || s.hasCommitment c || (s.reuOf c).rfOn
  | .ll d => s.tiu.doors.get d || !s.fn (.door d)

theorem sideBarred_eq_false_iff (s : State) (w : Slit) : sideBarred s w = false ↔
    (∀ c, w = .ch c → s.tiu.allow.get c = true ∧ (∀ k, (s.row c k).commitment = 0) ∧ (s.reuOf c).rfOn = false)
      ∧ ∀ d, w = .ll d → s.tiu.doors.get d = false ∧ s.fn (.door d) = true := by
  cases w with
  | ch c => simp [sideBarred, ← hasCommitment_eq_false_iff, and_assoc]
  | ll d => simp [sideBarred]

section Tests
variable {s : State}

theorem slitTest_eq (s : State) (w : Slit) : slitTest s w =
    if !s.cfg.serving then some .config
    else if s.fn .emergencyOff then some .permit
    else if !(atRest s w.volume && atRest s .tc) then some .state
    else if sideBarred s w then some .interlock
    else if !codesMatch s w.volume .tc then some .interlock
    else none := by
  cases w <;> rfl

theorem slitTest_config (w : Slit) (configuring : s.cfg.serving = false) : slitTest s w = some .config := by
  simp [slitTest, configuring]

theorem slitTest_permit (w : Slit) (serving : s.cfg.serving = true) (off : s.fn .emergencyOff = true) :
    slitTest s w = some .permit := by
  simp [slitTest, serving, off]

theorem slitTest_state {w : Slit} (serving : s.cfg.serving = true) (on : s.fn .emergencyOff = false)
    (busy : ¬(atRest s w.volume = true ∧ atRest s .tc = true)) : slitTest s w = some .state := by
  simp [slitTest, serving, on, busy]

/-- Past the state test only INTERLOCK can refuse. -/
theorem slitTest_interlock {w : Slit} (serving : s.cfg.serving = true) (on : s.fn .emergencyOff = false)
    (own : atRest s w.volume = true) (tc : atRest s .tc = true) :
    slitTest s w = none ∨ slitTest s w = some .interlock := by
  rw [slitTest_eq, serving, on, own, tc]
  cases sideBarred s w <;> cases codesMatch s w.volume .tc <;> simp

theorem slitTest_eq_none_iff (w : Slit) : slitTest s w = none ↔ s.cfg.serving = true ∧ s.fn .emergencyOff = false
    ∧ (atRest s w.volume = true ∧ atRest s .tc = true) ∧ sideBarred s w = false
    ∧ codesMatch s w.volume .tc = true := by
  simp [slitTest_eq, ite_eq_iff]

theorem doorTest_config (d : Loadlock) (configuring : s.cfg.serving = false) : doorTest s d = some .config := by
  simp [doorTest, configuring]

theorem doorTest_permit (d : Loadlock) (serving : s.cfg.serving = true) (off : s.fn .emergencyOff = true) :
    doorTest s d = some .permit := by
  simp [doorTest, serving, off]

theorem doorTest_state {d : Loadlock} (serving : s.cfg.serving = true) (on : s.fn .emergencyOff = false)
    (busy : ¬atRest s (.ll d) = true) : doorTest s d = some .state := by
  simp [doorTest, serving, on, busy]

/-- Past the state test only INTERLOCK can refuse. -/
theorem doorTest_interlock {d : Loadlock} (serving : s.cfg.serving = true) (on : s.fn .emergencyOff = false)
    (rest : atRest s (.ll d) = true) : doorTest s d = none ∨ doorTest s d = some .interlock := by
  rw [doorTest, serving, on, rest]
  cases s.tiu.slits.get (.ll d) <;> cases s.atOrAbove (.vol (.ll d)) (588 - s.items.ventMargin) <;> simp

theorem doorTest_eq_none_iff (d : Loadlock) : doorTest s d = none ↔ s.cfg.serving = true ∧ s.fn .emergencyOff = false
    ∧ atRest s (.ll d) = true ∧ s.tiu.slits.get (.ll d) = false
    ∧ s.atOrAbove (.vol (.ll d)) (588 - s.items.ventMargin) = true := by
  simp [doorTest, ite_eq_iff]

end Tests

/-! ## The requests past their checks -/

section Accepted
variable {l : Link} {n : Nat} {s : State}

section Slits
variable {w : Slit} (check : slitCheck l n s = .ok w)
include check

theorem onOpenSlit_open (stands : s.tiu.slits.get w = true) : onOpenSlit l n s = (s, ok) := by
  rw [onOpenSlit, check]
  exact if_pos stands

theorem onOpenSlit_refused {e : Reason} (shut : s.tiu.slits.get w = false) (test : slitTest s w = some e) :
    onOpenSlit l n s = (s, refuse e) := by
  simp [onOpenSlit, check, shut, test]

theorem onOpenSlit_passes (shut : s.tiu.slits.get w = false) (test : slitTest s w = none) :
    onOpenSlit l n s = (finish (setSlit w true s), ok) := by
  simp [onOpenSlit, check, shut, test]

theorem onCloseSlit_eq : onCloseSlit l n s =
    if s.tiu.slits.get w then (finish (setSlit w false s), ok) else (s, ok) := by
  rw [onCloseSlit, check]

end Slits

section Doors
variable {d : Loadlock} (check : doorCheck l n s = .ok d)
include check

theorem onOpenDoor_open (stands : s.tiu.doors.get d = true) : onOpenDoor l n s = (s, ok) := by
  rw [onOpenDoor, check]
  exact if_pos stands

theorem onOpenDoor_refused {e : Reason} (shut : s.tiu.doors.get d = false) (test : doorTest s d = some e) :
    onOpenDoor l n s = (s, refuse e) := by
  simp [onOpenDoor, check, shut, test]

theorem onOpenDoor_passes (shut : s.tiu.doors.get d = false) (test : doorTest s d = none) :
    onOpenDoor l n s = (setDoor d true s, ok) := by
  simp [onOpenDoor, check, shut, test]

theorem onCloseDoor_eq : onCloseDoor l n s = (setDoor d false s, ok) := by
  rw [onCloseDoor, check]

end Doors

end Accepted

/-- Settles O48: the checks, then the tests in their order, then the one command and its notice. -/
theorem slitAndDoorRequests : Obligations.SlitAndDoorRequests := by
  refine ⟨fun l tag n i req s mem => ⟨fun out => slits_refused tag mem (slitCheck_range out), fun w named =>
      ⟨fun unfitted => slits_refused tag mem ?_, fun fitted other => slits_refused tag mem ?_⟩⟩,
    fun l tag n i req s mem => ⟨fun out => doors_refused tag mem (doorCheck_range out), fun d named =>
      ⟨fun unfitted => doors_refused tag mem ?_, fun fitted other => doors_refused tag mem ?_⟩⟩,
    fun l tag n w s named fitted own => ?_, fun l tag n d s named fitted own => ?_⟩
  · simp [slitCheck_slit named, unfitted]
  · simp [slitCheck_slit named, fitted, other]
  · simp [doorCheck_door named, unfitted]
  · simp [doorCheck_door named, fitted, other]
  · have check : slitCheck l n (hear l s) = .ok w := by simp [slitCheck_slit named, fitted, own]
    obtain rfl := Volume.ofNum_eq_some.1 named
    refine ⟨fun stands => ⟨request_answered tag rfl rfl (onOpenSlit_open check stands),
        request_answered tag rfl rfl (((onCloseSlit_eq check).trans (if_pos stands)).trans ?_)⟩,
      fun shut => ⟨request_answered tag rfl rfl ((onCloseSlit_eq check).trans (if_neg (by simp [shut]))),
        fun e test => request_answered tag rfl rfl (onOpenSlit_refused check shut test),
        fun test => request_answered tag rfl rfl ((onOpenSlit_passes check shut test).trans ?_)⟩,
      slitTest_config w, slitTest_permit w, fun serving on busy => slitTest_state serving on ?_,
      fun serving on rest tc => slitTest_interlock serving on ((atRest_iff s _).2 rest) ((atRest_iff s _).2 tc), ?_⟩
    · cases w <;> rfl
    · cases w <;> rfl
    · rwa [atRest_iff, atRest_iff]
    · rw [slitTest_eq_none_iff, atRest_iff, atRest_iff, sideBarred_eq_false_iff, codesMatch_iff, and_assoc, and_assoc]
  · have check : doorCheck l n (hear l s) = .ok d := by simp [doorCheck_door named, fitted, own]
    refine ⟨request_answered tag rfl rfl (onCloseDoor_eq check),
      fun stands => request_answered tag rfl rfl (onOpenDoor_open check stands),
      fun shut => ⟨fun e test => request_answered tag rfl rfl (onOpenDoor_refused check shut test),
        fun test => request_answered tag rfl rfl (onOpenDoor_passes check shut test)⟩,
      doorTest_config d, doorTest_permit d, fun serving on busy => doorTest_state serving on ?_,
      fun serving on rest => doorTest_interlock serving on ((atRest_iff s _).2 rest), ?_⟩
    · rwa [atRest_iff]
    · rw [doorTest_eq_none_iff, atRest_iff, atOrAbove_iff]

end Sys2Proof.Machine
end

section
/-! Proof of the statement about INPUT_LINE_READ: the value of a function, what its change leaves alone, and what the change of
each function does (R84, R88, R110, R134, R138, R140, R152, R153). -/

namespace Sys2Proof.Machine

open Sys2Proof

/-! ## Lines and the values of functions (R152) -/

theorem lineAsserted_iff (t : Items) (x : BitVec 24) (n : Nat) : lineAsserted t (some x) n = true ↔
    (x.getLsbD (n - 1) = true ↔ atPlace t.inputPolarity n = 0) := by
  have level : lineAsserted t (some x) n = (x.getLsbD (n - 1) == (atPlace t.inputPolarity n == 0)) := rfl
  rw [level]
  cases x.getLsbD (n - 1) <;> simp

theorem mem_mappedLines {t : Items} {f : InputFn} {n : Nat} :
    n ∈ mappedLines t f ↔ (1 ≤ n ∧ n ≤ 24) ∧ atPlace t.inputMap n = f.num := by
  have number : n ∈ lineNumbers ↔ 1 ≤ n ∧ n ≤ 24 := by
    simp only [lineNumbers, List.mem_map, List.mem_range]
    exact ⟨fun ⟨m, low, e⟩ => by omega, fun ⟨low, high⟩ => ⟨n - 1, by omega, by omega⟩⟩
  rw [mappedLines, List.mem_filter, number, beq_iff_eq]

theorem functionValue_iff {t : Items} {x : Option (BitVec 24)} {f : InputFn} (other : f ≠ .emergencyOff) :
    functionValue t x f = true ↔ (∃ n, 1 ≤ n ∧ n ≤ 24 ∧ atPlace t.inputMap n = f.num)
      ∧ ∀ n, 1 ≤ n → n ≤ 24 → atPlace t.inputMap n = f.num → lineAsserted t x n = true := by
  have mapped : (mappedLines t f).isEmpty = false ↔ ∃ n, 1 ≤ n ∧ n ≤ 24 ∧ atPlace t.inputMap n = f.num := by
    simp only [List.isEmpty_eq_false_iff_exists_mem, mem_mappedLines, and_assoc]
  unfold functionValue
  dsimp only
  rw [if_neg other, Bool.and_eq_true, Bool.not_eq_true', mapped, List.all_eq_true]
  simp only [mem_mappedLines, and_imp]

theorem functionValue_emergencyOff (t : Items) (x : Option (BitVec 24)) : functionValue t x .emergencyOff = true ↔
    ∃ n, 1 ≤ n ∧ n ≤ 24 ∧ atPlace t.inputMap n = 3 ∧ lineAsserted t x n = true := by
  unfold functionValue
  dsimp only
  rw [if_pos rfl, List.any_eq_true]
  simp only [mem_mappedLines, and_assoc]
  rfl

/-! ## A function and what its change leaves alone (R153) -/

/-- The state on which the blocks act when a function has just changed: the function has its new value. -/
def withFunction (f : InputFn) (x : Bool) (s : State) : State := { s with flu := { s.flu with fns := s.flu.fns.set f x } }

theorem withFunction_fn_self (f : InputFn) (x : Bool) (s : State) : (withFunction f x s).fn f = x :=
  Per18.get_set_self s.flu.fns f x

theorem withFunction_fn_ne {f g : InputFn} (x : Bool) (s : State) (ne : g ≠ f) : (withFunction f x s).fn g = s.fn g :=
  Per18.get_set_ne s.flu.fns f g x ne

theorem withFunction_fn (f : InputFn) (s : State) : withFunction f (s.fn f) s = s := by
  simp [withFunction, State.fn]

theorem plasmaChanged_eventFrame (c : Chamber) (x : Bool) (s : State) : EventFrame s (plasmaChanged c x s) := by
  unfold plasmaChanged
  split
  · split
    · exact .refl s
    · split <;> exact .refl s
  · exact .refl s

theorem turboLoss_eventFrame (t : Turbo) (s : State) : EventFrame s (turboLoss t s) := by
  unfold turboLoss
  dsimp only
  split
  · exact takeFault_eventFrame _ _ s
  · exact setGate_eventFrame _ false s

/-- What a change leads to stays inside the frame of an event. -/
theorem functionChanged_eventFrame (f : InputFn) (x : Bool) (s : State) :
    EventFrame (withFunction f x s) (functionChanged f x s) := by
  cases f with
  | facilityGasOk => exact foldl_eventFrame _ (fun t c => permitLoss_eventFrame c t) _ _
  | exhaustOk => exact foldl_eventFrame _ (fun t c => permitLoss_eventFrame c t) _ _
  | emergencyOff =>
    cases x with
    | true =>
      rw [functionChanged_emergency]
      exact (emergencyStopped_eventFrame s).trans (setFlags_eventFrame _ _ _)
    | false => exact .refl _
  | plasma c => exact plasmaChanged_eventFrame c x _
  | lid c => exact .refl _
  | turbo t =>
    unfold functionChanged
    dsimp only
    split
    · exact turboLoss_eventFrame t _
    · exact .refl _
  | door d => exact .refl _

/-- A function recomputed takes its value; what follows stays inside the frame of an event. -/
theorem updateFunction_eventFrame (s : State) (f : InputFn) :
    EventFrame (withFunction f (functionValue s.items s.flu.levels f) s) (updateFunction s f) := by
  unfold updateFunction
  dsimp only
  split
  next same =>
    rw [same, withFunction_fn]
    exact .refl s
  · exact (functionChanged_eventFrame f _ s).trans (finish_eventFrame _)

/-- What the recomputing of the functions leaves alone. -/
structure Recomputed (s t : State) : Prop where
  levels : t.flu.levels = s.flu.levels
  cfg : t.cfg = s.cfg
  tiu : t.tiu = s.tiu
  gauges : t.pec.gauges = s.pec.gauges
  base : t.base = s.base
  pending : t.pending = s.pending
  enable : t.gat.enable = s.gat.enable

theorem updateFunction_recomputed {s t : State} (h : Recomputed s t) (f : InputFn) : Recomputed s (updateFunction t f) := by
  obtain ⟨cfg, flu, tiu, enable, -, gauges, -, -, -, base, pending, -⟩ := updateFunction_eventFrame t f
  exact ⟨(congrArg Flu.levels flu).trans h.levels, cfg.trans h.cfg, tiu.trans h.tiu, gauges.trans h.gauges,
    base.trans h.base, pending.trans h.pending, enable.trans h.enable⟩

theorem recompute_recomputed (s : State) : Recomputed s (recompute s) :=
  foldl_kept (fun _ f h => updateFunction_recomputed h f) ⟨rfl, rfl, rfl, rfl, rfl, rfl, rfl⟩

theorem updateFunction_fn_self (s : State) (f : InputFn) :
    (updateFunction s f).fn f = functionValue s.items s.flu.levels f :=
  ((updateFunction_eventFrame s f).fn f).trans (withFunction_fn_self f _ s)

theorem updateFunction_fn_ne (s : State) {f g : InputFn} (ne : g ≠ f) : (updateFunction s f).fn g = s.fn g :=
  ((updateFunction_eventFrame s f).fn g).trans (withFunction_fn_ne _ s ne)

theorem mem_inputFns (f : InputFn) : f ∈ InputFn.all := by
  rcases f with _ | _ | _ | c | c | (c | _) | d
  · decide
  · decide
  · decide
  · cases c <;> decide
  · cases c <;> decide
  · cases c <;> decide
  · decide
  · cases d <;> decide

theorem nodup_inputFns : InputFn.all.Nodup := by decide

/-- Every function has the value of its lines after its own turn, and keeps it through the turns of the others. -/
theorem recompute_fn (s : State) (f : InputFn) : (recompute s).fn f = functionValue s.items s.flu.levels f := by
  obtain ⟨t, kept, -, turn⟩ := foldl_reading_at (f := updateFunction) (get := State.fn) (P := Recomputed s)
    (fun t g h => updateFunction_recomputed h g) (fun t g h ne => updateFunction_fn_ne t ne) InputFn.all nodup_inputFns s
    ⟨rfl, rfl, rfl, rfl, rfl, rfl, rfl⟩ f (mem_inputFns f)
  rw [recompute, turn, updateFunction_fn_self, State.items, kept.cfg, kept.levels]
  rfl

/-! ## The loss of FACILITY_GAS_OK or EXHAUST_OK (R110) -/

/-- The functions that every chamber's gas permit needs (R109). -/
def NeededByPermits (f : InputFn) : Prop := f = .facilityGasOk ∨ f = .exhaustOk

section Permits
variable {f : InputFn} (needed : NeededByPermits f) (s : State)
include needed

theorem functionChanged_permits (x : Bool) : functionChanged f x s
    = (permitsLost s (withFunction f x s)).foldl (fun t c => permitLoss c t) (withFunction f x s) := by
  rcases needed with rfl | rfl <;> rfl

theorem permit_withFunction_false (c : Chamber) : (withFunction f false s).permit c = false := by
  have off := withFunction_fn_self f false s
  rcases needed with rfl | rfl <;> simp [State.permit, off]

theorem permit_withFunction_true {c : Chamber} (permit : s.permit c = true) :
    (withFunction f true s).permit c = true := by
  obtain ⟨gas, exhaust, enable, emergency⟩ := (permit_iff s c).1 permit
  have on := withFunction_fn_self f true s
  have others := fun g => withFunction_fn_ne (f := f) (g := g) true s
  refine (permit_iff _ c).2 ⟨?_, ?_, enable, ?_⟩
  · by_cases own : .facilityGasOk = f
    · exact own ▸ on
    · exact (others _ own).trans gas
  · by_cases own : .exhaustOk = f
    · exact own ▸ on
    · exact (others _ own).trans exhaust
  · exact (others _ (by rcases needed with rfl | rfl <;> exact nofun)).trans emergency

theorem functionChanged_permits_gained : functionChanged f true s = withFunction f true s := by
  have none : permitsLost s (withFunction f true s) = [] := by
    refine List.filter_eq_nil_iff.2 fun c _ lost => ?_
    obtain ⟨held, gone⟩ := Bool.and_eq_true_iff.1 lost
    simp [permit_withFunction_true needed s held] at gone
  rw [functionChanged_permits needed, none, List.foldl_nil]

theorem mem_permitsLost {c : Chamber} : c ∈ permitsLost s (withFunction f false s) ↔ s.permit c = true := by
  simp [permitsLost, Chamber.mem_all, permit_withFunction_false needed]

end Permits

theorem permitLoss_oneVolume (c : Chamber) (s : State) : OneVolume (.ch c) s (permitLoss c s) := by
  rcases permitLoss_cases c s with h | h <;> rw [h]
  · exact takeFault_oneVolume _ _ s
  · exact setFlag?_oneVolume _ (some .permitLost) s

section Lost
variable {f : InputFn} (needed : NeededByPermits f) (s : State)
include needed

/-- A volume that is no chamber takes no part in a permit loss. -/
theorem functionChanged_permits_other {v : Volume} (other : v.chamber? = none) :
    (functionChanged f false s).vol v = s.vol v := by
  rw [functionChanged_permits needed]
  refine foldl_kept (P := fun t => t.vol v = s.vol v) (fun t c h => ?_) rfl
  refine (permitLoss_vol_ne fun e => ?_).trans h
  subst e
  exact nomatch other

/-- Nor does a chamber that had no permit. -/
theorem functionChanged_permits_kept {c : Chamber} (none : s.permit c = false) :
    (functionChanged f false s).vol (.ch c) = s.vol (.ch c) := by
  rw [functionChanged_permits needed]
  refine foldl_reading_of_notMem (f := fun t d => permitLoss d t) (get := fun t d => t.vol (.ch d))
    (fun t d e ne => permitLoss_vol_ne fun same => ne (Volume.ch.inj same)) _ (withFunction f false s) c fun mem => ?_
  exact Bool.false_ne_true (none.symm.trans ((mem_permitsLost needed s).1 mem))

/-- A chamber whose permit held takes its turn from a state that holds its sequencer and its commitments as they were. -/
theorem functionChanged_permits_turn {c : Chamber} (held : s.permit c = true) : ∃ t : State, t.vol (.ch c) = s.vol (.ch c)
    ∧ t.fitted (.ch c) = s.fitted (.ch c) ∧ t.hasCommitment c = s.hasCommitment c
    ∧ (functionChanged f false s).vol (.ch c) = (permitLoss c t).vol (.ch c) := by
  obtain ⟨t, ⟨fitted, gas⟩, same, turn⟩ := foldl_reading_at (f := fun t d => permitLoss d t)
    (get := fun t d => t.vol (.ch d))
    (P := fun t => t.fitted (.ch c) = s.fitted (.ch c) ∧ t.hasCommitment c = s.hasCommitment c)
    (fun t d ⟨fitted, gas⟩ => ⟨((permitLoss_eventFrame d t).fitted _).trans fitted,
      ((permitLoss_oneVolume d t).hasCommitment c).trans gas⟩)
    (fun t d e ne => permitLoss_vol_ne fun same => ne (Volume.ch.inj same)) (permitsLost s (withFunction f false s))
    (nodup_chambers.filter _) (withFunction f false s) ⟨rfl, rfl⟩ c ((mem_permitsLost needed s).2 held)
  rw [functionChanged_permits needed]
  exact ⟨t, same, fitted, gas, turn⟩

/-- The loss flags a chamber whose permit held, and stops it where gas was promised to its step or its wind-down. -/
theorem functionChanged_permits_lost {c : Chamber} (held : s.permit c = true) (fitted : s.fitted (.ch c) = true) :
    ((functionChanged f false s).vol (.ch c)).hasFlag .permitLost = true
      ∧ ((s.vol (.ch c)).state = .running ∨ (s.vol (.ch c)).state = .ending → s.hasCommitment c = true →
          ((functionChanged f false s).vol (.ch c)).state = .safing
            ∧ ∃ h, ((functionChanged f false s).vol (.ch c)).hold = some h ∧ h.cause = .permitLost)
      ∧ ((s.vol (.ch c)).state = .safing ∨ (s.vol (.ch c)).state = .hold ∨ (s.vol (.ch c)).state = .idle
            ∨ s.hasCommitment c = false →
          (functionChanged f false s).vol (.ch c)
            = { s.vol (.ch c) with flags := ((functionChanged f false s).vol (.ch c)).flags }) := by
  obtain ⟨t, same, still, gas, turn⟩ := functionChanged_permits_turn needed s held
  rw [turn, ← same, ← gas]
  refine ⟨permitLoss_hasFlag (still.trans fitted), fun moving promised => ?_, permitLoss_flagged⟩
  obtain ⟨safing, h, hold, cause, -⟩ := permitLoss_safing (still.trans fitted) moving promised
  exact ⟨safing, h, hold, cause⟩

end Lost

/-! ## TURBO (R84, R88) -/

theorem gateOpen_turbo (s : State) (t : Turbo) : s.gateOpen t.volume = s.gates.getT t := by cases t <;> rfl

theorem turboAtSpeed_turbo (s : State) (t : Turbo) : turboAtSpeed s t.volume = s.fn (.turbo t) := by cases t <;> rfl

theorem functionChanged_turbo_kept {t : Turbo} {x : Bool} {s : State} (kept : x = true ∨ s.gateOpen t.volume = false) :
    functionChanged (.turbo t) x s = withFunction (.turbo t) x s := by
  rw [gateOpen_turbo] at kept
  refine if_neg fun lost => ?_
  obtain ⟨low, stands⟩ := Bool.and_eq_true_iff.1 lost
  rcases kept with rfl | shut
  · exact Bool.false_ne_true low
  · exact Bool.false_ne_true (shut.symm.trans stands)

theorem functionChanged_turbo_lost {t : Turbo} {s : State} (stands : s.gateOpen t.volume = true) :
    functionChanged (.turbo t) false s = turboLoss t (withFunction (.turbo t) false s) := by
  rw [gateOpen_turbo] at stands
  exact if_pos (Bool.and_eq_true_iff.2 ⟨rfl, stands⟩)

theorem turboLoss_faults {t : Turbo} {s : State}
    (moving : (s.vol t.volume).state = .running ∨ (s.vol t.volume).state = .ending) :
    turboLoss t s = takeFault t.volume .turboLost s := if_pos moving

theorem turboLoss_shuts {t : Turbo} {s : State} (still : (s.vol t.volume).state = .safing ∨ (s.vol t.volume).state = .hold
    ∨ (s.vol t.volume).state = .idle) : turboLoss t s = s.setGate t.volume false := by
  refine if_neg fun moving => ?_
  rcases still with state | state | state <;> simp [state] at moving

/-- A fault whose cause closes the gate leaves it closed (R55, R56). -/
theorem takeFault_gate {v : Volume} {k : HoldCause} {s : State} (fitted : s.fitted v = true)
    (moving : (s.vol v).state = .running ∨ (s.vol v).state = .ending) (closes : k.closesGate = true) :
    (takeFault v k s).gateOpen v = false := by
  rcases moving with running | ending
  · have state : ((setFlag? v k.flag s).vol v).state = .running := by rw [setFlag?_flagsOnly]; exact running
    simp only [takeFault, fitted, if_true, state]
    rw [enterSafing, windDown_gate]
    simp [Vol.holdRecord, closes]
  · obtain ⟨-, -, course⟩ := faultCourse
    obtain ⟨-, -, ends, -⟩ := course v k s fitted
    obtain ⟨-, -, gate⟩ := ends ending
    exact gate closes

/-- A turbo lost under an open gate stops its volume's step or wind-down, and closes the gate. -/
theorem functionChanged_turbo_faults {t : Turbo} {s : State} (stands : s.gateOpen t.volume = true)
    (moving : (s.vol t.volume).state = .running ∨ (s.vol t.volume).state = .ending) (fitted : s.fitted t.volume = true) :
    ((functionChanged (.turbo t) false s).vol t.volume).state = .safing
      ∧ (functionChanged (.turbo t) false s).gateOpen t.volume = false
      ∧ ∃ h, ((functionChanged (.turbo t) false s).vol t.volume).hold = some h ∧ h.cause = .turboLost := by
  obtain ⟨-, -, course⟩ := faultCourse
  obtain ⟨-, runs, ends, -⟩ := course t.volume .turboLost (withFunction (.turbo t) false s) fitted
  rw [functionChanged_turbo_lost stands, turboLoss_faults (s := withFunction (.turbo t) false s) moving]
  have gate := takeFault_gate (k := .turboLost) (s := withFunction (.turbo t) false s) fitted moving rfl
  rcases moving with running | ending
  · obtain ⟨safing, hold, -⟩ := runs running
    exact ⟨safing, gate, _, hold, rfl⟩
  · obtain ⟨safing, hold, -⟩ := ends ending
    exact ⟨safing, gate, _, hold, rfl⟩

theorem turboReady?_waiting {t : Turbo} {r : StepRecord} {s : State} (h : inPhase s t.volume .turboWait = some r) :
    turboReady? t.volume s = if s.fn (.turbo t) then some (enterHighPump t.volume s) else none := by
  simp only [turboReady?, h, turboAtSpeed_turbo]

/-! ## PLASMA (R134, R138, R140) -/

section Plasma
variable {c : Chamber} {r : StepRecord} {s : State}

/-- Plasma lost in CONFIRM returns to IGNITE (R138). -/
theorem plasmaChanged_confirm (h : inPhase s (.ch c) .confirm = some r) : plasmaChanged c false s
    = (s.modVol (.ch c) fun y => { y with phase := .ignite }).modReu c fun y => { y with confirmCount := 0 } := by
  obtain ⟨running, phase, current⟩ := inPhase_eq_some.1 h
  simp [plasmaChanged, runningStep_eq_some.2 ⟨running, current⟩, phase]

/-- Plasma gained in the ETCH phase clears the dropout timer (R140). -/
theorem plasmaChanged_etch (h : inPhase s (.ch c) .etch = some r) :
    plasmaChanged c true s = s.modReu c fun y => { y with dropout := 0 } := by
  obtain ⟨running, phase, current⟩ := inPhase_eq_some.1 h
  simp [plasmaChanged, runningStep_eq_some.2 ⟨running, current⟩, phase]

theorem plasmaChanged_else {x : Bool} (confirm : inPhase s (.ch c) .confirm = none ∨ x = true)
    (etch : inPhase s (.ch c) .etch = none ∨ x = false) : plasmaChanged c x s = s := by
  unfold plasmaChanged
  split
  next r step =>
    obtain ⟨running, current⟩ := runningStep_eq_some.1 step
    have inPhase : ∀ {p}, (s.vol (.ch c)).phase = p → inPhase s (.ch c) p = some r := fun phase =>
      inPhase_eq_some.2 ⟨running, phase, current⟩
    rw [if_neg, if_neg]
    · rintro ⟨phase, rfl⟩
      simp [inPhase phase] at etch
    · rintro ⟨phase, rfl⟩
      simp [inPhase phase] at confirm
  · rfl

theorem plasmaLit?_ignited (h : inPhase s (.ch c) .ignite = some r) : plasmaLit? c s = if s.fn (.plasma c) then
    some ((s.modVol (.ch c) fun x => { x with phase := .confirm }).modReu c fun u => { u with confirmCount := 0 })
    else none := by
  simp only [plasmaLit?, h]

end Plasma

/-! ## The statement -/

theorem updateFunction_kept {s : State} {f : InputFn} (same : functionValue s.items s.flu.levels f = s.fn f) :
    updateFunction s f = s := if_pos same

theorem updateFunction_changed {s : State} {f : InputFn} (changed : functionValue s.items s.flu.levels f = !s.fn f) :
    updateFunction s f = finish (functionChanged f (!s.fn f) s) := by
  unfold updateFunction
  dsimp only
  rw [changed, if_neg (by simp)]

theorem atPlace_getElem? {n : Nat} (p : List Int) (low : 1 ≤ n) : atPlace p n = p[n - 1]?.getD 0 := by
  rw [atPlace, if_neg (Nat.ne_of_gt low), List.getD_eq_getElem?_getD]

/-- Settles O36, function by function. -/
theorem inputLinesRead : Obligations.InputLinesRead := by
  refine ⟨fun x s => ?_, lineAsserted_iff, fun _ _ => rfl, fun p n => atPlace_getElem? p, fun t x f => functionValue_iff,
    functionValue_emergencyOff, fun _ _ => rfl, rfl, fun f s => ⟨updateFunction_kept, updateFunction_changed⟩,
    fun f x s => ⟨withFunction f x s, rfl, withFunction_fn_self f x s, fun g => withFunction_fn_ne x s, ?_, ?_, ?_, ?_, ?_⟩,
    fun s => ⟨fun t r waiting => ?_, fun c r ignited => ?_⟩⟩
  · have kept := recompute_recomputed { s with flu := { s.flu with levels := some x } }
    exact ⟨recompute { s with flu := { s.flu with levels := some x } }, rfl, kept.levels, recompute_fn _, kept.cfg, kept.tiu,
      kept.gauges, kept.base, kept.pending, kept.enable⟩
  · obtain ⟨-, flu, -⟩ := functionChanged_eventFrame f x s
    exact flu
  · rintro (⟨c, rfl⟩ | ⟨d, rfl⟩ | ⟨rfl, rfl⟩) <;> rfl
  · intro needed
    refine ⟨?_, ?_⟩
    · rintro rfl
      exact functionChanged_permits_gained needed s
    · rintro rfl - v
      refine ⟨functionChanged_permits_other needed s, ?_⟩
      rintro c rfl
      exact ⟨functionChanged_permits_kept needed s, functionChanged_permits_lost needed s⟩
  · rintro t rfl
    refine ⟨functionChanged_turbo_kept, ?_⟩
    rintro rfl stands
    exact ⟨functionChanged_turbo_faults stands, fun still =>
      (functionChanged_turbo_lost stands).trans (turboLoss_shuts (s := withFunction (.turbo t) false s) still)⟩
  · rintro c rfl
    refine ⟨?_, ?_, plasmaChanged_else (s := withFunction (.plasma c) x s)⟩
    · rintro r confirm rfl
      exact plasmaChanged_confirm (s := withFunction (.plasma c) false s) confirm
    · rintro r etch rfl
      exact plasmaChanged_etch (s := withFunction (.plasma c) true s) etch
  · rw [turboReady?_waiting waiting]
    exact ⟨fun on => if_pos on, fun off => if_neg (by simp [off])⟩
  · rw [plasmaLit?_ignited ignited]
    exact ⟨fun on => if_pos on, fun off => if_neg (by simp [off])⟩

end Sys2Proof.Machine
end
